-- ==== Sys2Proof/Word.lean ====
section
/-!
DEFINITION. Word types and the plain sparse map all storage of the block is kept in.
-/
namespace Sys2Proof

/-- A register word, 32 bits (03 R56). -/
abbrev Word := BitVec 32

/-- A byte of a memory. -/
abbrev Byte := BitVec 8

/-- Sparse storage by a natural key: keys strictly rising, no entry equal to what an unlisted key reads as. -/
abbrev SMap (α : Type) := List (Nat × α)

/-- A device-time value (02 R28): a count of 10 ns / 256, in whole numbers. -/
abbrev DT := Nat

end Sys2Proof
end

