-- ==== Sys2Proof/Syntax.lean ====
section
/-!
DEFINITION. The commands of the block, one constructor for each row of the table of operations and events, with the
operands each needs: addresses, data, and for an event what was measured or decided outside the part.
-/
namespace Sys2Proof

/-- Who makes a register access (02 R27, 03 R59 MASTER codes): the PCIe endpoint, the quad-SPI slave, the service
firmware for an Ethernet connection (0, 1 on ETH0; 2, 3 on ETH1), a lockstep pair for itself, or a DMA channel. -/
inductive Origin where
  | pcie
  | hspi
  | eth (k : Fin 4)
  | sp0
  | sp1
  | dma (n : Fin 16)
  deriving DecidableEq, Repr

/-- The controllable clock islands of CLOCK.ISL_CTRL (02 R37). -/
inductive Island where
  | probe | plan | ctl | pwm | gnss
  deriving DecidableEq, Repr

/-- The three dies (01). -/
inductive Die where
  | logic | field | rf
  deriving DecidableEq, Repr

/-- A command descriptor as the Porch read it (05 R100): the ring, the index it was read at, FLAGS, HANDLE, TAG,
SESSION and the 56 ARGS bytes. The opcode is the constructor. -/
structure Cmd where
  ring : Fin 4
  idx : BitVec 10
  flags : BitVec 8
  handle : BitVec 8
  tag : BitVec 16
  sess : BitVec 16
  args : List Byte
  deriving DecidableEq, Repr

/-- What the boot ROM finds in one firmware image, with its payload length (19 R403, R404); the SVN comparison is the
block's own. -/
structure ImageInfo where
  headerOk : Bool
  keyIdx : Bool
  rootHashOk : Bool
  sigOk : Bool
  hashOk : Bool
  svn : BitVec 7
  certLine : Bool
  len : BitVec 24
  deriving DecidableEq, Repr

/-- The inner message of an Ethernet protected message (05 R96, 19 R411). -/
inductive EthInner where
  | command (desc : List Byte)
  | regFrame (hdr : BitVec 40) (data : List Word)
  | other
  deriving DecidableEq, Repr

/-- What the erase, program and read-back of one 64 KB block of FIRMWARE_STAGE find (19 R405). -/
inductive FlashStep where
  | written
  | flashError
  deriving DecidableEq, Repr

/-- A part of an NMEA 2000 pose measurement, converted into the field frame (18 R379). -/
inductive N2kPart where
  | position (e n : BitVec 32)
  | cogSog (v : BitVec 32) (course : BitVec 32)
  | gnss (method : Nat) (hdop : Nat) (u : BitVec 32)
  | heading (h : BitVec 32)
  deriving DecidableEq, Repr


/-- What the positioning service finds at a measurement epoch (17 R357 to R363): the epoch's DT, satellites used and
constellations, satellites with SBAS corrections and whether integrity data is younger than 12 s, satellites with common
signals for RTK and whether ambiguities are validated, PDOP in tenths, the pose record of the solution, the measured
baseline in mm with whether its ambiguities are fixed, the GNSS time of the epoch in ns with the rate of the fit and the
uncertainty in ns, the leap-second count where known, and the observation records by channel. -/
structure GnssSol where
  dt : BitVec 64
  sats : Nat
  constellations : Nat
  sbasSats : Nat
  sbasFresh : Bool
  rtkSats : Nat
  validated : Bool
  pdop : Nat
  rec_ : List Word
  baseMm : Nat
  baseFixed : Bool
  timeNs : Int
  rate : Word
  unc : BitVec 32
  leap : Option Int
  obs : List (Fin 256 × List Word)
  deriving DecidableEq, Repr

/-- What an Ethernet frame carries, as the port's network layer sees it (18 R381): an ARP request for an address, an ICMP
echo request with its words, a UDP or TCP packet that no other row takes, or a protocol that is not supported. -/
inductive EthFrame where
  | arp (ip sender : Word)
  | echo (src : Word) (data : List Word)
  | udp
  | tcp
  | other
  deriving DecidableEq, Repr

/-- The commands and events of spec/opcode_table.json, one constructor a row, in the table's order. -/
inductive Instr where
  /-- REG_WRITE (R52): A register write to a register that has no row of its own is stored, cleared, set or ignored according to its register type. -/
  | regWrite (o : Origin) (a : BitVec 24) (be : BitVec 4) (v : Word)
  /-- UNIMPL_OFFSET_ACCESS (R58): An access to an unimplemented offset reads 0 or is ignored and sets PKG.FLT_STAT.ACCESS. -/
  | unimplOffsetAccess (o : Origin) (a : BitVec 24) (wr : Bool)
  /-- GATED_ACCESS (R38): An access to a page of a gated island reads 0 or is ignored and sets CLOCK.FLT_STAT.GATED_ACCESS. -/
  | gatedAccess (o : Origin) (a : BitVec 24) (wr : Bool)
  /-- CONFIG_WRITE (R53): A write to an RWA or RWS register is checked, audited, applied and counted in PG_CHG, or refused. -/
  | configWrite (o : Origin) (a : BitVec 24) (v : Word)
  /-- PG_STAT_BARRIER_READ (R26): A read of PG_STAT returns only after all earlier writes of the same master to that page have taken effect. -/
  | pgStatBarrierRead (o : Origin) (a : BitVec 24)
  /-- PG_LOCK_WRITE (R44): The first write of 1 to PG_LOCK.LOCK after a package reset locks the page's configuration; later writes are ignored. -/
  | pgLockWrite (o : Origin) (a : BitVec 24) (v : Word)
  /-- PKG_FLT_CLEAR (R59): Clearing PKG.FLT_STAT bits re-arms the access or refusal capture and resets its count. -/
  | pkgFltClear (o : Origin) (v : Word)
  /-- CURSOR_WRITE (R50): A write to a window CURSOR takes a snapshot of the indexed record or sets END and BAD_INDEX, discarding staged words. -/
  | cursorWrite (o : Origin) (a : BitVec 24) (v : Word)
  /-- WIN_WORD_READ (R50): A read of a window word other than the last returns that word from the snapshot, taking the snapshot first if none is held. -/
  | winWordRead (o : Origin) (a : BitVec 24)
  /-- WIN_LAST_WORD_READ (R50): A read of the last window word returns it, discards staged words and advances CURSOR with a new snapshot. -/
  | winLastWordRead (o : Origin) (a : BitVec 24)
  /-- WIN_WORD_STAGE (R50): A write of a window word other than the last stages that word. -/
  | winWordStage (o : Origin) (a : BitVec 24) (v : Word)
  /-- WIN_RECORD_WRITE (R51): A write of the last window word offers the whole record as one write, checked as one configuration write, and advances CURSOR. -/
  | winRecordWrite (o : Origin) (a : BitVec 24) (v : Word)
  /-- ROUTE_ENTRY_WRITE (R63): A write of an interrupt route entry sets the source's target, or is refused with BAD_TARGET. -/
  | routeEntryWrite (o : Origin) (src : BitVec 9) (v : Word)
  /-- VEC_EOI_WRITE (R65): A write of 1 to a VEC_EOI bit re-arms the MSI-X vector, which sends a new message if its level is 1. -/
  | vecEoiWrite (o : Origin) (v : Word)
  /-- MSIX_MASK_WRITE (R94): A write of an MSI-X entry mask or of the function mask; on unmask a pending vector sends its message or clears its pending bit. -/
  | msixMaskWrite (n : Option (Fin 32)) (m : Bool)
  /-- LOCKSTEP_DISAGREE (R9): The cores of a lockstep pair disagree; the pair halts, an event is recorded, source 22 is raised and SAFE is entered. -/
  | lockstepDisagree (pair : Fin 2)
  /-- SAFE_WINDOWS_END (R82): When the last closing window after SAFE entry ends, or 100 ms have passed, the region switches open. -/
  | safeWindowsEnd
  /-- FRAME_BOUNDARY (R10): A planning frame begins at every 1 ms boundary of DT and the PREDICT stage starts. -/
  | frameBoundary
  /-- PROBE_STAGE_START (R173): At F + 100 µs the probe engine tests every probed outlet's footprint at every sample through the raster layers. -/
  | probeStageStart
  /-- PROBE_WINDOW_END (R125): At the end of the PROBE window the probe's slot pins are released and prefetch fills are queued. -/
  | probeWindowEnd
  /-- PLAN_STAGE_START (R196): At F + 700 µs the metering unit forms targets and the planner forms wish timelines and candidate edges. -/
  | planStageStart
  /-- COMMIT_POINT (R203): At F + 900 µs planned edges inside the commit horizon enter their outlet queues with their execution times. -/
  | commitPoint
  /-- FRAME_OVERRUN (R202): A stage not finished by the end of its window makes the frame an overrun, skipping later stages and counting it. -/
  | frameOverrun
  /-- LOGIC_HEARTBEAT_SEND (R16): Every 100 µs the logic die sends a heartbeat with its DT on FB0 and FB1. -/
  | logicHeartbeatSend
  /-- FIELD_HEARTBEAT (R16): The field die receives a heartbeat, realigns its DT follower and answers 50 µs later. -/
  | fieldHeartbeat (b : Fin 2) (t : BitVec 64)
  /-- HEARTBEAT_MISS (R20): An expected heartbeat on a bridge is missed and MISS_FBn increments, raising FB_SLIP at 3. -/
  | heartbeatMiss (b : Fin 2)
  /-- FIELD_HB_TIMEOUT (R17): The field die sees no valid heartbeat for 1 ms and enters its independent safe state. -/
  | fieldHbTimeout (b : Fin 2)
  /-- FLD_WDOG_EXPIRE (R17): The field-die sequencer watchdog expires and the field die enters its independent safe state. -/
  | fldWdogExpire
  /-- LOGIC_FLD_HB_TIMEOUT (R18): The logic die sees no field-die heartbeat on a bridge for 1 ms and enters SAFE. -/
  | logicFldHbTimeout (b : Fin 2)
  /-- RF_LINK_LOSS (R19): The RF sample link carries no valid frame for 1 ms; all chains are marked absent and source 23 is raised. -/
  | rfLinkLoss
  /-- RF_LINK_RETURN (R340): The RF sample link carries frames again and the sample index continues from the gap length. -/
  | rfLinkReturn (gap : Nat)
  /-- REF_LOST (R23): The reference stops for 2 µs; REF_LOST is set, source 8 is raised and SAFE is entered with PLL_A in holdover. -/
  | refLost
  /-- REF_DRIFT (R23): The reference stays over 200 ppm off for 1 s; REF_DRIFT is set, source 9 is raised and SAFE is entered. -/
  | refDrift (ppm : BitVec 16)
  /-- TDC_RECALIBRATE (R32): Every 1 ms the time-to-digital converter's bins are recalibrated against the base clock. -/
  | tdcRecalibrate
  /-- DT_LO_READ (R32): A read of TIME.DT_LO captures all 64 bits of DT for the reading master. -/
  | dtLoRead (o : Origin)
  /-- LO_CAPTURE_READ (R32): A read of the low word of a paired timestamp register captures both words, and any companion words, for the reading master. -/
  | loCaptureRead (o : Origin) (a : BitVec 24)
  /-- WALL_ERROR_ESTIMATE (R35): A new wall-time error is estimated and slewed by RATE, or stepped with WALL_EPOCH incremented. -/
  | wallErrorEstimate (err : Int) (rate : Word)
  /-- WALL_SET (R35): The WALL_SET command replaces the wall-time mapping and increments WALL_EPOCH. -/
  | wallSet (c : Cmd)
  /-- ISL_CTRL_WRITE (R37): A write of CLOCK.ISL_CTRL requests RUN, STOP or GATE per island, or is ignored with MODE_GATE set. -/
  | islCtrlWrite (o : Origin) (v : Word)
  /-- ISLAND_STATE_REACHED (R37): An island reaches the clock state requested in ISL_CTRL and source 10 is raised. -/
  | islandStateReached (isl : Island)
  /-- MODE_REQ (R71): The MODE_REQ command changes the mode as tabulated, after any drain, or completes with STATE_CONFLICT. -/
  | modeReq (c : Cmd)
  /-- REGION_SEQUENCE_CLOSE (R248): On entry to OPERATE or SERVICE the used regions are requested closed in order A to D, 5 ms apart. -/
  | regionSequenceClose
  /-- DRAIN_OFF_EDGES (R72): At the DT of the last committed edge every on outlet gets one DRAIN off edge. -/
  | drainOffEdges
  /-- DRAIN_COMPLETE (R72): When all drain windows, off-delays and remote latencies have ended the region switches open and STANDBY is entered. -/
  | drainComplete
  /-- DRAIN_MAX_EXPIRE (R72): After DRAIN_MAX open windows are closed without result, confirmed ESTIMATED, and the drain completes. -/
  | drainMaxExpire
  /-- SAFE_ENTER (R82): The SAFE_ENTER command latches cause HOST and performs the SAFE entry actions. -/
  | safeEnter (c : Cmd)
  /-- SAFE_EXIT (R83): The SAFE_EXIT command clears SAFE, releases the field die and enters STANDBY, or completes with STATE_CONFLICT. -/
  | safeExit (c : Cmd)
  /-- CELLAR_ENTER (R84): The CELLAR_ENTER command starts Cellar entry from STANDBY or SAFE. -/
  | cellarEnter (c : Cmd)
  /-- WAKE_LOW_DEBOUNCED (R71): WAKE stays low for WAKE_DEB with AUTO_ENTER set, starting a drain to STANDBY and then Cellar entry. -/
  | wakeLowDebounced
  /-- PWR_FAIL_ASSERT (R79): PWR_FAIL stays low for 20 µs; the Attic is flushed, statistics saved and source 16 raised. -/
  | pwrFailAssert
  /-- PF_GRACE_EXPIRE (R79): PWR_FAIL is still low after PF_GRACE; the package leaves to STANDBY and enters CELLAR if PF_CELLAR is 1. -/
  | pfGraceExpire
  /-- PWR_FAIL_RELEASE (R79): PWR_FAIL returns high before PF_GRACE and a PF_CLEAR event record is written. -/
  | pwrFailRelease
  /-- RAIL_OUT_OF_RANGE (R77): A supervised rail leaves its range for 5 µs and the tabulated action, SAFE or a reset, follows. -/
  | railOutOfRange (rail : Fin 7) (above : Bool) (act : Option Nat)
  /-- DIE_TEMP_SAMPLE (R81): Each die temperature is sampled at 1 kHz and a TJ_WARN crossing writes an event and raises source 18. -/
  | dieTempSample (die : Die) (t : BitVec 16)
  /-- DIE_OVERTEMP (R81): A die stays above its action threshold for 1 ms and its tabulated action is taken. -/
  | dieOvertemp (die : Die)
  /-- POWER_ON_RESET (R74): VCELLAR falls below 2.9 V or is first applied; everything restarts with DT at 0. -/
  | powerOnReset
  /-- MAIN_RAIL_LOSS (R74): VDD_CORE stays below 0.74 V for 5 µs while VCELLAR holds, causing a main-rail loss reset. -/
  | mainRailLoss (ticks : Nat)
  /-- RESET_PIN (R74): RESET_N held low for at least 1 µs causes a package reset. -/
  | resetPin
  /-- RESET (R104): The RESET command causes a software package reset within 1 ms. -/
  | reset (c : Cmd)
  /-- WDOG_RESET (R74): A lockstep pair leaves its watchdog unserved for 100 ms and a watchdog reset follows. -/
  | wdogReset (pair : Fin 2)
  /-- BOOT_POWER_RELEASE (R75): Internal power-on release: fuses are read and the TCXO is enabled. -/
  | bootPowerRelease
  /-- BOOT_PLL_LOCK (R75): PLL_A and PLL_B lock; DT counts or resumes, the HOST island comes up and PCIe training starts. -/
  | bootPllLock
  /-- BOOT_HOST_READY (R75): PCIe configuration space answers and the quad-SPI slave begins to answer frames. -/
  | bootHostReady
  /-- BOOT_IMAGE_VERIFY (R404): The firmware image named in NEXT, then the other, is verified and copied to MRAM, or BOOT is held. -/
  | bootImageVerify (a b : ImageInfo) (mb : BitVec 8)
  /-- BOOT_DRAM_TRAINED (R75): PLL_M locks and LPDDR4X is trained, bringing up the MEM island. -/
  | bootDramTrained (fitted : BitVec 4)
  /-- DRAM_INIT_FILL_DONE (R114): The LPDDR4X zero fill completes and INIT_DONE reads 1. -/
  | dramInitFillDone
  /-- BOOT_FIELD_RELEASE (R75): VDD_FLD is checked, the field die is released and FB0 and FB1 are trained. -/
  | bootFieldRelease (vddOk : Bool) (fb0 : Bool) (fb1 : Bool)
  /-- BOOT_CONFIG_LOAD (R75): The configuration store is read, checked and loaded into RWA and RWS registers and tables. -/
  | bootConfigLoad (bad : List (BitVec 24)) (newestStored : Bool)
  /-- BOOT_ATTIC_OPEN (R439): The Attic is opened, torn slots marked, counters and shadows restored and POWER_ON written. -/
  | bootAtticOpen (torn : List Nat)
  /-- BOOT_COMPLETE (R71): The start-up sequence completes and the package enters STANDBY, or SAFE if a cause latched. -/
  | bootComplete (ms : BitVec 16)
  /-- CELLAR_SCRUB (R85): Every 10 s in CELLAR the retention SRAM is scrubbed, correcting and counting errors. -/
  | cellarScrub (corr : Nat) (bad : BitVec 8)
  /-- DRAM_HOLD_EXPIRE (R86): DRAM_HOLD minutes in CELLAR elapse and DRAM_HOLD_EN goes low, losing LPDDR4X content. -/
  | dramHoldExpire
  /-- WAKE_HIGH_DEBOUNCED (R87): WAKE stays high for WAKE_DEB in CELLAR, raising MAIN_EN and starting a wake start-up. -/
  | wakeHighDebounced (stay : Nat)
  /-- CAN_WAKE (R87): CAN_WAKE_N stays low for 50 µs with CANWAKE_EN set and wakes the package. -/
  | canWake (stay : Nat)
  /-- WAKE_TIMER_EXPIRE (R87): The Cellar stay reaches WAKE_TIMER seconds and wakes the package. -/
  | wakeTimerExpire (stay : Nat)
  /-- MAIN_RAILS_RETURN (R87): Main rails return with no wake source; the wake is recorded as code 0x4. -/
  | mainRailsReturn (stay : Nat)
  /-- OPT_CHECKPOINT (R88): Every 10 s operating time is checkpointed to MRAM. -/
  | optCheckpoint
  /-- PCIE_FLR (R95): A function level reset disables ring 0, resets the PCIE page, MSI-X table and PCIe window cursors. -/
  | pcieFlr
  /-- PCIE_LINK_DOWN (R95): The PCIe link goes down, acting as a function level reset and closing the PCIE session. -/
  | pcieLinkDown
  /-- PCIE_LINK_UP (R95): The PCIe link returns after a link-down and source 32 is raised. -/
  | pcieLinkUp (speed : BitVec 4)
  /-- PCIE_POISONED_REQUEST (R91): A poisoned PCIe request is dropped and PCIE.FLT_STAT.POISONED is set. -/
  | pciePoisonedRequest
  /-- PCIE_MALFORMED_TLP (R92): A request crossing a 4 KB boundary is handled as a malformed TLP and touches no byte. -/
  | pcieMalformedTlp
  /-- BAR2_SRAM_ACCESS (R456): A BAR2 read or write of shared SRAM lands or completes within its access time. -/
  | bar2SramAccess (ofs : BitVec 20) (wr : Bool) (data : List Byte) (be : List Bool) (ue : Bool)
  /-- BAR2_FIELD_STORE_ACCESS (R121): A BAR2 field-store view access is translated through context 16; reads return data or abort and writes are refused. -/
  | bar2FieldStoreAccess (ofs : BitVec 31) (wr : Bool) (len : Nat)
  /-- BAR2_RESERVED_ACCESS (R92): An access to the unused BAR2 range completes as unsupported request or is dropped, setting UR. -/
  | bar2ReservedAccess (wr : Bool)
  /-- HSPI_REG_WRITE_FRAME (R93): A quad-SPI register write frame writes its words in ascending order after header and data CRC checks. -/
  | hspiRegWriteFrame (hdr : BitVec 40) (hcrc : BitVec 16) (data : List Word) (dcrc : BitVec 16)
  /-- HSPI_REG_READ_FRAME (R93): A quad-SPI register read frame returns its words after the header CRC check. -/
  | hspiRegReadFrame (hdr : BitVec 40) (hcrc : BitVec 16)
  /-- HSPI_SRAM_WRITE_FRAME (R93): A quad-SPI shared-SRAM write frame writes its data words after CRC checks. -/
  | hspiSramWriteFrame (hdr : BitVec 40) (hcrc : BitVec 16) (data : List Word) (dcrc : BitVec 16)
  /-- HSPI_SRAM_READ_FRAME (R93): A quad-SPI shared-SRAM read frame returns its data words. -/
  | hspiSramReadFrame (hdr : BitVec 40) (hcrc : BitVec 16)
  /-- HSPI_STATUS_READ (R93): A quad-SPI status read returns the result of the newest non-status frame. -/
  | hspiStatusRead
  /-- ETH_CONNECT (R96): A TCP connection to the Porch Ethernet service is accepted, up to two per interface. -/
  | ethConnect (port : Fin 2)
  /-- ETH_COMMAND_MESSAGE (R96): A command descriptor message is queued on ring 2 or 3. -/
  | ethCommandMessage (k : Fin 4) (plain : Bool) (desc : List Byte)
  /-- ETH_REGISTER_FRAME (R96): An Ethernet register frame is executed by the service firmware under the connection's session and answered. -/
  | ethRegisterFrame (k : Fin 4) (plain : Bool) (hdr : BitVec 40) (data : List Word)
  /-- ETH_KEY_EXCHANGE (R411): A type 0x10 message starts session establishment and the Torvusk answers with type 0x11. -/
  | ethKeyExchange (k : Fin 4) (role : BitVec 8)
  /-- ETH_ROLE_SIGNATURE (R411): A type 0x12 role signature is verified and answered with type 0x13. -/
  | ethRoleSignature (k : Fin 4) (key : Option (Fin 17))
  /-- ETH_PROTECTED_MESSAGE (R411): A type 0x14 protected message is checked and its inner message processed, or the connection closes. -/
  | ethProtectedMessage (k : Fin 4) (ctr : Nat) (tagOk : Bool) (inner : EthInner)
  /-- ETH_CONNECTION_LOSS (R412): An Ethernet connection closes and its session slot closes. -/
  | ethConnectionLoss (k : Fin 4)
  /-- RING_CTRL_WRITE (R98): A RING_CTRL write enables or disables a ring and sets sizes, or is ignored with RING_CFG. -/
  | ringCtrlWrite (o : Origin) (ring : Fin 4) (v : Word)
  /-- CMD_TAIL_DOORBELL (R99): A write to CMD_TAIL rings the doorbell for new command descriptors. -/
  | cmdTailDoorbell (o : Origin) (ring : Fin 4) (v : Word)
  /-- CPL_HEAD_WRITE (R98): A write to CPL_HEAD frees consumed completion entries, or is ignored with RING_CFG. -/
  | cplHeadWrite (o : Origin) (ring : Fin 4) (v : Word)
  /-- PORCH_DESCRIPTOR_FETCH (R103): The Porch reads the next descriptor when room allows and checks it in order before it acts. -/
  | porchDescriptorFetch (ring : Fin 4) (ecc : Bool) (key : Option (Fin 17))
  /-- NOP (R104): The NOP command completes with OK at once. -/
  | nop (c : Cmd)
  /-- JOB_START (R106): The JOB_START command creates a job in QUEUED and writes an ACCEPTED record. -/
  | jobStart (c : Cmd)
  /-- JOB_SUSPEND (R106): The JOB_SUSPEND command suspends a queued job or moves a running job to SUSPENDING. -/
  | jobSuspend (c : Cmd)
  /-- JOB_RESUME (R106): The JOB_RESUME command returns a suspended job to QUEUED. -/
  | jobResume (c : Cmd)
  /-- JOB_CANCEL (R106): The JOB_CANCEL command cancels a job or moves it to CANCELLING. -/
  | jobCancel (c : Cmd)
  /-- JOB_QUERY (R104): The JOB_QUERY command returns JOB_STAT and ELAPSED_MS and with RELEASE frees a finished slot. -/
  | jobQuery (c : Cmd)
  /-- JOB_DISPATCH (R106): A run slot frees and the highest-priority oldest queued job enters RUNNING. -/
  | jobDispatch
  /-- JOB_SAFE_POINT (R106): A suspending or cancelling job reaches a safe point and becomes SUSPENDED or CANCELLED. -/
  | jobSafePoint (slot : Fin 16)
  /-- JOB_WORK_COMPLETE (R106): A job completes its work, enters DONE and writes its final OK record. -/
  | jobWorkComplete (slot : Fin 16)
  /-- JOB_ERROR (R106): A job error ends the job FAILED with a FAULT record and DETAIL. -/
  | jobError (slot : Fin 16) (detail : BitVec 8)
  /-- JOB_DMA_FAULT_TIMEOUT (R132): A job DMA fault unresolved after 1 ms ends the job FAILED with DETAIL XLATE. -/
  | jobDmaFaultTimeout (slot : Fin 16)
  /-- SRAM_PATROL_SCRUB (R113): The patrol scrubber reads SRAM words once per PERIOD, correcting and counting errors. -/
  | sramPatrolScrub (corr : Nat) (ue : Option (BitVec 40))
  /-- LPDDR_PATROL_SCRUB (R114): The LPDDR4X patrol scrubber reads the usable capacity once per SCRUB_H hours. -/
  | lpddrPatrolScrub (corr : Nat) (ue : Option (BitVec 40))
  /-- XSPI_TIMEOUT (R116): The boot flash does not answer within 1 ms; TIMEOUT is set and the access ends with MEDIA. -/
  | xspiTimeout
  /-- XLATE_INVALIDATE (R122): A write of XLATE.INV with GO invalidates TLB entries of one context or all. -/
  | xlateInvalidate (o : Origin) (v : Word)
  /-- PANTRY_FILL_COMPLETE (R124): A DMA15 tile fill completes; the slot becomes CLEAN and waiting requests are released. -/
  | pantryFillComplete (bad : List (Fin 576))
  /-- DIRTY_AGE_EXPIRE (R124): A DIRTY slot's age reaches 1 s and it goes to WRITEBACK. -/
  | dirtyAgeExpire (slot : Fin 112)
  /-- PANTRY_WRITEBACK_COMPLETE (R124): A coverage write-back completes and the slot becomes CLEAN or DIRTY again. -/
  | pantryWritebackComplete (ue : Bool)
  /-- DMA_START (R130): The DMA START command fetches the first descriptor and enters RUN. -/
  | dmaStart (o : Origin) (ch : Fin 16)
  /-- DMA_STOP (R130): The DMA STOP command moves a running channel to STOPPING or a faulted one to IDLE. -/
  | dmaStop (o : Origin) (ch : Fin 16)
  /-- DMA_RESUME (R130): The DMA RESUME command continues the channel at PROGRESS. -/
  | dmaResume (o : Origin) (ch : Fin 16)
  /-- DMA_DESC_PTR_WRITE (R130): A write of DESC_PTR sets the first descriptor, or is ignored with BUSY_WRITE while busy. -/
  | dmaDescPtrWrite (o : Origin) (ch : Fin 16) (v : Word)
  /-- DMA_BURST (R131): A DMA burst completes at its boundary and the channel continues, stops, faults or ends its descriptor. -/
  | dmaBurst (ch : Fin 16) (ue : Bool)
  /-- XFAULT_LOG_CLEAR (R133): A write of LOG_CTRL.CLEAR empties the XFAULT log and its LOST count. -/
  | xfaultLogClear (o : Origin)
  /-- HOST_POSE_SUBMIT (R140): The landing of a write to HOST_POSE9 submits a pose record to the host FIFO or rejects it. -/
  | hostPoseSubmit (o : Origin) (v : Word)
  /-- HOST_POSE_FUSE (R140): A queued host record is fused when DT reaches its DT. -/
  | hostPoseFuse
  /-- LAST_POSE_READ (R140): A read of LAST_POSE0 captures the fused pose record for the reading master. -/
  | lastPoseRead (o : Origin)
  /-- POSE_MEASUREMENT_FUSE (R146): A qualifying measurement is fused into the pose, changing validity, source or epoch as needed. -/
  | poseMeasurementFuse (src : Fin 4) (rec : List Word)
  /-- POSE_STALE (R142): No qualifying measurement for STALE_MS moves the pose to DEAD_RECKONING or INVALID. -/
  | poseStale
  /-- DR_MAX_EXPIRE (R142): DR_MAX_MS since the last qualifying measurement moves the pose from DEAD_RECKONING to INVALID. -/
  | drMaxExpire
  /-- N2K_POSE_MEASUREMENT (R141): Completed NMEA 2000 position, speed and course form one pose measurement. -/
  | n2kPoseMeasurement (bus : Fin 6) (sof : BitVec 64) (part : N2kPart)
  /-- N2K_GNSS_DATA_TIMEOUT (R380): No PGN 129029 for 2 s makes NMEA 2000 measurements non-qualifying. -/
  | n2kGnssDataTimeout
  /-- IMU_DRDY_SAMPLE (R144): A rising IMU_DRDY edge starts an SPI burst that reads a stamped gyro and accelerometer sample. -/
  | imuDrdySample (edge : BitVec 64) (data : List Byte)
  /-- IMU_LOST (R144): No IMU_DRDY edge for 20 ms sets IMU_LOST, clears LIVE and raises source 104. -/
  | imuLost
  /-- IMU_STATIONARY_DETECT (R145): Speed and gyro stay low for 2 s, STATIONARY is set and z-gyro bias averaging runs. -/
  | imuStationaryDetect
  /-- HITCH_ESTIMATE_TICK (R148): Every 1 ms each estimated hitch angle advances by Heun's method. -/
  | hitchEstimateTick
  /-- HITCH_SENSED_RESTART (R148): Every 1 s the hitch estimate restarts from the sensed value. -/
  | hitchSensedRestart
  /-- HITCH_DISAGREE (R148): Sensed and estimated hitch angles differ over HITCH_TOL for 500 ms, forcing an epoch and event. -/
  | hitchDisagree (hitch : Fin 2)
  /-- POSE_HISTORY_ENTRY (R155): Once a frame boundary is bracketed by measurements its interpolated history entry is written. -/
  | poseHistoryEntry
  /-- HISTORY_INVALID_ENTRY (R155): STALE_MS after a boundary without a later measurement, an INVALID history entry is written. -/
  | historyInvalidEntry
  /-- CYCLIC_INDEX (R158): The shaft index edge sets the angle to ANGLE_OFS, or flags INDEX_ERR, or re-syncs. -/
  | cyclicIndex
  /-- FIELD_LOAD_TILE_COPY (R168): A FIELD_LOAD job copies and checks one tile into the new store, a safe point. -/
  | fieldLoadTileCopy (sigOk : Bool)
  /-- FIELD_LOAD_DRAIN_END (R169): The backlog of the old field empties or SWAP_WAIT passes; remaining records are discarded as lost. -/
  | fieldLoadDrainEnd
  /-- FIELD_SWAP (R168): At the end of a PROBE window the Pantry is flushed and the new directory, anchor and store installed. -/
  | fieldSwap
  /-- FIELD_UNLOAD (R170): The FIELD_UNLOAD command flushes the Pantry, discards the backlog and frees the store. -/
  | fieldUnload (c : Cmd)
  /-- RASTER_BUILD_ROW (R172): A RASTER_BUILD job rasterises one tile row of the window, a safe point. -/
  | rasterBuildRow
  /-- COVERAGE_EXPORT_TILE (R187): A COVERAGE_EXPORT job copies one stored tile's coverage layer, holding off its write-back. -/
  | coverageExportTile (slot : Fin 16)
  /-- OUTLET_SWITCH (R192): The OUTLET_SWITCH command checks and captures the staged table set for the next frame boundary. -/
  | outletSwitch (c : Cmd)
  /-- OUTLET_REVERT (R192): The OUTLET_REVERT command copies the active table set over the staged set. -/
  | outletRevert (c : Cmd)
  /-- EDGE_LANDING (R246): A committed edge lands in its field-die queue, executing at once with EXEC_LATE if late. -/
  | edgeLanding (id : Fin 1024)
  /-- LOCAL_EDGE_EXECUTE (R243): A LOCAL or LOCAL_PWM edge executes at T_exec, entering PULL_IN, DECAY or waiting. -/
  | localEdgeExecute (id : Fin 1024)
  /-- BOOST_EDGE_EXECUTE (R258): A BOOST on edge starts PEAK or waits; an off edge ends the shot. -/
  | boostEdgeExecute (id : Fin 1024) (vbst : BitVec 16)
  /-- MOTOR_EDGE_EXECUTE (R309): A MOTOR edge sets the PWM channel output enable at T_exec. -/
  | motorEdgeExecute (id : Fin 1024)
  /-- DIO_EDGE_EXECUTE (R326): A DIO edge sets the pin's WANT at T_exec. -/
  | dioEdgeExecute (id : Fin 1024)
  /-- REMOTE_DISPATCH (R207): The dispatcher sends a REMOTE edge's command at T_D, counting late or missed sends. -/
  | remoteDispatch (id : Fin 1024)
  /-- REMOTE_REPORT (R208): A remote module's state report confirms a REMOTE edge at its switching time. -/
  | remoteReport (path : Fin 4) (addr : Byte) (sof : BitVec 64) (data : List Byte)
  /-- REPORT_TIMEOUT (R208): No report within REPORT_TIMEOUT_MS confirms the edge ESTIMATED and raises source 188. -/
  | reportTimeout (id : Fin 1024)
  /-- DELAYED_CONFIRMATION (R15): At execution plus the configured delay a BOOST, MOTOR or DIO edge is confirmed. -/
  | delayedConfirmation (id : Fin 1024)
  /-- RETIRE_SEGMENT_FORM (R210): With history entries on both sides of a segment end, a retire record is formed and totalled. -/
  | retireSegmentForm (id : Fin 1024)
  /-- RETIRE_WRITE (R212): Once its tiles are in slots, a record's swept cells are incremented in the coverage layer. -/
  | retireWrite
  /-- TC_SECTION_COMMAND (R377): A task-controller section-state command sets the section wish from its start-of-frame DT. -/
  | tcSectionCommand (bus : Fin 2) (sof : BitVec 64) (cmds : List (Fin 64 × Bool))
  /-- TC_SERVER_LOST (R376): No server status for 6 s; every section wish becomes off and EXT_LOSS is set. -/
  | tcServerLost
  /-- COMMIT_COUNTER_CLEAR (R216): A write of CNT_CTRL.CLEAR clears the seven commit counters and LATE_MAX. -/
  | commitCounterClear (o : Origin)
  /-- RETIRE_LOST_CLEAR (R217): A write of LOST_CTRL.CLEAR clears the four LOST counters. -/
  | retireLostClear (o : Origin)
  /-- RATE_SWITCH (R220): The RATE_SWITCH command makes the staged rate tables active at the next frame boundary. -/
  | rateSwitch (c : Cmd)
  /-- TOTALS_RESET (R235): The TOTALS_RESET command selects totals to clear at the next frame boundary. -/
  | totalsReset (c : Cmd)
  /-- CAL_MEASURE (R236): The CAL_MEASURE command delivers the measured quantity to a FLOW_CALIBRATE job in WAIT. -/
  | calMeasure (c : Cmd)
  /-- CAL_STEP_END (R236): A FLOW_CALIBRATE RUN or AVERAGE step ends by target, revolutions, TIME_MS or 2 s. -/
  | calStepEnd (measure : BitVec 32) (unstable : Bool)
  /-- CAL_WAIT_EXPIRE (R236): WAIT_S expires without CAL_MEASURE and the job fails with NO_MEASURE. -/
  | calWaitExpire
  /-- CAL_APPLY (R236): The calibration job's final step writes the new value in one audited write. -/
  | calApply
  /-- TOTALS_CHECKPOINT (R235): Every 10 s totals and residues are checkpointed to the MRAM reserve. -/
  | totalsCheckpoint
  /-- FLOW_METER_LOST (R237): No flow-meter pulse for 2 s while FLOW_TGT is above 0 sets FLOW_METER_LOST. -/
  | flowMeterLost (p : Fin 4)
  /-- PULLIN_PEAK_REACHED (R241): A pull-in's current reaches I_PEAK and the channel chops there. -/
  | pullinPeakReached (ch : Fin 192)
  /-- PULLIN_END (R241): PULL_IN ends at T_PULL after peak or at 20 ms, the channel enters HOLD and its budget slot frees. -/
  | pullinEnd (ch : Fin 192)
  /-- WEAK_PULLIN (R241): I_PEAK not reached PK_TMAX after entry sets WEAK_PULLIN. -/
  | weakPullin (ch : Fin 192)
  /-- STAGGER_MAX_EXPIRE (R249): A waiting pull-in reaches STAGGER_MAX_US and starts regardless of budget, counted FORCED. -/
  | staggerMaxExpire (ch : Fin 192)
  /-- DECAY_CURRENT_LOW (R242): Coil current falls below 20 mA in DECAY and the channel enters SENSE or OFF. -/
  | decayCurrentLow (ch : Fin 192)
  /-- OUTLET_OVERCURRENT (R243): Current above the OC threshold switches the channel to FAULT within 3 µs, latching after RETRIES. -/
  | outletOvercurrent (ch : Fin 192)
  /-- OUTLET_RETRY_EXPIRE (R243): The retry time in FAULT elapses and the channel pulls in again or goes OFF. -/
  | outletRetryExpire (ch : Fin 192)
  /-- RETRY_COUNT_RESET (R243): After 1 s in HOLD without overcurrent RETRY_N returns to 0. -/
  | retryCountReset (ch : Fin 192)
  /-- PWM_NOZZLE_PULSE_START (R244): A LOCAL_PWM pulse period begins and the pulse's pull-in is requested. -/
  | pwmNozzlePulseStart (ch : Fin 192)
  /-- PWM_NOZZLE_PULSE_DECAY (R244): At t_on the LOCAL_PWM pulse enters DECAY. -/
  | pwmNozzlePulseDecay (ch : Fin 192)
  /-- REGION_FIELD_LIVE (R247): FIELD_x rises above LOCKOUT plus REC_HYST in CLOSING and the region goes LIVE. -/
  | regionFieldLive (reg : Fin 4) (v : BitVec 16)
  /-- REGION_CLOSE_TIMEOUT (R247): A closing region fails to go LIVE in 10 ms and returns OPEN with SWITCH_FAIL. -/
  | regionCloseTimeout (reg : Fin 4)
  /-- REGION_SWITCH_STUCK (R247): FIELD_x above 3.0 V 10 ms after opening sets SWITCH_STUCK. -/
  | regionSwitchStuck (reg : Fin 4) (v : BitVec 16)
  /-- REGION_LOCKOUT_ENTRY (R252): FIELD_x below LOCKOUT for 20 µs turns every channel of the region off. -/
  | regionLockoutEntry (reg : Fin 4) (v : BitVec 16)
  /-- REGION_RECOVER (R252): FIELD_x above LOCKOUT plus REC_HYST for REC_MS returns the region LIVE and re-pulls wanted channels. -/
  | regionRecover (reg : Fin 4) (v : BitVec 16)
  /-- REGION_SAG_THRESHOLD (R251): FIELD_x crosses WARN or HOLD_LIMIT, setting or clearing the warning or hold trim. -/
  | regionSagThreshold (reg : Fin 4) (v : BitVec 16)
  /-- REGION_THERMAL_ESTIMATE (R250): Every 1 ms the region's dissipation is estimated and THERMAL set or cleared. -/
  | regionThermalEstimate (reg : Fin 4) (v : BitVec 16) (cur : List (BitVec 12))
  /-- OPEN_ON_CHECK (R254): Current below 50 mA 1 ms after PULL_IN entry flags OPEN_ON. -/
  | openOnCheck (ch : Fin 192) (cur : BitVec 12)
  /-- OFFSTATE_TEST (R254): Every 10 ms in OFF the pull-up and pull-down test flags OPEN_OFF, SHORT_GND or passes. -/
  | offstateTest (ch : Fin 192) (up : BitVec 16) (down : BitVec 16)
  /-- CROSS_SUSPECT (R254): An OFF channel falls below 1 V within 100 µs of another pull-in and CROSS_SUSPECT is flagged. -/
  | crossSuspect (ch : Fin 192)
  /-- CLUSTER_OVERTEMP (R255): A cluster sensor at 160 °C for 100 µs turns its channels off with CL_OT. -/
  | clusterOvertemp (cl : Fin 24) (t : BitVec 16)
  /-- CLUSTER_TEMP_RECOVER (R255): A cluster below 140 °C re-pulls its wanted channels. -/
  | clusterTempRecover (cl : Fin 24) (t : BitVec 16)
  /-- BOOST_PEAK_REACHED (R257): A boost channel reaches I_PEAK and enters HOLD, releasing the bank's peak. -/
  | boostPeakReached (b : Fin 8)
  /-- BOOST_TPK_MAX (R257): A boost peak not reached by TPK_MAX_US is ended with WEAK_PEAK. -/
  | boostTpkMax (b : Fin 8)
  /-- BOOST_SHOT_END (R257): A shot reaches its length and the boost channel enters DECAY. -/
  | boostShotEnd (b : Fin 8)
  /-- BOOST_CURRENT_LOW (R257): A decaying boost channel falls below 200 mA and goes OFF. -/
  | boostCurrentLow (b : Fin 8)
  /-- BOOST_WAIT_START (R258): A waiting boost request starts PEAK once the bank is free, recharged and VBST sufficient, setting DEFERRED. -/
  | boostWaitStart (b : Fin 8) (vbst : BitVec 16)
  /-- BOOST_DEFER_EXPIRE (R258): A boost request still waiting DEFER_MAX after T_exec is refused and counts MISSED. -/
  | boostDeferExpire (b : Fin 8)
  /-- BOOST_OVERCURRENT (R259): A boost channel over I_OC goes to latched FAULT within 2 µs. -/
  | boostOvercurrent (b : Fin 8)
  /-- VBST_OVERVOLTAGE (R259): VBST above 66 V stops the converter and both banks. -/
  | vbstOvervoltage (v : BitVec 16)
  /-- VBST_LOW (R259): VBST below VBST_MIN for 10 ms with a request waiting sets VBST_LOW. -/
  | vbstLow (v : BitVec 16)
  /-- OUT_FORCE (R260): The OUT_FORCE command switches or pulses an outlet or boost channel in SERVICE. -/
  | outForce (c : Cmd)
  /-- OUT_FORCE_PULSE_END (R260): A forced pulse's length elapses and the channel turns off. -/
  | outForcePulseEnd (u : Fin 200)
  /-- REGION_CTRL (R260): The REGION_CTRL command opens or closes a region. -/
  | regionCtrl (c : Cmd)
  /-- CH_UNLATCH (R260): The CH_UNLATCH command releases a latched outlet or boost channel. -/
  | chUnlatch (c : Cmd)
  /-- SELFTEST_CHANNEL_DONE (R261): A FIELD_SELFTEST job finishes one channel's tests and writes its result. -/
  | selftestChannelDone (closes : Bool) (v : BitVec 16) (flt : Byte) (res : BitVec 32) (ind : BitVec 32)
  /-- OPENING_RESULT (R265): The opening detector finds the valve's opening and issues a result record. -/
  | openingResult (ch : Fin 192) (t : BitVec 64) (chop : Bool) (fall : BitVec 16)
  /-- OPENING_WINDOW_TIMEOUT (R265): An opening window reaches its bound or 200 ms without result. -/
  | openingWindowTimeout (ch : Fin 192)
  /-- CLOSING_SPAN_START (R266): A closing window's sampling span starts on the cluster sampler. -/
  | closingSpanStart (ch : Fin 192)
  /-- CLOSING_KINK_RESULT (R267): A kink run ends and the closing result is issued, ending the window. -/
  | closingKinkResult (ch : Fin 192) (t : BitVec 64) (peak : BitVec 16)
  /-- CLOSING_SPAN_END (R266): A closing span ends without result and the channel leaves SENSE. -/
  | closingSpanEnd (ch : Fin 192)
  /-- MOTION_RESULT_LANDING (R269): A motion result record lands on the logic die and confirms its edge, or is dropped on a full FIFO. -/
  | motionResultLanding (bridge : Fin 2)
  /-- LEARN_RESET (R274): The LEARN_RESET command resets learned delays of named outlets and bands. -/
  | learnReset (c : Cmd)
  /-- SWEEP_OUTLET_DONE (R277): A DELAY_LEARN_SWEEP job finishes one outlet's actuations and seeds or reports it. -/
  | sweepOutletDone (closes : Bool) (v : BitVec 16) (fault : Bool) (on : List (BitVec 24)) (off : List (BitVec 24))
  /-- LOOP_SAMPLE (R280): A loop's sample DT arrives and its evaluation is queued. -/
  | loopSample (loop : Fin 24)
  /-- LOOP_EVALUATION (R289): The engine evaluates a loop's stages, writes outputs and checks supervision. -/
  | loopEvaluation (ue : Bool)
  /-- LOOP_HOLD_CLEAR (R292): The condition holding a loop clears for CLR_MS and the loop resumes AUTO. -/
  | loopHoldClear (loop : Fin 24)
  /-- LOOP_MODE (R292): The LOOP_MODE command moves a loop to OFF, MANUAL or AUTO. -/
  | loopMode (c : Cmd)
  /-- LOOP_COEF_LOAD (R296): The LOOP_COEF_LOAD command replaces a loop's coefficient region between evaluations. -/
  | loopCoefLoad (c : Cmd)
  /-- TRACE_ARM (R299): A write of TRACE.CTRL.ARM empties the trace RAM and arms the trace. -/
  | traceArm (o : Origin)
  /-- TRACE_FORCE (R299): A write of TRACE.CTRL.FORCE triggers the trace at once. -/
  | traceForce (o : Origin)
  /-- TRACE_STOP (R299): A write of TRACE.CTRL.STOP ends the trace as DONE. -/
  | traceStop (o : Origin)
  /-- PWM_ZERO (R302): A cluster counter returns to 0, transferring armed shadows and starting a period. -/
  | pwmZero (cl : Fin 6)
  /-- PWM_PERIOD_EVENT (R314): The counter reaches PER − 1 and the PERIOD event is counted. -/
  | pwmPeriodEvent (cl : Fin 6)
  /-- PWM_COMPARE (R306): S changes level at its compare and outputs turn off or start their dead time. -/
  | pwmCompare (ch : Fin 48)
  /-- DEAD_TIME_END (R306): An output's dead time elapses and it turns on. -/
  | deadTimeEnd (ch : Fin 48)
  /-- CL_ARM_WRITE (R311): A write of CL_CTRL.ARM arms the cluster's host shadows for transfer. -/
  | clArmWrite (o : Origin) (cl : Fin 6) (v : Word)
  /-- OWNED_WRITE (R309): A host write to a field held by an owner is ignored and OWNED_WRITE set. -/
  | ownedWrite (o : Origin) (a : BitVec 24) (v : Word)
  /-- DELAY_LINE_CALIBRATE (R303): Every 1 ms the PWM delay line is recalibrated, or CAL_FAIL is set. -/
  | delayLineCalibrate (taps : Option Byte)
  /-- PWM_SYNC_PULSE (R315): A cluster reaches SYNC_OFS and its sync pulse reloads the next cluster or drives PWM_SYNCO. -/
  | pwmSyncPulse (cl : Fin 6)
  /-- PWM_SYNC_LOSS (R315): A receiver sees no sync for 2 × PER counts and sets SYNC_LOSS. -/
  | pwmSyncLoss (cl : Fin 6)
  /-- PWM_SYNCI_EDGE (R316): A rising PWM_SYNCI edge is captured and cluster 0 takes its zero SYNCI_LAT later. -/
  | pwmSynciEdge (t : BitVec 64)
  /-- TRIP_PIN_EDGE (R317): A trip pin edge is captured in TRIP_DT for the episode's first edge. -/
  | tripPinEdge (t : Fin 8) (dt : BitVec 64) (active : Bool)
  /-- TRIP_ACTIVATE (R318): A filtered trip input turns active outside blanking; mapped clusters and regions go to trip safe states. -/
  | tripActivate (t : Fin 8)
  /-- TRIP_BLANK_EDGE (R317): An edge of a selected output opens or restarts the trip blanking window. -/
  | tripBlankEdge (t : Fin 8)
  /-- TRIP_CLR (R319): A write of TRIP_CLR clears an inactive trip or records a pending clear. -/
  | tripClr (o : Origin) (v : Word)
  /-- TRIP_INPUT_INACTIVE (R319): A filtered trip input turns inactive and a pending AUTO_REARM clear acts. -/
  | tripInputInactive (t : Fin 8)
  /-- DIO_INPUT_CHANGE (R325): A DIO pin holds its new level for the filter time and RISE or FALL is set with its DT. -/
  | dioInputChange (pin : Fin 32) (level : Bool) (t : BitVec 64)
  /-- DIO_CONDUCTION_CHANGE (R327): The conduction condition of a DIO output changes and its switch turns on or off. -/
  | dioConductionChange (pin : Fin 32)
  /-- DIO_SHORT (R327): A DIO output at current limit for 500 µs or overheated goes to FAULT. -/
  | dioShort (pin : Fin 32)
  /-- DIO_RETRY_EXPIRE (R327): The DIO retry time elapses and the output retries or goes OFF. -/
  | dioRetryExpire (pin : Fin 32)
  /-- DIO_UNLATCH (R327): The DIO_UNLATCH command releases a latched DIO output. -/
  | dioUnlatch (c : Cmd)
  /-- DIO_EXT_VOLTAGE (R328): An OFF output reads on for 1 ms and EXT_VOLTAGE is set. -/
  | dioExtVoltage (pin : Fin 32)
  /-- DIO_OPEN (R328): An ON output below 2 mA for 10 ms with OPEN_EN sets OPEN. -/
  | dioOpen (pin : Fin 32) (ma : BitVec 12)
  /-- VIO_LOW (R329): VIO_x below VIO_LOW for 100 µs makes the group LOW, turning outputs off. -/
  | vioLow (g : Fin 4) (vio : BitVec 16)
  /-- VIO_OK (R329): VIO_x above VIO_LOW + 1 V for 10 ms recovers the group and raises VIO_OK. -/
  | vioOk (g : Fin 4) (vio : BitVec 16)
  /-- VIO_STAGGER_ON (R329): After recovery wanted outputs turn on in ascending pin order, 100 µs apart. -/
  | vioStaggerOn (g : Fin 4)
  /-- AIN_CONVERSION (R331): An AIN conversion ends and its code is published with its DT and checked. -/
  | ainConversion (n : Fin 16) (code : BitVec 16)
  /-- AIN_OVERLOAD (R332): Burden current above 25 mA for 50 µs disconnects the burden. -/
  | ainOverload (n : Fin 16)
  /-- AIN_BURDEN_RECONNECT (R332): The burden is reconnected 1 s after an overload. -/
  | ainBurdenReconnect (n : Fin 16)
  /-- FIN_RISING_EDGE (R333): A filtered FIN rising edge is counted and timestamped. -/
  | finRisingEdge (n : Fin 12) (t : BitVec 64)
  /-- FIN_GATE_END (R334): A FIN gate ends and F_FREQ is formed from its edges. -/
  | finGateEnd (n : Fin 12)
  /-- FIN_TIMEOUT (R334): TIMEOUT_MS since the last edge sets F_FREQ to 0, LOST and STOPPED. -/
  | finTimeout (n : Fin 12)
  /-- QUAD_COUNT (R335): A quadrature input edge changes QPOS, or is a quadrature error. -/
  | quadCount (pair : Fin 6) (up : Option Bool)
  /-- ANT_OPEN (R341): Antenna bias current below 2 mA for 100 ms reports OPEN. -/
  | antOpen (a : Fin 2) (cur : BitVec 12)
  /-- ANT_SHORT (R341): Antenna bias current above 80 mA for 1 ms turns the bias off. -/
  | antShort (a : Fin 2) (cur : BitVec 12)
  /-- ANT_BIAS_RETRY (R341): With AUTO_RETRY the bias turns on again 1 s after a short. -/
  | antBiasRetry (a : Fin 2)
  /-- GCH_START (R346): A write of CH_CTRL.START arms a tracking channel or flags BAD_CFG or PORT_BUSY. -/
  | gchStart (o : Origin) (ch : Fin 256)
  /-- GCH_STOP (R346): A write of CH_CTRL.STOP stops a channel and releases its buffers. -/
  | gchStop (o : Origin) (ch : Fin 256)
  /-- GCH_UPDATE (R347): A write of CH_CTRL.UPDATE schedules shadowed NCO values for transfer. -/
  | gchUpdate (o : Origin) (ch : Fin 256)
  /-- GCH_START_DT_REACHED (R346): START_DT is reached and the channel enters RUN. -/
  | gchStartDtReached (ch : Fin 256)
  /-- GCH_INTERVAL_END (R348): A coherent interval ends and the channel writes its dump record. -/
  | gchIntervalEnd (ch : Fin 256) (acc : List Int) (ue : Bool)
  /-- GCH_DUMP_READ (R348): A read of DMP_DT_LO captures the dump record for the reading master. -/
  | gchDumpRead (o : Origin) (ch : Fin 256)
  /-- CL_OWN_WRITE (R349): A write of CL_OWN hands channels between host and service, stopping them. -/
  | clOwnWrite (o : Origin) (page : Fin 32) (v : Word)
  /-- SEARCH_CAPTURE_START (R352): At a DT multiple of 1 ms a search context captures its NSUM blocks. -/
  | searchCaptureStart (x : Fin 4)
  /-- SEARCH_CAPTURE_DONE (R352): A search capture completes and the search phase starts. -/
  | searchCaptureDone (x : Fin 4)
  /-- SEARCH_CELL_DONE (R352): One bin-block cell of a search completes, keeping peaks after each bin. -/
  | searchCellDone (x : Fin 4) (found : List (Nat × Nat)) (ue : Bool)
  /-- SEARCH_CHAIN_FAIL (R352): A chain absent for 1 s fails the search with DETAIL CHAIN. -/
  | searchChainFail (x : Fin 4)
  /-- GNSS_EPOCH_SOLUTION (R357): At a measurement epoch the service forms a solution, observation records and an INTERNAL pose record. -/
  | gnssEpochSolution (sol : GnssSol)
  /-- RTCM_FEED (R359): The RTCM_FEED command delivers correction bytes from shared SRAM. -/
  | rtcmFeed (c : Cmd)
  /-- RTCM_STREAM_DATA (R384): Correction stream bytes arrive over UDP or CAN and are joined into RTCM frames. -/
  | rtcmStreamData (src : Fin 5) (data : List Byte)
  /-- CORR_AGE_EXPIRE (R360): Correction age exceeds AGE_MAX, leaving RTK with CORR_LOST. -/
  | corrAgeExpire
  /-- GNSS_MAP_INSTALL (R363): At a GNSS second boundary the decided mapping is installed under MAP_SEQ. -/
  | gnssMapInstall (adt : BitVec 64) (ans : Int) (rate : Word)
  /-- TIME_PULSE (R364): A time pulse is issued on TPn at its period boundary. -/
  | timePulse (pin : Fin 2)
  /-- TP_INFO_PUBLISH (R366): The TIME_PULSE_INFO message is published before the pulse with source 332. -/
  | tpInfoPublish (pin : Fin 2)
  /-- TP_INFO_READ (R366): A read of INFOn_0 captures the message for the reading master. -/
  | tpInfoRead (o : Origin) (pin : Fin 2)
  /-- TIMING_LOSS (R367): No timing solution for 2 s moves the pins to HOLDOVER. -/
  | timingLoss
  /-- HOLDOVER_EXPIRE (R367): HOLDOVER_MAX elapses; pins stop or continue flagged and GNSS_VALID reads 0. -/
  | holdoverExpire
  /-- TP_STEP (R369): At step second S the pulse is omitted, the mapping replaced and GNSS_EPOCH incremented. -/
  | tpStep
  /-- CAN_FRAME_RX (R374): A CAN frame is received, stamped and passed to its user or receive ring. -/
  | canFrameRx (bus : Fin 6) (id : Word) (dlc : BitVec 4) (data : List Byte) (sof : BitVec 64) (tec rec_ : Byte)
  /-- CAN_TX (R374): The CAN_TX command queues a frame on CAN2 to CAN5. -/
  | canTx (c : Cmd)
  /-- CAN_FRAME_SENT (R374): A queued CAN frame has been sent and the command completes. -/
  | canFrameSent (bus : Fin 6) (tec rec_ : Byte)
  /-- CAN_BUS_OFF (R373): A CAN controller enters bus-off. -/
  | canBusOff (bus : Fin 6) (tec rec_ : Byte)
  /-- CAN_BUS_OFF_RECOVERY (R373): After 128 × 11 recessive bits the controller leaves bus-off. -/
  | canBusOffRecovery (bus : Fin 6)
  /-- ADDRESS_CLAIM (R375): An ISO 11783 address claim completes, setting CLAIMED. -/
  | addressClaim (bus : Fin 2) (addr : Byte)
  /-- ADDRESS_LOST (R376): The claimed ISO 11783 address is lost, stopping application messages. -/
  | addressLost (bus : Fin 2)
  /-- ETH_FRAME_RX (R381): An Ethernet frame is received and handled or dropped. -/
  | ethFrameRx (port : Fin 2) (fr : EthFrame)
  /-- PTP_SYNC (R382): An 802.1AS Sync exchange updates the port time and SYNCED. -/
  | ptpSync (port : Fin 2) (ns : BitVec 64) (us : Word)
  /-- PTP_SYNC_LOSS (R382): No Sync in 3 intervals clears SYNCED and silences the wall-time source. -/
  | ptpSyncLoss (port : Fin 2)
  /-- BEACON_SEND (R387): Every 1 ms a BEACON is sent on each Hexyon port. -/
  | beaconSend
  /-- HX_FRAME_RX (R386): A Hexyon frame arrives and is checked, deduplicated, forwarded and delivered. -/
  | hxFrameRx (port : Fin 2) (hdr : Word) (pay : List Word) (crc : Word) (t : BitVec 64)
  /-- NODE_ABSENT (R388): No frame from a node for HB_MS makes it absent, changing membership. -/
  | nodeAbsent (node : Fin 4)
  /-- MASTER_CLAIM (R389): After HB_MS plus 2 ms × NODE_ID without a master an eligible package claims time master. -/
  | masterClaim
  /-- SYST_PUBLISH (R390): Every 16 ms the SYST mapping is refitted and republished. -/
  | systPublish
  /-- SESSION_CHALLENGE (R410): The SESSION_CHALLENGE command writes a nonce and returns a challenge ID. -/
  | sessionChallenge (c : Cmd)
  /-- SESSION_OPEN (R410): The SESSION_OPEN command verifies the signature and opens a session. -/
  | sessionOpen (c : Cmd) (key : Option (Fin 17))
  /-- SESSION_CLOSE (R412): The SESSION_CLOSE command closes its session. -/
  | sessionClose (c : Cmd)
  /-- SESSION_IDLE_TIMEOUT (R412): A session without activity for IDLE_S closes. -/
  | sessionIdleTimeout (slot : Fin 6)
  /-- CHALLENGE_EXPIRE (R410): A challenge is discarded 10 s after issue. -/
  | challengeExpire (id : Word)
  /-- INTERFACE_LOCKOUT_EXPIRE (R412): An interface's 60 s session lockout ends. -/
  | interfaceLockoutExpire (slot : Fin 6)
  /-- KEY_INSTALL (R413): The KEY_INSTALL command installs a public key in a slot. -/
  | keyInstall (c : Cmd)
  /-- KEY_REVOKE (R413): The KEY_REVOKE command empties a key slot. -/
  | keyRevoke (c : Cmd)
  /-- KEY_EXPORT (R413): The KEY_EXPORT command writes the ETH_IDENTITY public key. -/
  | keyExport (c : Cmd)
  /-- CFG_LOCK_SET (R415): The CFG_LOCK_SET command sets the device-wide configuration lock. -/
  | cfgLockSet (c : Cmd)
  /-- CFG_LOCK_CLEAR (R415): The CFG_LOCK_CLEAR command clears the configuration lock. -/
  | cfgLockClear (c : Cmd)
  /-- FW_STAGE_BLOCK (R405): A FIRMWARE_STAGE job erases, writes and reads back one 64 KB block. -/
  | fwStageBlock (img : ImageInfo) (r : FlashStep) (verified : Bool)
  /-- FW_ACTIVATE (R406): The FW_ACTIVATE command names the staged slot for trial and causes a security reset. -/
  | fwActivate (c : Cmd)
  /-- FW_CONFIRM (R407): The FW_CONFIRM command makes the trial image permanent and blows SVN fuses. -/
  | fwConfirm (c : Cmd)
  /-- TRIAL_TIMEOUT (R406): TRIAL_S expires without FW_CONFIRM and the previous image is restored. -/
  | trialTimeout
  /-- AUDIT_CLEAR (R419): The AUDIT_CLEAR command writes a CLEAR record, keeps unarchived records and frees the rest. -/
  | auditClear (c : Cmd)
  /-- RMA_PERMIT (R401): The RMA_PERMIT command permits an OSARD session until the next reset. -/
  | rmaPermit (c : Cmd)
  /-- DEBUG_OPEN (R416): The DEBUG_OPEN command opens debug at level 1 or 2. -/
  | debugOpen (c : Cmd)
  /-- DEBUG_CLOSE (R416): The DEBUG_CLOSE command closes debug. -/
  | debugClose (c : Cmd)
  /-- EVENT_RECORD_WRITE (R425): The writer takes the FIFO head and writes it to the event log and tail ring. -/
  | eventRecordWrite (ecc : Bool)
  /-- EVR_CLEAR (R432): The EVR_CLEAR command clears archived event records and rewrites the rest. -/
  | evrClear (c : Cmd)
  /-- ARCHIVE_BLOCK (R434): An ATTIC_ARCHIVE job copies one 4 KB block of log output. -/
  | archiveBlock
  /-- LIFE_STATS_SAVE (R435): Every 600 s the life-statistics shadows are saved to MRAM. -/
  | lifeStatsSave (ue : Bool)
  /-- LIFE_SECOND_TICK (R436): Each second the time-based life-statistics histograms and counters advance. -/
  | lifeSecondTick
  /-- RAIL_IN_RANGE (R77): A supervised rail returns into its range, and once all rails have been in range for 10 ms the RAIL live condition of SAFE ends. -/
  | railInRange (rail : Fin 7)
  /-- VBST_RECOVER (R259): After an over-voltage stop, VBST falls below VBST_SET and the boost converter restarts; VBST_LOW clears when VBST is restored. -/
  | vbstRecover (v : BitVec 16)
  /-- DIO_RETRY_COUNT_RESET (R327): After 1 s in ON without a short, a DIO output's RETRY_N returns to 0. -/
  | dioRetryCountReset (pin : Fin 32)
  /-- ANT_OPEN_CLEAR (R341): An antenna in OPEN returns to OK once its bias current has lain between 2.0 mA and 80 mA for 100 ms. -/
  | antOpenClear (a : Fin 2) (cur : BitVec 12)
  /-- TRIP_BLANK_END (R317): A trip blanking window ends, and a filtered input that is still active then takes effect. -/
  | tripBlankEnd (t : Fin 8)
  /-- REMOTE_SPEED_PERIOD (R225): Every REM_PERIOD_MS while a REMOTE METER_SPEED outlet is on, the dispatcher re-sends its meter speed S. -/
  | remoteSpeedPeriod (id : Fin 1024)
  /-- ETH_LINK_CHANGE (R381): The PHY link of ETH0 or ETH1 goes down or comes up; ETH_STAT.LINK changes, LINK_DOWN is set on loss, and REMOTE sends on the path count MISSED while it is down. -/
  | ethLinkChange (port : Fin 2) (speed : BitVec 2)
  /-- QUAD_INVALID_EXPIRE (R335): The 10 ms for which a quadrature pair reads invalid after a quadrature error end, and the pair reads valid again. -/
  | quadInvalidExpire (pair : Fin 6)
  /-- TIME_PULSE_END (R364): WIDTH_US after a time pulse begins, pin TPn returns to its inactive level. -/
  | timePulseEnd (pin : Fin 2)
  deriving DecidableEq, Repr

end Sys2Proof
end

