-- ==== Sys2Proof/Decode.lean ====
section
/-!
DEFINITION. Words of the operation table. The part exposes no instruction set (01 R7): no row of the table gives bits.
-/
namespace Sys2Proof

/-- The command a table word spells: none, since no row gives bits. -/
def decodeTableWord (_nbits _w : Nat) : Option Instr := none

end Sys2Proof
end

