-- ==== Sys2Proof/Config.lean ====
section
/-!
DEFINITION. What an implementation fixes and the values the spec leaves open. Every constant here is opaque:
nothing in Lean can evaluate it, so a claim about it holds for every value (log 5).
-/
namespace Sys2Proof.Config

/-- PG_REV.DIE_REV and IMPL of a page (03 R42): silicon and implementation revisions, by page number. -/
opaque pgRev : Nat → BitVec 16

/-- PKG_INFO.PKG_REV (03 R59 table): the package assembly revision. -/
opaque pkgRev : BitVec 4

/-- PCIE.CFG_ID.VENDOR (05 R111 table): the vendor ID, from fuses. -/
opaque vendorId : BitVec 16

/-- Fuse words of the FUSE page that differ from part to part: DEVICE_ID and the root key hashes (19),
and the ETH station addresses (18), by offset. -/
opaque fuse : Nat → BitVec 32

/-- A value the spec leaves open after an operation that goes on, numbered by the state's counter (log 5). -/
opaque freeWord : Nat → BitVec 64

/-- cos of an angle given in 2^-32 turn, as Q2.30 (07 R150, R174 state the format and error bound, not the table). -/
opaque cosQ30 : Nat → Int

/-- sin of an angle given in 2^-32 turn, as Q2.30 (07 R150). -/
opaque sinQ30 : Nat → Int

/-- sin x / x of half a chord angle given in 2^-32 turn, as Q2.30 (07 R151). -/
opaque sincQ30 : Int → Int

/-- e^(-t / TAU) as Q2.30, for t in 2^-1 ms and TAU in 100 ms (07 R151). -/
opaque decayQ30 : Nat → Nat → Int

/-- Course of a displacement E, N, in 2^-32 turn (07 R146). -/
opaque courseOf : Int → Int → BitVec 32

/-- What the fusion filter makes of a measurement: word of the fused state and counter of the fusion (07 R146). -/
opaque fused : Nat → Nat → BitVec 32

/-- Which of the 256 TLB entries a new one replaces when all are taken (06 R122). -/
opaque tlbVictim : Nat → Nat

/-- u for a raw output whose OUT_GAIN is 0 (13 R294 divides by it), as a Q1.23 mantissa. -/
opaque unscaled : Int → BitVec 24

/-- Clamped e / E_RANGE for an E_RANGE of 0 (13 R290), in 2^-20. -/
opaque errRatio : Int → BitVec 21

/-- Level of a pin that no output drives, by pin number and DT (14 R310: its pull resistor is the integrator's). -/
opaque pinFloat : Nat → Nat → Bool

/-- The gain of a chain's automatic gain control, by chain and DT (16 R339 gives its aim, not its value). -/
opaque agcGain : Nat → Nat → BitVec 8

/-- S_RATE fitted to the offsets of the last 64 beacons (18 R390 states no method), from pairs of own DT and offset. -/
opaque systRate : List (Nat × Int) → BitVec 32

/-- SYST fitted to the same offsets, at an own DT (18 R390). -/
opaque systAnchor : List (Nat × Int) → Nat → Int

/-- The public ETH_IDENTITY key generated at the first start-up (19 R413), by byte. -/
opaque ethIdentity : Nat → BitVec 8

/-- The challenge ID of a SESSION_CHALLENGE, by its number since the first (19 R410 states no numbering). -/
opaque challengeId : Nat → BitVec 32

end Sys2Proof.Config
end

