-- ==== Sys2Proof/Machine/Bits.lean ====
section
/-!
DEFINITION. Bit fields, signed readings, saturating counters and byte orders used by every family.
-/
namespace Sys2Proof.Machine

/-- Bits `[hi:lo]` of a word, as a number. -/
def fld (w : Word) (hi lo : Nat) : Nat := (w.toNat >>> lo) % 2 ^ (hi + 1 - lo)

/-- A word with bits `[hi:lo]` replaced by `v` (taken modulo the field's width). -/
def setFld (w : Word) (hi lo v : Nat) : Word :=
  BitVec.ofNat 32 (w.toNat - fld w hi lo * 2 ^ lo + (v % 2 ^ (hi + 1 - lo)) * 2 ^ lo)

/-- One bit of a word. -/
def bit (w : Word) (i : Nat) : Bool := w.getLsbD i

/-- A word with one bit set. -/
def setBit (w : Word) (i : Nat) : Word := w ||| BitVec.twoPow 32 i

/-- A word with one bit cleared. -/
def clrBit (w : Word) (i : Nat) : Word := w &&& ~~~(BitVec.twoPow 32 i)

/-- A word with one bit given. -/
def putBit (w : Word) (i : Nat) (b : Bool) : Word := if b then setBit w i else clrBit w i

/-- A mask of bits `[hi:lo]`. -/
def maskOf (hi lo : Nat) : Word := BitVec.ofNat 32 ((2 ^ (hi + 1 - lo) - 1) * 2 ^ lo)

/-- Read an `n`-bit number as two's complement. -/
def toSigned (n v : Nat) : Int := if v < 2 ^ (n - 1) then (v : Int) else (v : Int) - 2 ^ n

/-- Write a whole number into `n` bits, two's complement. -/
def ofSigned (n : Nat) (i : Int) : Nat := (i % (2 ^ n : Int)).toNat

/-- A signed 32-bit register value. -/
def sword (w : Word) : Int := w.toInt

/-- A whole number as a 32-bit word, wrapping. -/
def wordOf (i : Int) : Word := BitVec.ofInt 32 i

/-- Limit a whole number to a range. -/
def clamp (lo hi i : Int) : Int := if i < lo then lo else if hi < i then hi else i

/-- Saturate to a signed `n`-bit range. -/
def satS (n : Nat) (i : Int) : Int := clamp (-(2 ^ (n - 1))) (2 ^ (n - 1) - 1) i

/-- Saturate to an unsigned `n`-bit range. -/
def satU (n : Nat) (i : Int) : Nat := (clamp 0 (2 ^ n - 1) i).toNat

/-- Add to a saturating count of `n` bits. -/
def satAdd (n a b : Nat) : Nat := min (a + b) (2 ^ n - 1)

/-- Floor of a quotient (rounding toward minus infinity). -/
def fdiv (a b : Int) : Int := a.fdiv b

/-- Quotient rounded to nearest, halves away from zero. -/
def rdiv (a b : Int) : Int :=
  if b = 0 then 0
  else
    let s : Int := if (a < 0) = (b < 0) then 1 else -1
    s * ((2 * a.natAbs + b.natAbs) / (2 * b.natAbs) : Nat)

/-- Whole square root, rounded down, by `n` binary steps. -/
def isqrtAux : Nat → Nat → Nat → Nat
  | 0, _, r => r
  | n + 1, v, r => if (r + 2 ^ n) * (r + 2 ^ n) ≤ v then isqrtAux n v (r + 2 ^ n) else isqrtAux n v r

/-- Whole square root of a number below 2^128, rounded down. -/
def isqrt (v : Nat) : Nat := isqrtAux 64 v 0

/-- Base ticks of 10 ns in a DT (02 R28). -/
def ticks (d : DT) : Nat := d / 256

/-- DT units in `n` microseconds: 100 base ticks each (02 R28). -/
def usDT (n : Nat) : DT := n * 25600

/-- DT units in `n` milliseconds. -/
def msDT (n : Nat) : DT := n * 25600000

/-- DT units in `n` seconds. -/
def sDT (n : Nat) : DT := n * 25600000000

/-- Bytes of a word, lowest address first (little-endian, 05 R92). -/
def wordBytes (w : Word) : List Byte :=
  [w.extractLsb' 0 8, w.extractLsb' 8 8, w.extractLsb' 16 8, w.extractLsb' 24 8]

/-- The number a little-endian byte list spells. -/
def leNat : List Byte → Nat
  | [] => 0
  | b :: t => b.toNat + 256 * leNat t

/-- `n` bytes of a number, little-endian. -/
def natLE : Nat → Nat → List Byte
  | 0, _ => []
  | n + 1, v => BitVec.ofNat 8 v :: natLE n (v / 256)

/-- The word a little-endian byte list spells. -/
def bytesWord (l : List Byte) : Word := BitVec.ofNat 32 (leNat l)

/-- Words of a byte list, four bytes each, at most `n` of them. -/
def bytesWords : Nat → List Byte → List Word
  | 0, _ => []
  | n + 1, l => bytesWord (l.take 4) :: bytesWords n (l.drop 4)

/-- One bit step of CRC-16 with polynomial 0x1021, most significant bit first (07 R155, 05 R93). -/
def crc16Bit (c : BitVec 16) (b : Bool) : BitVec 16 :=
  if (c.getLsbD 15) != b then (c <<< 1) ^^^ 0x1021#16 else c <<< 1

/-- CRC-16 over bytes, polynomial 0x1021. -/
def crc16 (init : BitVec 16) : List Byte → BitVec 16
  | [] => init
  | x :: t =>
    crc16 ([7, 6, 5, 4, 3, 2, 1, 0].foldl (fun c i => crc16Bit c (x.getLsbD i)) init) t

/-- Element `i` of a list of words, 0 beyond its end. -/
def nth (l : List Word) (i : Nat) : Word := l.getD i 0

/-- Replace element `i` of a list (unchanged beyond its end). -/
def setNth {α : Type} (l : List α) (i : Nat) (x : α) : List α := l.set i x

/-- Population count of the low `n` bits of a number. -/
def popCount : Nat → Nat → Nat
  | 0, _ => 0
  | n + 1, v => v % 2 + popCount n (v / 2)

/-- Bits of a number that are set, among the low `n`, ascending. -/
def bitsSet (n v : Nat) : List Nat := (List.range n).filter (fun i => v.testBit i)

/-- The first `n` words of a list, padded with zeros. -/
def padWords (n : Nat) (l : List Word) : List Word := (l ++ List.replicate n 0).take n

end Sys2Proof.Machine
end

