-- ==== Sys2Proof/RegTypes.lean ====
section
/-!
DEFINITION. The shapes the register map is written in (03 R39 to R52).
-/
namespace Sys2Proof

/-- Register types (03 R52). -/
inductive RegType where
  | ro | wo | rw | w1c | w1s | rwa | rws
  deriving DecidableEq, Repr

/-- The kinds of register page (03 R40). -/
inductive PageKind where
  | pkg | reset | clock | time | supply | die | irqroute | cellar | safe | fuse
  | pcie | hspi | porch | jobs | sram | mram | lpddr | xspi | xlate | xfault
  | dma | posein | imu | geom | pred | hist | pantry | tiledir | probe | layers
  | retire | plan | commit | outletwin | edgeq | meter | totals | remote | drvctl | region
  | outc | bank | motion | ctleng | trace | loop | pwmctl | trip | pwmc | diog
  | aing | fing | rfctl | acq | acqres | tpulse | gnssctl | gch | can | eth
  | hxl | sysnet | secctl | session | keys | audit | update | evr | tail | audwin
  | life | dbgctl | dbgtrace
  deriving DecidableEq, Repr

/-- The cursor windows (03 R48 and the owning chapters). -/
inductive WinId where
  | xfaultLog | hist | slot | tile | diag | outlet | sect | queue
  | rate | nozzle | injector | outletStatus | totals | remote | result | learn
  | trace | peak | key | event | tail | audit | life | dbgTrace
  deriving DecidableEq, Repr

/-- One field of a register: its bits, type, reset value and the range its owner allows. -/
structure FieldSpec where
  hi : Nat
  lo : Nat
  ty : RegType
  rst : Nat
  min : Nat
  max : Nat
  deriving DecidableEq, Repr

/-- A register, or `count` registers `stride` bytes apart, at a page or frame offset. -/
structure RegSpec where
  ofs : Nat
  count : Nat
  stride : Nat
  fields : List FieldSpec
  deriving DecidableEq, Repr

/-- A window: its CURSOR's page offset, its words per record and its class (03 R48). -/
structure WinSpec where
  id : WinId
  ofs : Nat
  words : Nat
  cls : RegType
  deriving DecidableEq, Repr

/-- One kind of page: where it lies, its units, its implemented fault and event bits, and its registers. -/
structure PageSpec where
  kind : PageKind
  domain : Nat
  first : Nat
  count : Nat
  units : Nat
  fltMask : Nat
  evtMask : Nat
  unitEvt : Nat
  unitFlt : Nat
  regs : List RegSpec
  frame : List RegSpec
  wins : List WinSpec
  deriving DecidableEq, Repr

end Sys2Proof
end

