-- ==== Sys2Proof/Machine/RegMap.lean ====
section
/-!
DEFINITION. The register map: the 185 pages of 03 R40 with the registers each owning chapter tabulates.
The common header (03 R42) and the unit-frame header (03 R47) are not repeated in the rows.
-/
namespace Sys2Proof.Machine

/-- A field whose every value is in range. -/
def fd (hi lo : Nat) (ty : RegType) (rst : Nat) : FieldSpec := ⟨hi, lo, ty, rst, 0, 2 ^ (hi + 1 - lo) - 1⟩

/-- A field with the range its chapter gives. -/
def fr (hi lo : Nat) (ty : RegType) (rst min max : Nat) : FieldSpec := ⟨hi, lo, ty, rst, min, max⟩

/-- One register. -/
def rg (ofs : Nat) (fields : List FieldSpec) : RegSpec := ⟨ofs, 1, 4, fields⟩

/-- A row of registers. -/
def ra (ofs count stride : Nat) (fields : List FieldSpec) : RegSpec := ⟨ofs, count, stride, fields⟩

/-- PKG page: PKG_INFO, ACC_FLT_ADDR, ACC_FLT_INFO, REFUSED_ADDR, REFUSED_INFO (03). -/
def pkgRegs : List RegSpec := [
  rg 0x040 [fd 31 16 .ro 0x4192, fd 7 4 .ro 0, fd 3 0 .ro 0],
  rg 0x044 [fd 31 24 .ro 0, fd 23 0 .ro 0],
  rg 0x048 [fd 31 16 .ro 0, fd 2 2 .ro 0, fd 1 1 .ro 0, fd 0 0 .ro 0],
  rg 0x04C [fd 31 24 .ro 0, fd 23 0 .ro 0],
  rg 0x050 [fd 31 16 .ro 0, fd 3 0 .ro 0]]

/-- RESET page: CAUSE, PWRCYC, OPT_S, OPT_F, BOOT_STAT (04). -/
def resetRegs : List RegSpec := [
  rg 0x040 [fd 6 6 .ro 0, fd 5 5 .ro 0, fd 4 4 .ro 0, fd 3 3 .ro 0, fd 2 2 .ro 0, fd 1 1 .ro 0, fd 0 0 .ro 0],
  rg 0x044 [fd 23 0 .ro 0],
  rg 0x048 [fd 31 0 .ro 0],
  rg 0x04C [fd 7 0 .ro 0],
  rg 0x050 [fd 31 16 .ro 0, fd 8 8 .ro 0, fd 1 1 .ro 0, fd 0 0 .ro 0]]

/-- CLOCK page: REF_STAT, ISL_CTRL, ISL_STAT (02). -/
def clockRegs : List RegSpec := [
  rg 0x040 [fd 31 16 .ro 0, fd 15 8 .ro 0, fd 1 1 .ro 0, fd 0 0 .ro 0],
  rg 0x044 [fd 9 8 .rw 0, fd 7 6 .rw 0, fd 5 4 .rw 0, fd 3 2 .rw 0, fd 1 0 .rw 0],
  rg 0x048 [fd 9 8 .ro 0, fd 7 6 .ro 0, fd 5 4 .ro 0, fd 3 2 .ro 0, fd 1 0 .ro 0]]

/-- TIME page: DT_LO, DT_HI, DT_STAT, MAP_SEQ, WALL_ADT_LO, WALL_ADT_HI, WALL_ANS_LO, WALL_ANS_HI, WALL_RATE, WALL_EPOCH, WALL_SRC, GNSS_ADT_LO, GNSS_ADT_HI, GNSS_ANS_LO, GNSS_ANS_HI, GNSS_RATE (02). -/
def timeRegs0 : List RegSpec := [
  rg 0x040 [fd 31 0 .ro 0],
  rg 0x044 [fd 31 0 .ro 0],
  rg 0x048 [fd 3 3 .ro 0, fd 2 2 .ro 0, fd 1 1 .ro 0, fd 0 0 .ro 0],
  rg 0x050 [fd 31 0 .ro 0],
  rg 0x054 [fd 31 0 .ro 0],
  rg 0x058 [fd 31 0 .ro 0],
  rg 0x05C [fd 31 0 .ro 0],
  rg 0x060 [fd 31 0 .ro 0],
  rg 0x064 [fd 31 0 .ro 0],
  rg 0x068 [fd 15 0 .ro 0],
  rg 0x06C [fr 2 0 .rwa 0 0 4],
  rg 0x070 [fd 31 0 .ro 0],
  rg 0x074 [fd 31 0 .ro 0],
  rg 0x078 [fd 31 0 .ro 0],
  rg 0x07C [fd 31 0 .ro 0],
  rg 0x080 [fd 31 0 .ro 0]]

/-- TIME page: GNSS_EPOCH (02). -/
def timeRegs1 : List RegSpec := [
  rg 0x084 [fd 15 0 .ro 0]]

/-- SUPPLY page: RAIL_STAT, PF_CFG, TEMP_LOGIC, TEMP_FIELD, TEMP_RF, TJ_CFG (04). -/
def supplyRegs : List RegSpec := [
  rg 0x040 [fd 8 8 .ro 0, fd 6 0 .ro 0],
  rg 0x044 [fr 15 8 .rwa 0x32 1 255, fd 0 0 .rwa 1],
  rg 0x048 [fd 15 0 .ro 0x8000],
  rg 0x04C [fd 15 0 .ro 0x8000],
  rg 0x050 [fd 15 0 .ro 0x8000],
  rg 0x054 [fr 7 0 .rwa 0x73 90 120]]

/-- DIE page: FLDHB_STAT, FLDSAFE_CAUSE, FLDSAFE_DT_LO, FLDSAFE_DT_HI (01). -/
def dieRegs : List RegSpec := [
  rg 0x040 [fd 23 16 .ro 0, fd 15 8 .ro 0, fd 3 3 .ro 0, fd 2 2 .ro 0, fd 1 1 .ro 0, fd 0 0 .ro 0],
  rg 0x044 [fd 31 31 .ro 0, fd 4 4 .ro 0, fd 3 3 .ro 0, fd 2 2 .ro 0, fd 1 1 .ro 0, fd 0 0 .ro 0],
  rg 0x048 [fd 31 0 .ro 0],
  rg 0x04C [fd 31 0 .ro 0]]

/-- IRQROUTE page: SRC_ASSERT, INT_CFG, INT_STAT, VEC_STAT, VEC_ARMED, VEC_EOI, ROUTE (03). -/
def irqrouteRegs : List RegSpec := [
  ra 0x040 8 0x4 [fd 31 0 .ro 0],
  rg 0x060 [fd 15 8 .rw 0, fd 7 0 .rw 0],
  rg 0x064 [fd 7 0 .ro 0],
  rg 0x068 [fd 31 0 .ro 0],
  rg 0x06C [fd 31 0 .ro 0xffffffff],
  rg 0x070 [fd 31 0 .w1s 0],
  ra 0x900 256 0x4 [fd 8 8 .rw 0, fd 7 0 .rw 0]]

/-- CELLAR page: CFG, WAKE_TIMER, LAST, STAY, SCRUB (04). -/
def cellarRegs : List RegSpec := [
  rg 0x040 [fr 31 16 .rwa 0x2d0 0 2880, fr 15 8 .rwa 0x32 10 250, fd 2 2 .rwa 1, fd 1 1 .rwa 1],
  rg 0x044 [fd 31 0 .rw 0],
  rg 0x048 [fd 15 8 .ro 0xff, fd 4 4 .ro 0, fd 3 0 .ro 0],
  rg 0x04C [fd 31 0 .ro 0],
  rg 0x050 [fd 31 16 .ro 0, fd 15 0 .ro 0]]

/-- SAFE page: MODE_STAT, CAUSE, CAUSE_LIVE, ENTRY_DT_LO, ENTRY_DT_HI (04). -/
def safeRegs : List RegSpec := [
  rg 0x040 [fd 11 8 .ro 0xf, fd 3 0 .ro 0],
  rg 0x044 [fd 9 0 .ro 0],
  rg 0x048 [fd 9 0 .ro 0],
  rg 0x04C [fd 31 0 .ro 0],
  rg 0x050 [fd 31 0 .ro 0]]

/-- FUSE page: LIFE, SVN, DEVICE_ID_LO, DEVICE_ID_HI, ROOT_HASH0, ROOT_HASH1 (19). -/
def fuseRegs : List RegSpec := [
  rg 0x040 [fd 8 8 .ro 0, fd 5 4 .ro 0, fd 0 0 .ro 1],
  rg 0x044 [fd 6 0 .ro 0],
  rg 0x048 [fd 31 0 .ro 0],
  rg 0x04C [fd 31 0 .ro 0],
  ra 0x100 12 0x4 [fd 31 0 .ro 0],
  ra 0x130 12 0x4 [fd 31 0 .ro 0]]

/-- PCIE page: LINK_STAT, CFG_ID, MSIX_ADDR_LO, MSIX_ADDR_HI, MSIX_DATA, MSIX_CTRL, MSIX_PBA (05). -/
def pcieRegs : List RegSpec := [
  rg 0x040 [fd 8 8 .ro 0, fd 7 4 .ro 0, fd 3 0 .ro 0],
  rg 0x044 [fd 31 16 .ro 0x4192, fd 15 0 .ro 0],
  ra 0x900 32 0x10 [fd 31 0 .rw 0],
  ra 0x904 32 0x10 [fd 31 0 .rw 0],
  ra 0x908 32 0x10 [fd 31 0 .rw 0],
  ra 0x90C 32 0x10 [fd 0 0 .rw 1],
  rg 0xB00 [fd 31 0 .ro 0]]

/-- HSPI page: CFG, STAT (05). -/
def hspiRegs : List RegSpec := [
  rg 0x040 [fd 0 0 .rwa 1],
  rg 0x044 [fd 31 16 .ro 0, fd 15 0 .ro 0]]

/-- PORCH page: PORCH_CFG, RING_CTRL, CMD_BASE, CPL_BASE, CMD_TAIL, CMD_HEAD, CPL_TAIL, CPL_HEAD, RING_STAT (05). -/
def porchRegs : List RegSpec := [
  rg 0x040 [fd 31 16 .rwa 0xc4e2, fd 1 1 .rwa 0, fd 0 0 .rwa 0],
  ra 0x100 4 0x40 [fd 31 31 .rw 0, fd 11 8 .rw 4, fd 3 0 .rw 4],
  ra 0x104 4 0x40 [fd 19 6 .rw 0],
  ra 0x108 4 0x40 [fd 19 4 .rw 0],
  ra 0x10C 4 0x40 [fd 9 0 .rw 0],
  ra 0x110 4 0x40 [fd 9 0 .ro 0],
  ra 0x114 4 0x40 [fd 16 16 .ro 1, fd 9 0 .ro 0],
  ra 0x118 4 0x40 [fd 9 0 .rw 0],
  ra 0x11C 4 0x40 [fd 31 31 .ro 0, fd 15 0 .ro 0]]

/-- JOBS page: JOB_SUMMARY, JOB_CFG, JOB_STAT, JOB_DETAIL, ELAPSED_MS, reserved (05). -/
def jobsRegs : List RegSpec := [
  rg 0x040 [fd 23 20 .ro 0, fd 19 16 .ro 0, fd 15 0 .ro 0],
  rg 0x044 [fr 7 0 .rwa 0x32 10 90],
  ra 0x100 16 0x10 [fd 31 24 .ro 0, fd 23 16 .ro 0, fd 15 8 .ro 0, fd 7 7 .ro 0, fd 6 4 .ro 0, fd 3 0 .ro 0],
  ra 0x104 16 0x10 [fd 23 16 .ro 0, fd 15 0 .ro 0],
  ra 0x108 16 0x10 [fd 31 0 .ro 0],
  ra 0x10C 16 0x10 []]

/-- SRAM page: ECC_STAT, UE_ADDR_LO, SCRUB_CFG (06). -/
def sramRegs : List RegSpec := [
  rg 0x040 [fd 31 16 .ro 0, fd 15 0 .ro 0],
  rg 0x044 [fd 31 0 .ro 0],
  rg 0x048 [fr 7 0 .rwa 0x3c 10 255]]

/-- MRAM page: ECC_STAT, UE_ADDR_LO (06). -/
def mramRegs : List RegSpec := [
  rg 0x040 [fd 31 16 .ro 0, fd 15 0 .ro 0],
  rg 0x044 [fd 31 0 .ro 0]]

/-- LPDDR page: ECC_STAT, UE_ADDR_LO, UE_ADDR_HI, CFG, FS_BASE, FS_SIZE (06). -/
def lpddrRegs : List RegSpec := [
  rg 0x040 [fd 31 16 .ro 0, fd 15 0 .ro 0],
  rg 0x044 [fd 31 0 .ro 0],
  rg 0x048 [fd 7 0 .ro 0],
  rg 0x04C [fr 15 8 .rwa 4 1 48, fd 4 4 .ro 0, fd 3 0 .ro 0],
  rg 0x050 [fd 19 0 .ro 0],
  rg 0x054 [fd 11 0 .ro 0]]

/-- XSPI page: STAT (06). -/
def xspiRegs : List RegSpec := [
  rg 0x040 [fd 23 8 .ro 0, fd 3 0 .ro 1]]

/-- XLATE page: CTX_EN, INV, TLB_STAT, CTX_BASE (06). -/
def xlateRegs : List RegSpec := [
  rg 0x040 [fd 16 0 .rw 0],
  rg 0x044 [fd 31 31 .w1s 0, fd 8 8 .w1s 0, fd 4 0 .rw 0],
  rg 0x048 [fd 31 0 .ro 0],
  ra 0x100 17 0x4 [fd 26 0 .rw 0]]

/-- XFAULT page: LOG_STAT, LOG_CTRL, TILE_STAT (06). -/
def xfaultRegs : List RegSpec := [
  rg 0x040 [fd 31 16 .ro 0, fd 6 0 .ro 0],
  rg 0x044 [fd 0 0 .w1s 0],
  rg 0x048 [fd 31 16 .ro 0, fd 15 0 .ro 0]]

/-- DMA page: CTRL, DESC_PTR, CUR_DESC, PROGRESS, STAT, FLT_IOVA, DONE_COUNT (06). -/
def dmaRegs : List RegSpec := [
  rg 0x040 [fd 2 2 .w1s 0, fd 1 1 .w1s 0, fd 0 0 .w1s 0],
  rg 0x044 [fd 31 5 .rw 0],
  rg 0x048 [fd 31 0 .ro 0],
  rg 0x04C [fd 23 0 .ro 0],
  rg 0x050 [fd 11 8 .ro 0, fd 3 0 .ro 0],
  rg 0x054 [fd 31 0 .ro 0],
  rg 0x058 [fd 31 0 .ro 0]]

/-- POSEIN page: SRC_CFG, SRC_STAT, TIMING, QUAL_MIN, JUMP_TOL, N2K_LAT, ANCHOR_LAT_LO, ANCHOR_LAT_HI, ANCHOR_LON_LO, ANCHOR_LON_HI, ANCHOR_H, HOST_POSE, LAST_POSE (07). -/
def poseinRegs : List RegSpec := [
  rg 0x040 [fd 5 4 .rwa 0, fd 3 2 .rwa 2, fd 1 0 .rwa 1],
  rg 0x044 [fd 31 16 .ro 0xffff, fd 5 4 .ro 0, fd 1 0 .ro 0],
  rg 0x048 [fr 31 16 .rwa 0x7d0 100 30000, fr 15 0 .rwa 0x12c 20 2000],
  rg 0x04C [fr 19 16 .rwa 1 1 4, fr 15 0 .rwa 0x64 1 10000],
  rg 0x050 [fr 15 0 .rwa 0xc8 10 10000],
  rg 0x054 [fr 15 0 .rwa 0 0 50000],
  rg 0x058 [fd 31 0 .ro 0],
  rg 0x05C [fd 31 0 .ro 0],
  rg 0x060 [fd 31 0 .ro 0],
  rg 0x064 [fd 31 0 .ro 0],
  rg 0x068 [fd 31 0 .ro 0],
  ra 0x100 10 0x4 [fd 31 0 .wo 0],
  ra 0x140 10 0x4 [fd 31 0 .ro 0]]

/-- IMU page: CFG, CMD, OFFS_G, OFFS_A, GSCALE, ASCALE, STAT, GBIAS_Z (07). -/
def imuRegs : List RegSpec := [
  rg 0x040 [fd 31 31 .rwa 0, fd 29 24 .rwa 0x10, fr 23 16 .rwa 0xe 1 32, fr 15 8 .rwa 0x13 9 99, fd 7 7 .rwa 0, fd 6 5 .rwa 0],
  rg 0x044 [fd 31 0 .rwa 0],
  rg 0x048 [fd 23 0 .rwa 0x60402],
  rg 0x04C [fd 23 0 .rwa 0xc0a08],
  rg 0x050 [fd 31 0 .rwa 0],
  rg 0x054 [fd 31 0 .rwa 0],
  rg 0x058 [fd 31 16 .ro 0, fd 2 2 .ro 0, fd 1 1 .ro 0, fd 0 0 .ro 0],
  rg 0x05C [fd 31 0 .ro 0]]

/-- GEOM page: KIN, ANT0_X, ANT0_Y, ANT0_Z, ANT1_X, ANT1_Y, ANT1_Z, HITCH1_X, L1, HITCH2_X, L2, HITCH1_CAL, HITCH2_CAL, HITCH_TOL, HITCH_ANGLE1, HITCH_ANGLE2 (07). -/
def geomRegs0 : List RegSpec := [
  rg 0x040 [fr 31 24 .rws 0 0 15, fr 23 16 .rws 0 0 15, fr 13 12 .rws 0 0 1, fr 9 8 .rws 0 0 1, fr 5 4 .rws 0 0 2, fr 1 0 .rws 0 0 2],
  rg 0x044 [fd 31 0 .rws 0],
  rg 0x048 [fd 31 0 .rws 0],
  rg 0x04C [fd 31 0 .rws 0],
  rg 0x050 [fd 31 0 .rws 0],
  rg 0x054 [fd 31 0 .rws 0],
  rg 0x058 [fd 31 0 .rws 0],
  rg 0x05C [fd 31 0 .rws 0],
  rg 0x060 [fr 31 0 .rws 0 500 30000],
  rg 0x064 [fd 31 0 .rws 0],
  rg 0x068 [fr 31 0 .rws 0 500 30000],
  rg 0x06C [fd 31 16 .rws 0, fd 15 0 .rws 0],
  rg 0x070 [fd 31 16 .rws 0, fd 15 0 .rws 0],
  rg 0x074 [fd 15 0 .rwa 0xb6],
  rg 0x078 [fd 31 0 .ro 0],
  rg 0x07C [fd 31 0 .ro 0]]

/-- GEOM page: ODO_CFG, ODO_SCALE, COUNTS_PER_TURN, ANGLE_OFS, TRK_SLEW_TOL (07). -/
def geomRegs1 : List RegSpec := [
  rg 0x080 [fd 9 9 .rws 0, fd 8 8 .rws 0, fr 7 4 .rws 0 0 11, fr 3 0 .rws 0 0 5],
  rg 0x084 [fd 31 0 .rws 0],
  rg 0x088 [fr 23 0 .rws 0 4 16777215],
  rg 0x08C [fd 31 0 .rws 0],
  rg 0x090 [fr 15 0 .rwa 0x1f4 10 10000]]

/-- PRED page: CFG, EPOCH_TOL, MODEL, POSE_EPOCH, EPOCH_CAUSE, LAST_DEV, UNC_END, OVERRUN, UNC_CFG (07). -/
def predRegs : List RegSpec := [
  rg 0x040 [fr 23 16 .rws 0xa 1 20, fr 15 0 .rws 0x2ee0 100 12000],
  rg 0x044 [fd 31 16 .rwa 9, fr 15 0 .rwa 0x14 1 1000],
  rg 0x048 [fr 15 8 .rwa 0x14 1 255, fd 0 0 .rwa 0],
  rg 0x04C [fd 31 0 .ro 0],
  rg 0x050 [fd 7 0 .ro 0],
  rg 0x054 [fd 31 0 .ro 0],
  rg 0x058 [fd 31 0 .ro 0],
  rg 0x05C [fd 15 0 .ro 0],
  rg 0x060 [fd 31 16 .rwa 0xaf, fd 15 0 .rwa 0x32]]

/-- HIST page: RING_BASE, RING_MB, NEWEST_DT_LO, NEWEST_DT_HI, OLDEST_DT_LO, OLDEST_DT_HI (07). -/
def histRegs : List RegSpec := [
  rg 0x040 [fd 19 0 .ro 0],
  rg 0x044 [fr 9 0 .rwa 0x40 16 512],
  rg 0x048 [fd 31 0 .ro 0],
  rg 0x04C [fd 31 0 .ro 0],
  rg 0x050 [fd 31 0 .ro 0],
  rg 0x054 [fd 31 0 .ro 0]]

/-- PANTRY page: SLOT_SUM, HITS, MISSES, PF_CFG, PF_COUNT (08). -/
def pantryRegs : List RegSpec := [
  rg 0x040 [fd 31 24 .ro 0x70, fd 23 16 .ro 0, fd 15 8 .ro 0, fd 7 0 .ro 0],
  rg 0x044 [fd 31 0 .ro 0],
  rg 0x048 [fd 31 0 .ro 0],
  rg 0x04C [fr 31 16 .rwa 0x7d0 0 10000, fr 5 0 .rwa 8 0 32],
  rg 0x050 [fd 31 16 .ro 0, fd 15 0 .ro 0]]

/-- TILEDIR page: FIELD_STAT, FIELD_ID_LO, FIELD_ID_HI, ORIGIN, EXTENT, TILE_COUNT, LOAD_CFG (08). -/
def tiledirRegs : List RegSpec := [
  rg 0x040 [fd 31 31 .ro 0, fd 23 16 .ro 0, fd 9 8 .ro 0, fd 1 0 .ro 1],
  rg 0x044 [fd 31 0 .ro 0],
  rg 0x048 [fd 31 0 .ro 0],
  rg 0x04C [fd 31 16 .ro 0, fd 15 0 .ro 0],
  rg 0x050 [fd 31 16 .ro 0, fd 15 0 .ro 0],
  rg 0x054 [fd 31 0 .ro 0],
  rg 0x058 [fd 15 8 .rwa 0xc8, fd 0 0 .rws 0]]

/-- PROBE page: CFG, STAT, TRUNC, FB_BND, FB_COV, FB_RX, DIAG_SEL (08). -/
def probeRegs : List RegSpec := [
  rg 0x040 [fr 31 16 .rwa 0x7d0 100 20000, fr 15 0 .rws 0x64 10 1000],
  rg 0x044 [fd 31 16 .ro 0, fd 15 0 .ro 0],
  rg 0x048 [fd 31 16 .ro 0, fd 15 0 .ro 0xffff],
  rg 0x04C [fd 31 0 .ro 0],
  rg 0x050 [fd 31 0 .ro 0],
  rg 0x054 [fd 31 0 .ro 0],
  rg 0x058 [fd 9 0 .rw 0]]

/-- LAYERS page: FALLBACK, LANE_CFG, COV1_CELLS, COV2_CELLS, COV3_CELLS (08). -/
def layersRegs : List RegSpec := [
  rg 0x040 [fd 2 2 .rws 0, fd 1 1 .rws 0, fd 0 0 .rws 0],
  rg 0x044 [fr 15 0 .rws 0x1f4 50 5000],
  rg 0x048 [fd 31 0 .ro 0],
  rg 0x04C [fd 31 0 .ro 0],
  rg 0x050 [fd 31 0 .ro 0]]

/-- RETIRE page: CFG, BACKLOG, LOST_OVF, LOST_POSE, LOST_MEDIA, LOST_DISCARD, RECORDS, LOST_CTRL (09). -/
def retireRegs : List RegSpec := [
  rg 0x040 [fr 28 16 .rwa 0xc00 1 4096, fr 15 8 .rwa 0x64 10 250, fd 0 0 .rwa 1],
  rg 0x044 [fd 28 16 .ro 0, fd 12 0 .ro 0],
  rg 0x048 [fd 31 0 .ro 0],
  rg 0x04C [fd 31 0 .ro 0],
  rg 0x050 [fd 31 0 .ro 0],
  rg 0x054 [fd 31 0 .ro 0],
  rg 0x058 [fd 31 0 .ro 0],
  rg 0x05C [fd 0 0 .w1s 0]]

/-- PLAN page: CFG, TIMING, STAT, OVERRUN (09). -/
def planRegs : List RegSpec := [
  rg 0x040 [fd 31 31 .rws 0, fd 30 30 .rwa 1, fr 29 28 .rwa 0 0 2, fr 27 24 .rwa 0xa 1 15, fr 15 0 .rwa 0 0 10000],
  rg 0x044 [fr 31 16 .rwa 0x3e8 100 50000, fr 15 0 .rwa 0xc350 1000 60000],
  rg 0x048 [fd 31 16 .ro 0, fd 3 0 .ro 0],
  rg 0x04C [fd 31 16 .ro 0, fd 15 0 .ro 0]]

/-- COMMIT page: CFG, STAT, PLANNED, SQUASHED, COMMITTED, CONFIRMED, ESTIMATED, LATE, MISSED, CNT_CTRL, LATE_MAX (09). -/
def commitRegs : List RegSpec := [
  rg 0x040 [fr 15 0 .rwa 0x1388 2000 50000],
  rg 0x044 [fd 31 16 .ro 0, fd 15 0 .ro 0],
  rg 0x048 [fd 31 0 .ro 0],
  rg 0x04C [fd 31 0 .ro 0],
  rg 0x050 [fd 31 0 .ro 0],
  rg 0x054 [fd 31 0 .ro 0],
  rg 0x058 [fd 31 0 .ro 0],
  rg 0x05C [fd 31 0 .ro 0],
  rg 0x060 [fd 31 0 .ro 0],
  rg 0x064 [fd 0 0 .w1s 0],
  rg 0x068 [fd 23 0 .ro 0]]

/-- OUTLETWIN page: SW_STAT, VIEW (09). -/
def outletwinRegs : List RegSpec := [
  rg 0x040 [fd 31 16 .ro 0, fd 1 1 .ro 0, fd 0 0 .ro 0],
  rg 0x044 [fd 0 0 .rw 0]]

/-- EDGEQ page: HOLDS (09). -/
def edgeqRegs : List RegSpec := [
  rg 0x040 [fd 31 0 .ro 0]]

/-- METER page: CFG, RATE_SW, STAT, LOG_OVF, PCFG, PPU, UNITS_PER_REV, PZERO, PSPAN, RATE_LEAD, QTY_SCALE, FLOW_TGT, FLOW_MEAS, PRESS, PSTAT (10). -/
def meterRegs : List RegSpec := [
  rg 0x040 [fd 31 31 .rwa 1, fr 23 16 .rwa 0x64 10 255, fr 15 0 .rwa 0xc8 0 5000],
  rg 0x044 [fd 31 16 .ro 0, fd 1 1 .ro 0, fd 0 0 .rw 0],
  rg 0x048 [fd 31 16 .ro 0, fd 15 0 .ro 0],
  rg 0x04C [fd 31 0 .ro 0],
  ra 0x100 4 0x40 [fd 31 31 .rwa 0, fr 27 24 .rwa 0 0 11, fd 23 23 .rwa 0, fd 22 19 .rwa 0, fd 18 18 .rwa 0],
  ra 0x104 4 0x40 [fr 31 0 .rwa 0x10000 1 4294967295],
  ra 0x108 4 0x40 [fr 31 0 .rwa 0x10000 1 4294967295],
  ra 0x10C 4 0x40 [fd 15 0 .rwa 0],
  ra 0x110 4 0x40 [fd 31 0 .rwa 0],
  ra 0x114 4 0x40 [fr 23 0 .rwa 0 0 2000000],
  ra 0x118 4 0x40 [fd 15 0 .rw 0x1000],
  ra 0x11C 4 0x40 [fd 31 0 .ro 0],
  ra 0x120 4 0x40 [fd 31 0 .ro 0],
  ra 0x124 4 0x40 [fd 31 0 .ro 0],
  ra 0x128 4 0x40 [fd 31 16 .ro 0, fd 3 3 .ro 0, fd 2 2 .ro 0, fd 1 1 .ro 0, fd 0 0 .ro 0]]

/-- TOTALS page: STAT, CKPT (10). -/
def totalsRegs : List RegSpec := [
  rg 0x040 [fd 31 16 .ro 0, fd 1 1 .ro 0, fd 0 0 .ro 0],
  rg 0x044 [fd 31 0 .ro 0]]

/-- REMOTE page: SENT, LATE_SENDS, TIMEOUTS, DEPTH (09). -/
def remoteRegs : List RegSpec := [
  rg 0x040 [fd 31 0 .ro 0],
  rg 0x044 [fd 31 0 .ro 0],
  rg 0x048 [fd 31 0 .ro 0],
  rg 0x04C [fd 24 16 .ro 0, fd 8 0 .ro 0]]

/-- DRVCTL page: CFG, VBST_CFG, VBST_STAT, STAT (11). -/
def drvctlRegs : List RegSpec := [
  rg 0x040 [fr 31 16 .rwa 0x7d0 0 5000, fr 11 0 .rwa 0x78 50 500],
  rg 0x044 [fr 31 24 .rws 0x30 24 65, fd 23 16 .rws 0x2a],
  rg 0x048 [fd 15 0 .ro 0],
  rg 0x04C [fd 23 16 .ro 0, fd 15 0 .ro 0]]

/-- REGION page: CFG, THERM, SAG, REC, STAT, VOLT, SAGS, BUDGET (11). -/
def regionRegs : List RegSpec := [
  rg 0x040 [fd 31 31 .rws 1, fd 30 30 .rws 0, fr 21 16 .rws 8 1 48, fr 11 8 .rws 2 1 8],
  rg 0x044 [fr 31 16 .rws 0xbb8 500 12000, fr 15 0 .rws 0x3e8 100 10000],
  rg 0x048 [fd 31 24 .rws 0x5a, fd 23 16 .rws 0x46, fd 15 8 .rws 0x3c, fr 7 4 .rws 5 1 15, fr 3 0 .rws 4 1 15],
  rg 0x04C [fr 15 0 .rws 0x32 10 5000],
  rg 0x050 [fd 31 28 .ro 0, fd 27 27 .ro 0, fd 26 26 .ro 0, fd 25 25 .ro 0, fd 23 16 .ro 0, fd 15 8 .ro 0],
  rg 0x054 [fd 31 16 .ro 0, fd 15 0 .ro 0],
  rg 0x058 [fd 31 16 .ro 0, fd 15 0 .ro 0],
  rg 0x05C [fd 31 16 .ro 0, fd 15 0 .ro 0]]

/-- OUTC page: CL_CFG, CL_TEMP (11). -/
def outcRegs : List RegSpec := [
  rg 0x040 [fd 3 0 .rws 0],
  rg 0x044 [fd 15 0 .ro 0x8000]]

/-- OUTC page: CH_CFG, CH_CUR, CH_TIME, CH_HOLD, CH_STAT, CH_MEAS, CH_CNT, CH_DIAG (11). -/
def outcFrame : List RegSpec := [
  rg 0x020 [fr 29 28 .rws 0 0 1, fd 27 27 .rws 1, fd 26 24 .rws 3, fr 23 16 .rws 0xa 1 255],
  rg 0x024 [fd 27 16 .rwa 0x5dc, fd 11 0 .rwa 0x1f4],
  rg 0x028 [fr 31 24 .rwa 0x1e 1 200, fr 23 16 .rwa 0x50 1 200, fr 15 8 .rwa 0xa 5 100],
  rg 0x02C [fd 27 16 .rwa 0x12c, fr 15 0 .rwa 0x2710 100 65535],
  rg 0x030 [fd 31 31 .ro 0, fd 30 30 .ro 0, fd 29 29 .ro 0, fd 28 28 .ro 0, fd 27 25 .ro 0, fd 24 24 .ro 0, fd 23 12 .ro 0],
  rg 0x034 [fd 31 16 .ro 0, fd 15 0 .ro 0],
  rg 0x038 [fd 31 16 .ro 0, fd 15 0 .ro 0],
  rg 0x03C [fd 31 24 .ro 0xff]]

/-- BANK page: BK_CFG, BK_STAT (11). -/
def bankRegs : List RegSpec := [
  rg 0x040 [fr 31 24 .rws 0x14 0 50, fr 23 16 .rws 0xf 1 100, fd 0 0 .rws 0],
  rg 0x044 [fd 31 28 .ro 0, fd 26 26 .ro 0, fd 25 24 .ro 0, fd 15 0 .ro 0]]

/-- BANK page: BST_CUR, BST_TIME, BST_PROT, BST_STAT, BST_SHUNT (11). -/
def bankFrame : List RegSpec := [
  rg 0x020 [fr 27 16 .rwa 0x5dc 0 2000, fr 11 0 .rwa 0x190 0 600],
  rg 0x024 [fr 15 0 .rwa 0x3e8 50 5000],
  rg 0x028 [fr 11 0 .rws 0x7d0 0 2500],
  rg 0x02C [fd 31 16 .ro 0, fd 11 0 .ro 0],
  rg 0x030 [fr 15 0 .rws 0x2710 1000 65535]]

/-- MOTION page: BANDS, LEARN_CFG, SMP_STAT, RES_STAT, SUSPECT_CNT, DS_CLOSE, DS_WIN, DS_OPEN, reserved (12). -/
def motionRegs : List RegSpec := [
  rg 0x040 [fd 23 16 .rws 0xdc, fd 15 8 .rws 0xa0, fd 7 0 .rws 0x6e],
  rg 0x044 [fr 7 0 .rwa 0x14 1 100],
  rg 0x048 [fd 31 16 .ro 0, fd 15 0 .ro 0],
  rg 0x04C [fd 31 16 .ro 0, fd 15 0 .ro 0],
  rg 0x050 [fd 10 0 .ro 0],
  ra 0x100 4 0x10 [fr 31 16 .rwa 0x96 1 5000, fr 15 0 .rwa 0x28 10 1000],
  ra 0x104 4 0x10 [fr 31 16 .rwa 0x1f4 0 2000, fr 7 0 .rwa 0x14 1 20],
  ra 0x108 4 0x10 [fr 31 16 .rwa 0x14 1 2000, fr 15 8 .rwa 0x14 1 90, fr 7 0 .rwa 0x32 10 255],
  ra 0x10C 4 0x10 []]

/-- CTLENG page: LOAD, LATE, STAT (13). -/
def ctlengRegs : List RegSpec := [
  rg 0x040 [fd 18 0 .ro 0],
  rg 0x044 [fd 31 0 .ro 0],
  rg 0x048 [fd 28 24 .ro 0, fd 15 0 .ro 0]]

/-- TRACE page: CFG, DEPTH, TRIG, THRESH, CTRL, STAT, TRIG_POS, PROBE (13). -/
def traceRegs : List RegSpec := [
  rg 0x040 [fd 28 24 .rw 0, fd 20 16 .rw 0],
  rg 0x044 [fd 31 16 .rw 0, fd 15 0 .rw 0],
  rg 0x048 [fd 31 28 .rw 0, fd 27 24 .rw 0, fd 20 16 .rw 0, fd 7 0 .rw 0],
  rg 0x04C [fd 31 8 .rw 0, fd 7 0 .rw 0],
  rg 0x050 [fd 2 2 .w1s 0, fd 1 1 .w1s 0, fd 0 0 .w1s 0],
  rg 0x054 [fd 31 28 .ro 0, fd 27 27 .ro 0, fd 15 0 .ro 0],
  rg 0x058 [fd 15 0 .ro 0],
  ra 0x080 16 0x4 [fd 28 24 .rw 0, fd 15 8 .rw 0, fd 7 0 .rw 0]]

/-- LOOP page: LP_CFG, LP_PHASE, LP_STAT, MAN_OUT, HOST_VAL, OUT_RAW, LAST_DT, IN_SEL, IN_OFS, IN_GAIN, IN_LO, IN_HI, IN_STALE, OUT_SEL, OUT_GAIN, OUT_OFS (13). -/
def loopRegs0 : List RegSpec := [
  rg 0x060 [fd 23 0 .rwa 0x2710],
  rg 0x064 [fd 23 0 .rwa 0],
  rg 0x068 [fd 31 31 .ro 0, fd 30 30 .ro 0, fd 27 27 .ro 0, fd 26 26 .ro 0, fd 25 25 .ro 0, fd 24 24 .ro 0, fd 18 18 .ro 0, fd 17 17 .ro 0, fd 16 16 .ro 0, fd 15 0 .ro 0],
  ra 0x06C 2 0x4 [fd 31 0 .rw 0],
  ra 0x074 4 0x4 [fd 31 0 .rw 0],
  ra 0x084 2 0x4 [fd 31 0 .ro 0],
  rg 0x08C [fd 31 0 .ro 0],
  ra 0x100 4 0x20 [fd 31 28 .rwa 0, fd 27 16 .rwa 0],
  ra 0x104 4 0x20 [fd 31 0 .rwa 0],
  ra 0x108 4 0x20 [fd 31 8 .rwa 0, fd 7 0 .rwa 0],
  ra 0x10C 4 0x20 [fd 31 0 .rwa 0],
  ra 0x110 4 0x20 [fd 31 0 .rwa 0],
  ra 0x114 4 0x20 [fd 15 0 .rwa 0],
  ra 0x180 2 0x20 [fd 31 28 .rwa 0, fd 27 16 .rwa 0],
  ra 0x184 2 0x20 [fd 31 8 .rwa 0, fd 7 0 .rwa 0],
  ra 0x188 2 0x20 [fd 31 0 .rwa 0]]

/-- LOOP page: U_MIN, U_MAX, SAFE_OUT, SUP_CFG, SUP_TIME, FE_LIMIT, FREEZE_BAND, FREEZE_DRIVE, LAW, COEF_A, COEF_B, COEF_L, COEF_C, COEF_N, COEF_KX, COEF_KI (13). -/
def loopRegs1 : List RegSpec := [
  ra 0x18C 2 0x20 [fd 31 0 .rwa 0],
  ra 0x190 2 0x20 [fd 31 0 .rwa 0],
  ra 0x194 2 0x20 [fd 31 0 .rwa 0],
  rg 0x1C0 [fd 31 30 .rwa 0, fd 29 28 .rwa 0, fd 27 26 .rwa 0, fd 25 25 .rwa 0, fr 23 16 .rwa 3 1 255, fd 15 0 .rwa 0x3e8],
  rg 0x1C4 [fd 31 16 .rwa 0, fd 15 0 .rwa 0],
  ra 0x1C8 3 0x4 [fd 31 0 .rwa 0],
  ra 0x1D4 3 0x4 [fd 31 0 .rwa 0],
  ra 0x1E0 2 0x4 [fd 31 0 .rwa 0],
  rg 0x200 [fr 31 30 .rwa 0 0 1, fd 18 16 .rwa 0, fd 13 12 .rwa 0, fd 9 8 .rwa 0],
  ra 0x240 37 0x4 [fd 31 0 .rwa 0],
  ra 0x2E0 13 0x4 [fd 31 0 .rwa 0],
  ra 0x320 13 0x4 [fd 31 0 .rwa 0],
  ra 0x360 13 0x4 [fd 31 0 .rwa 0],
  ra 0x3A0 5 0x4 [fd 31 0 .rwa 0],
  ra 0x3C0 13 0x4 [fd 31 0 .rwa 0],
  ra 0x400 5 0x4 [fd 31 0 .rwa 0]]

/-- LOOP page: COEF_GI, COEF_E_RANGE, COEF_G, ST_INPUT, ST_OBSERVER, ST_INTEGRATOR, ST_FEEDBACK (13). -/
def loopRegs2 : List RegSpec := [
  ra 0x420 3 0x4 [fd 31 0 .rwa 0],
  ra 0x500 2 0x4 [fd 31 0 .rwa 0],
  ra 0x508 34 0x4 [fd 31 0 .rwa 0],
  ra 0xC00 5 0x4 [fd 31 0 .ro 0],
  ra 0xC20 7 0x4 [fd 31 0 .ro 0],
  ra 0xC40 3 0x4 [fd 31 0 .ro 0],
  ra 0xC50 3 0x4 [fd 31 0 .ro 0]]

/-- PWMCTL page: CAL_STAT, PAD_SAFE, SYNC_CFG, OWN_LO, OWN_HI, MOTOR_LO, MOTOR_HI (14). -/
def pwmctlRegs : List RegSpec := [
  rg 0x040 [fd 31 24 .ro 0x20, fd 0 0 .ro 0],
  ra 0x044 6 0x4 [fd 31 0 .rws 0xaaaaaaaa],
  rg 0x05C [fr 23 8 .rwa 4 4 65535, fd 1 1 .rwa 0, fd 0 0 .rwa 0],
  rg 0x060 [fd 31 0 .ro 0],
  rg 0x064 [fd 15 0 .ro 0],
  rg 0x068 [fd 31 0 .ro 0],
  rg 0x06C [fd 15 0 .ro 0]]

/-- TRIP page: TRIP_CLR, TRIP_SUM, TRIP_CFG, TRIP_MAP, TRIP_BLANK, TRIP_STAT, TRIP_DT_LO, TRIP_DT_HI (14). -/
def tripRegs : List RegSpec := [
  rg 0x040 [fd 7 0 .w1s 0],
  rg 0x044 [fd 7 0 .ro 0],
  ra 0x100 8 0x20 [fd 31 31 .rws 0, fd 30 30 .rws 1, fd 29 29 .rws 0, fd 23 16 .rws 8, fr 13 0 .rws 0 0 10000],
  ra 0x104 8 0x20 [fd 11 8 .rws 0, fd 5 0 .rws 0],
  ra 0x108 8 0x20 [fr 18 16 .rws 0 0 5, fd 15 8 .rws 0, fd 7 0 .rws 0],
  ra 0x10C 8 0x20 [fd 31 31 .ro 0, fd 30 30 .ro 0, fd 29 29 .w1c 0, fd 15 0 .ro 0],
  ra 0x110 8 0x20 [fd 31 0 .ro 0],
  ra 0x114 8 0x20 [fd 31 0 .ro 0]]

/-- PWMC page: CL_CFG, CL_PER, CL_SYNC, CL_CTRL, CL_CNT, CL_STAT (14). -/
def pwmcRegs : List RegSpec := [
  rg 0x040 [fd 31 31 .rwa 0, fd 30 30 .rwa 0, fr 29 28 .rwa 0 0 2],
  rg 0x044 [fd 23 0 .rw 0x4e20],
  rg 0x048 [fd 23 0 .rw 0],
  rg 0x04C [fd 0 0 .w1s 0],
  rg 0x050 [fd 23 0 .ro 0],
  rg 0x054 [fd 31 31 .ro 0, fd 30 30 .ro 0, fd 15 0 .ro 0]]

/-- PWMC page: CH_CFG, CH_DT, CH_CMP, CH_CMP2, CH_DUTY, CH_FORCE, CH_CTRL, CH_IRQ, CH_STAT (14). -/
def pwmcFrame : List RegSpec := [
  rg 0x020 [fr 31 30 .rwa 0 0 1, fd 29 29 .rwa 0, fd 28 28 .rwa 0, fd 27 27 .rwa 0, fd 15 14 .rws 0, fd 13 12 .rws 0],
  rg 0x024 [fd 29 16 .rws 0x1f4, fd 13 0 .rws 0x1f4],
  rg 0x028 [fd 28 0 .rw 0],
  rg 0x02C [fd 28 0 .rw 0],
  rg 0x030 [fd 15 0 .rw 0],
  rg 0x034 [fd 1 0 .rw 0],
  rg 0x038 [fd 0 0 .rw 0],
  rg 0x03C [fd 27 24 .rw 0, fd 23 20 .rw 0, fd 19 16 .rw 0],
  rg 0x040 [fd 31 31 .ro 0, fd 30 30 .ro 0, fd 29 29 .ro 0, fd 28 28 .ro 0, fd 27 27 .ro 0, fd 15 0 .ro 0]]

/-- DIOG page: G_CFG, G_STAT (15). -/
def diogRegs : List RegSpec := [
  rg 0x040 [fr 15 8 .rws 0x5a 60 200, fd 1 0 .rws 0],
  rg 0x044 [fd 31 31 .ro 0, fd 23 16 .ro 0, fd 15 0 .ro 0]]

/-- DIOG page: IO_CFG, IO_CTRL, IO_STAT, IO_EDGE_LO, IO_EDGE_HI, IO_CNT (15). -/
def diogFrame : List RegSpec := [
  rg 0x020 [fd 31 31 .rws 0, fd 30 30 .rwa 0, fd 23 16 .rwa 2, fd 10 8 .rws 3, fr 7 0 .rws 0xa 1 255],
  rg 0x024 [fd 0 0 .rw 0],
  rg 0x028 [fd 31 31 .ro 0, fd 30 30 .ro 0, fd 29 29 .ro 0, fd 28 26 .ro 0, fd 25 25 .ro 0, fd 24 24 .ro 0, fd 11 0 .ro 0],
  rg 0x02C [fd 31 0 .ro 0],
  rg 0x030 [fd 31 0 .ro 0],
  rg 0x034 [fd 31 16 .ro 0, fd 15 0 .ro 0]]

/-- AING page: AIN_CFG, AIN_CODE, AIN_DT_LO, AIN_DT_HI (15). -/
def aingFrame : List RegSpec := [
  rg 0x020 [fd 31 30 .rws 0, fd 29 28 .rwa 1],
  rg 0x024 [fd 31 31 .ro 0, fd 15 0 .ro 0],
  rg 0x028 [fd 31 0 .ro 0],
  rg 0x02C [fd 31 0 .ro 0]]

/-- FING page: QUAD_CFG, QPOS, QERR_CNT, F_CFG, F_TIMEOUT, F_FREQ, F_COUNT, F_EDGE_LO, F_EDGE_HI, F_STAT (15). -/
def fingRegs : List RegSpec := [
  rg 0x040 [fd 5 0 .rws 0],
  ra 0x044 6 0x4 [fd 31 0 .ro 0],
  rg 0x05C [fd 31 0 .ro 0],
  ra 0x100 12 0x20 [fr 31 30 .rws 1 0 2, fd 29 29 .rws 0, fd 23 16 .rwa 0xa, fr 15 8 .rwa 0x64 1 255],
  ra 0x104 12 0x20 [fr 15 0 .rwa 0x3e8 10 10000],
  ra 0x108 12 0x20 [fd 31 0 .ro 0],
  ra 0x10C 12 0x20 [fd 31 0 .ro 0],
  ra 0x110 12 0x20 [fd 31 0 .ro 0],
  ra 0x114 12 0x20 [fd 31 0 .ro 0],
  ra 0x118 12 0x20 [fd 31 31 .ro 0, fd 30 30 .ro 1, fd 29 29 .ro 0]]

/-- RFCTL page: ANT_CFG, ANT_STAT, CHAIN_CFG, CHAIN_STAT, AGC, SAMPLE0_DT_LO, SAMPLE0_DT_HI, LINK_STAT (16). -/
def rfctlRegs : List RegSpec := [
  rg 0x040 [fd 10 10 .rwa 1, fd 9 9 .rwa 0, fd 8 8 .rwa 1, fd 2 2 .rwa 1, fd 1 1 .rwa 0, fd 0 0 .rwa 1],
  rg 0x044 [fd 31 30 .ro 0, fd 27 16 .ro 0, fd 15 14 .ro 0, fd 11 0 .ro 0],
  rg 0x048 [fd 3 0 .rwa 0xf],
  rg 0x04C [fd 3 0 .ro 0],
  rg 0x050 [fd 31 0 .ro 0],
  rg 0x054 [fd 31 0 .ro 0],
  rg 0x058 [fd 31 0 .ro 0],
  rg 0x05C [fd 15 0 .ro 0]]

/-- ACQ page: CFG, STAT, CTX_STAT, CTX_BINS, CTX_CAP_DT_LO, CTX_CAP_DT_HI (16). -/
def acqRegs : List RegSpec := [
  rg 0x040 [fr 15 0 .rwa 0x280 256 4096],
  rg 0x044 [fd 11 8 .ro 0, fd 6 0 .ro 0x40],
  ra 0x100 4 0x20 [fd 31 24 .ro 0, fd 23 20 .ro 0, fd 19 12 .ro 0, fd 3 0 .ro 0],
  ra 0x104 4 0x20 [fd 31 16 .ro 0, fd 15 0 .ro 0],
  ra 0x108 4 0x20 [fd 31 0 .ro 0],
  ra 0x10C 4 0x20 [fd 31 0 .ro 0]]

/-- ACQRES page: CTX_SUM (16). -/
def acqresRegs : List RegSpec := [
  ra 0x040 4 0x4 [fd 31 31 .ro 0, fd 30 30 .ro 0, fd 29 29 .ro 0, fd 18 16 .ro 0, fd 15 0 .ro 0]]

/-- TPULSE page: TP_CFG, CABLE, HOLDOVER, TP_STAT, T_UNC, INFO0_, INFO1_ (17). -/
def tpulseRegs : List RegSpec := [
  ra 0x040 2 0x4 [fd 31 31 .rwa 0, fd 30 30 .rwa 1, fd 29 29 .rwa 0, fd 28 28 .rwa 0, fd 25 24 .rwa 0, fr 19 0 .rwa 0x186a0 1 999999],
  rg 0x048 [fd 31 16 .rwa 0, fd 15 0 .rwa 0],
  rg 0x04C [fr 31 16 .rwa 0xa 1 1000, fr 15 0 .rwa 0x12c 10 65535],
  rg 0x050 [fd 31 16 .ro 0, fd 7 4 .ro 0, fd 3 0 .ro 0],
  rg 0x054 [fd 31 0 .ro 0xffffffff],
  ra 0x060 8 0x4 [fd 31 0 .ro 0],
  ra 0x080 8 0x4 [fd 31 0 .ro 0]]

/-- GNSSCTL page: CFG, SIG_EN, CORR_CFG, HDG_CFG, STAT, HDG_STAT, RTCM_STAT (17). -/
def gnssctlRegs : List RegSpec := [
  rg 0x040 [fr 31 24 .rwa 0xa 0 60, fr 18 16 .rwa 3 0 4, fd 2 2 .rwa 1, fd 1 1 .rwa 1, fd 0 0 .rwa 1],
  rg 0x044 [fd 9 0 .rwa 0x3ff],
  rg 0x048 [fr 18 16 .rwa 0 0 4, fr 7 0 .rwa 0xa 1 120],
  rg 0x04C [fr 15 0 .rwa 0x32 5 1000],
  rg 0x050 [fd 31 28 .ro 0, fd 21 16 .ro 0, fd 15 8 .ro 0xff, fd 7 0 .ro 0xff],
  rg 0x054 [fd 31 16 .ro 0, fd 0 0 .ro 0],
  rg 0x058 [fd 31 16 .ro 0, fd 15 0 .ro 0]]

/-- GCH page: CL_OWN, PORT_STAT (16). -/
def gchRegs : List RegSpec := [
  rg 0x040 [fd 7 0 .rwa 0],
  rg 0x044 [fd 2 0 .ro 0]]

/-- GCH page: CH_CFG, CH_TAPS0, CH_TAPS1, CH_TAPS2, CARR_FREQ, CARR_PHASE, CODE_RATE, CODE_PH_LO, CODE_PH_HI, START_LO, START_HI, CH_CTRL, CH_STAT, DMP_DT_LO, DMP_DT_HI, DMP_CODE_LO (16). -/
def gchFrame0 : List RegSpec := [
  rg 0x020 [fd 31 28 .rw 0, fd 27 20 .rw 0, fd 19 19 .rw 0, fd 18 17 .rw 0, fd 16 16 .rw 0, fd 14 8 .rw 1],
  rg 0x024 [fd 24 16 .rw 0x1e0, fd 8 0 .rw 0x20],
  rg 0x028 [fd 24 16 .rw 0x1f0, fd 8 0 .rw 0x10],
  rg 0x02C [fd 24 16 .rw 0x1c0, fd 8 0 .rw 0x40],
  rg 0x030 [fd 31 0 .rw 0],
  rg 0x034 [fd 31 0 .rw 0],
  rg 0x038 [fd 31 0 .rw 0],
  rg 0x03C [fd 31 0 .rw 0],
  rg 0x040 [fd 31 24 .rw 0, fd 13 0 .rw 0],
  rg 0x044 [fd 31 0 .rw 0],
  rg 0x048 [fd 31 0 .rw 0],
  rg 0x04C [fd 2 2 .w1s 0, fd 1 1 .w1s 0, fd 0 0 .w1s 0],
  rg 0x050 [fd 31 31 .ro 0, fd 30 30 .ro 0, fd 15 0 .ro 0],
  rg 0x060 [fd 31 0 .ro 0],
  rg 0x064 [fd 31 0 .ro 0],
  rg 0x068 [fd 31 0 .ro 0]]

/-- GCH page: DMP_CODE_HI, DMP_CARR_CYC, DMP_CARR_FRAC, DMP_ACC, DMP_FLAGS, OBS (16). -/
def gchFrame1 : List RegSpec := [
  rg 0x06C [fd 31 24 .ro 0, fd 13 0 .ro 0],
  rg 0x070 [fd 31 0 .ro 0],
  rg 0x074 [fd 31 0 .ro 0],
  ra 0x078 14 0x4 [fd 31 0 .ro 0],
  rg 0x0B0 [fd 31 16 .ro 0, fd 2 2 .ro 0, fd 1 1 .ro 0, fd 0 0 .ro 0],
  ra 0x0C0 9 0x4 [fd 31 0 .ro 0]]

/-- CAN page: CAN_CFG, NBT, DBT, CAN_STAT, CAN_ADDR, CAN_NAME_LO, CAN_NAME_HI, RX_RING, RX_HEAD, RX_TAIL, CAN_RTCM, CAN_RTCM_GE (18). -/
def canRegs : List RegSpec := [
  rg 0x040 [fd 31 31 .rwa 0, fd 30 30 .rwa 0, fd 29 29 .rwa 0, fd 28 28 .rwa 0, fd 15 0 .rwa 0xbb8],
  rg 0x044 [fd 31 24 .rwa 4, fd 23 16 .rwa 0x3f, fd 15 8 .rwa 0x10, fd 7 0 .rwa 0x10],
  rg 0x048 [fd 31 24 .rwa 1, fd 23 16 .rwa 0x1d, fd 15 8 .rwa 0xa, fd 7 0 .rwa 0xa],
  rg 0x04C [fd 31 24 .ro 0, fd 23 16 .ro 0, fd 15 2 .ro 0, fd 1 0 .ro 0],
  rg 0x050 [fd 16 16 .ro 0, fd 15 8 .rwa 0x80, fd 7 0 .ro 0xfe],
  rg 0x054 [fd 31 0 .rwa 0],
  rg 0x058 [fd 31 0 .rwa 0],
  rg 0x05C [fd 31 12 .rw 0, fd 11 0 .rw 0],
  rg 0x060 [fd 11 0 .rw 0],
  rg 0x064 [fd 11 0 .ro 0],
  rg 0x068 [fr 31 29 .rwa 2 0 5, fd 28 0 .rwa 0],
  rg 0x06C [fd 7 0 .rwa 0]]

/-- ETH page: ETH_CFG, MAC_LO, MAC_HI, IP, NETMASK, GATEWAY, ETH_REM, PTP_CFG, PTP_STAT, ETH_STAT (18). -/
def ethRegs : List RegSpec := [
  rg 0x040 [fd 31 31 .rwa 0, fd 30 30 .rws 0],
  rg 0x044 [fd 31 0 .rwa 0],
  rg 0x048 [fd 15 0 .rwa 0],
  rg 0x04C [fd 31 0 .rwa 0],
  rg 0x050 [fd 31 0 .rwa 0],
  rg 0x054 [fd 31 0 .rwa 0],
  rg 0x058 [fd 31 16 .rwa 0xc4e4, fd 15 0 .rwa 0xc4e3],
  rg 0x05C [fd 0 0 .rwa 0],
  rg 0x060 [fd 0 0 .ro 0],
  rg 0x064 [fd 31 16 .ro 0, fd 1 0 .ro 0]]

/-- HXL page: HX_CFG, HX_PORT, HX_FRAMES (18). -/
def hxlRegs : List RegSpec := [
  rg 0x040 [fd 0 0 .rwa 0],
  ra 0x044 2 0x4 [fd 31 31 .ro 0, fd 15 0 .ro 0],
  rg 0x04C [fd 31 16 .ro 0, fd 15 0 .ro 0]]

/-- SYSNET page: CFG, MEMBER_STAT, MAP_SEQ, S_ADT_LO, S_ADT_HI, S_ANCHOR_LO, S_ANCHOR_HI, S_RATE, SYS_EPOCH, REPL_STAT, LINK_DELAY (18). -/
def sysnetRegs : List RegSpec := [
  rg 0x040 [fr 31 24 .rwa 5 2 50, fd 23 20 .rws 0, fd 17 16 .rwa 0, fd 15 15 .rwa 0, fd 14 14 .rwa 0, fd 13 13 .rwa 1, fd 12 12 .rws 0, fd 11 11 .rws 0, fd 10 10 .rws 1, fd 1 0 .rws 0],
  rg 0x044 [fd 31 16 .ro 0, fd 11 11 .ro 0, fd 10 10 .ro 0, fd 9 8 .ro 0, fd 7 4 .ro 0, fd 3 0 .ro 0],
  rg 0x048 [fd 31 0 .ro 0],
  rg 0x04C [fd 31 0 .ro 0],
  rg 0x050 [fd 31 0 .ro 0],
  rg 0x054 [fd 31 0 .ro 0],
  rg 0x058 [fd 31 0 .ro 0],
  rg 0x05C [fd 31 0 .ro 0],
  rg 0x060 [fd 15 0 .ro 0],
  rg 0x064 [fd 31 16 .ro 0, fd 15 0 .ro 0],
  rg 0x068 [fd 31 0 .ro 0]]

/-- SECCTL page: CERT_STAT, LOCKOUT (19). -/
def secctlRegs : List RegSpec := [
  rg 0x040 [fd 3 3 .ro 0, fd 2 2 .ro 0, fd 1 1 .ro 0, fd 0 0 .ro 0],
  rg 0x044 [fd 5 0 .ro 0]]

/-- SESSION page: CFG, SLOT (19). -/
def sessionRegs : List RegSpec := [
  rg 0x040 [fr 15 0 .rwa 0x384 60 65535],
  ra 0x044 6 0x4 [fd 31 16 .ro 0, fd 3 0 .ro 0]]

/-- AUDIT page: AUD_STAT, AUD_SEQ, ARCHIVED_SEQ, AUD_CFG (19). -/
def auditRegs : List RegSpec := [
  rg 0x040 [fd 31 31 .ro 0, fd 30 16 .ro 0, fd 14 0 .ro 0],
  rg 0x044 [fd 31 0 .ro 0],
  rg 0x048 [fd 31 0 .ro 0],
  rg 0x04C [fr 15 8 .rwa 0x5a 50 99, fr 7 0 .rws 0x40 16 255]]

/-- UPDATE page: IMG_STAT, CFG (19). -/
def updateRegs : List RegSpec := [
  rg 0x040 [fd 31 24 .ro 0, fd 23 16 .ro 0, fd 6 6 .ro 0, fd 5 5 .ro 0, fd 4 4 .ro 0, fd 3 3 .ro 0, fd 2 2 .ro 0, fd 1 1 .ro 0, fd 0 0 .ro 0],
  rg 0x044 [fr 15 0 .rwa 0x258 60 3600]]

/-- EVR page: STAT, LOST, SUPP, CFG, FIFO, TORN, DROPPED, ARCHIVED (20). -/
def evrRegs : List RegSpec := [
  rg 0x040 [fd 31 31 .ro 0, fd 16 0 .ro 0],
  rg 0x044 [fd 31 0 .ro 0],
  ra 0x048 8 0x4 [fd 31 16 .ro 0, fd 15 0 .ro 0],
  rg 0x068 [fr 11 8 .rwa 0 0 4, fr 7 0 .rwa 0x5a 50 99],
  rg 0x06C [fd 13 8 .ro 0, fd 5 0 .ro 0],
  rg 0x070 [fd 15 0 .ro 0],
  rg 0x074 [fd 31 0 .ro 0],
  rg 0x078 [fd 16 0 .ro 0]]

/-- TAIL page: STAT (20). -/
def tailRegs : List RegSpec := [
  rg 0x040 [fd 8 0 .ro 0]]

/-- LIFE page: LAST_SAVE, SAVES (20). -/
def lifeRegs : List RegSpec := [
  rg 0x040 [fd 31 0 .ro 0],
  rg 0x044 [fd 31 0 .ro 0]]

/-- DBGCTL page: STATE (19). -/
def dbgctlRegs : List RegSpec := [
  rg 0x040 [fd 1 0 .ro 0]]

/-- Page kinds, part 0 (03 R40). -/
def pages0 : List PageSpec := [
  ⟨.pkg, 0x0, 0x00, 1, 0, 0xF, 0x0, 0x0, 0x0, pkgRegs, [], []⟩,
  ⟨.reset, 0x0, 0x01, 1, 0, 0x0, 0x3, 0x0, 0x0, resetRegs, [], []⟩,
  ⟨.clock, 0x0, 0x02, 1, 0, 0x3, 0x7, 0x0, 0x0, clockRegs, [], []⟩,
  ⟨.time, 0x0, 0x03, 1, 0, 0x0, 0x7, 0x0, 0x0, (timeRegs0 ++ timeRegs1), [], []⟩,
  ⟨.supply, 0x0, 0x04, 1, 0, 0x7F, 0x7, 0x0, 0x0, supplyRegs, [], []⟩,
  ⟨.die, 0x0, 0x05, 1, 0, 0x0, 0xF, 0x0, 0x0, dieRegs, [], []⟩,
  ⟨.irqroute, 0x0, 0x06, 2, 0, 0x1, 0x0, 0x0, 0x0, irqrouteRegs, [], []⟩,
  ⟨.cellar, 0x0, 0x08, 1, 0, 0x0, 0x3, 0x0, 0x0, cellarRegs, [], []⟩,
  ⟨.safe, 0x0, 0x09, 1, 0, 0x0, 0x3, 0x0, 0x0, safeRegs, [], []⟩,
  ⟨.fuse, 0x0, 0x0A, 1, 0, 0x1, 0x0, 0x0, 0x0, fuseRegs, [], []⟩,
  ⟨.pcie, 0x1, 0x00, 1, 0, 0x7, 0x1, 0x0, 0x0, pcieRegs, [], []⟩,
  ⟨.hspi, 0x1, 0x01, 1, 0, 0x3, 0x0, 0x0, 0x0, hspiRegs, [], []⟩]

/-- Page kinds, part 1 (03 R40). -/
def pages1 : List PageSpec := [
  ⟨.porch, 0x1, 0x02, 1, 0, 0x3, 0xF, 0x0, 0x0, porchRegs, [], []⟩,
  ⟨.jobs, 0x1, 0x03, 1, 0, 0x0, 0x3, 0x0, 0x0, jobsRegs, [], []⟩,
  ⟨.sram, 0x2, 0x00, 1, 0, 0x3, 0x0, 0x0, 0x0, sramRegs, [], []⟩,
  ⟨.mram, 0x2, 0x01, 1, 0, 0x3, 0x0, 0x0, 0x0, mramRegs, [], []⟩,
  ⟨.lpddr, 0x2, 0x02, 1, 0, 0x7, 0x0, 0x0, 0x0, lpddrRegs, [], []⟩,
  ⟨.xspi, 0x2, 0x03, 1, 0, 0x1, 0x0, 0x0, 0x0, xspiRegs, [], []⟩,
  ⟨.xlate, 0x2, 0x04, 1, 0, 0x0, 0x0, 0x0, 0x0, xlateRegs, [], []⟩,
  ⟨.xfault, 0x2, 0x05, 1, 0, 0x0, 0x3, 0x0, 0x0, xfaultRegs, [], [⟨.xfaultLog, 0x100, 4, .ro⟩]⟩,
  ⟨.dma, 0x2, 0x10, 16, 0, 0x1, 0x3, 0x0, 0x0, dmaRegs, [], []⟩,
  ⟨.posein, 0x3, 0x00, 1, 0, 0xF, 0x7, 0x0, 0x0, poseinRegs, [], []⟩,
  ⟨.imu, 0x3, 0x01, 1, 0, 0x7, 0x1, 0x0, 0x0, imuRegs, [], []⟩,
  ⟨.geom, 0x3, 0x02, 1, 0, 0x7, 0x0, 0x0, 0x0, (geomRegs0 ++ geomRegs1), [], []⟩]

/-- Page kinds, part 2 (03 R40). -/
def pages2 : List PageSpec := [
  ⟨.pred, 0x3, 0x03, 1, 0, 0x0, 0x3, 0x0, 0x0, predRegs, [], []⟩,
  ⟨.hist, 0x3, 0x04, 1, 0, 0x1, 0x1, 0x0, 0x0, histRegs, [], [⟨.hist, 0x100, 16, .ro⟩]⟩,
  ⟨.pantry, 0x4, 0x00, 1, 0, 0x1, 0x0, 0x0, 0x0, pantryRegs, [], [⟨.slot, 0x100, 4, .ro⟩]⟩,
  ⟨.tiledir, 0x4, 0x01, 1, 0, 0x1, 0x1, 0x0, 0x0, tiledirRegs, [], [⟨.tile, 0x100, 2, .ro⟩]⟩,
  ⟨.probe, 0x4, 0x02, 1, 0, 0x3, 0x3, 0x0, 0x0, probeRegs, [], [⟨.diag, 0x100, 4, .ro⟩]⟩,
  ⟨.layers, 0x4, 0x03, 1, 0, 0x0, 0x0, 0x0, 0x0, layersRegs, [], []⟩,
  ⟨.retire, 0x4, 0x04, 1, 0, 0x1, 0x3, 0x0, 0x0, retireRegs, [], []⟩,
  ⟨.plan, 0x5, 0x00, 1, 0, 0x3, 0x7, 0x0, 0x0, planRegs, [], []⟩,
  ⟨.commit, 0x5, 0x01, 1, 0, 0x1, 0x3, 0x0, 0x0, commitRegs, [], []⟩,
  ⟨.outletwin, 0x5, 0x02, 1, 0, 0x1, 0x1, 0x0, 0x0, outletwinRegs, [], [⟨.outlet, 0x100, 16, .rwa⟩, ⟨.sect, 0x200, 1, .rwa⟩]⟩,
  ⟨.edgeq, 0x5, 0x03, 1, 0, 0x0, 0x0, 0x0, 0x0, edgeqRegs, [], [⟨.queue, 0x100, 10, .ro⟩]⟩,
  ⟨.meter, 0x5, 0x04, 1, 0, 0xF, 0x3, 0x0, 0x0, meterRegs, [], [⟨.rate, 0x200, 1, .rwa⟩, ⟨.nozzle, 0x300, 11, .rws⟩, ⟨.injector, 0x400, 16, .rws⟩, ⟨.outletStatus, 0x500, 4, .ro⟩]⟩]

/-- Page kinds, part 3 (03 R40). -/
def pages3 : List PageSpec := [
  ⟨.totals, 0x5, 0x05, 1, 0, 0x1, 0x1, 0x0, 0x0, totalsRegs, [], [⟨.totals, 0x100, 8, .ro⟩]⟩,
  ⟨.remote, 0x5, 0x06, 1, 0, 0x1, 0x1, 0x0, 0x0, remoteRegs, [], [⟨.remote, 0x100, 4, .rwa⟩]⟩,
  ⟨.drvctl, 0x6, 0x00, 1, 0, 0x3, 0x0, 0x0, 0x0, drvctlRegs, [], []⟩,
  ⟨.region, 0x6, 0x01, 4, 0, 0x7, 0x3F, 0x0, 0x0, regionRegs, [], []⟩,
  ⟨.outc, 0x6, 0x10, 24, 8, 0x1, 0x1, 0xFF, 0xFF, outcRegs, outcFrame, []⟩,
  ⟨.bank, 0x6, 0x30, 2, 4, 0x1, 0x1, 0xF, 0xF, bankRegs, bankFrame, []⟩,
  ⟨.motion, 0x6, 0x38, 1, 0, 0x1, 0x3, 0x0, 0x0, motionRegs, [], [⟨.result, 0x200, 4, .ro⟩, ⟨.learn, 0x300, 10, .ro⟩]⟩,
  ⟨.ctleng, 0x7, 0x00, 1, 0, 0x3, 0x1, 0x0, 0x0, ctlengRegs, [], []⟩,
  ⟨.trace, 0x7, 0x01, 1, 0, 0x1, 0x1, 0x0, 0x0, traceRegs, [], [⟨.trace, 0x100, 1, .ro⟩]⟩,
  ⟨.loop, 0x7, 0x10, 24, 1, 0x0, 0x0, 0x7F, 0x57, (loopRegs0 ++ loopRegs1 ++ loopRegs2), [], []⟩,
  ⟨.pwmctl, 0x8, 0x00, 1, 0, 0x1, 0x1, 0x0, 0x0, pwmctlRegs, [], []⟩,
  ⟨.trip, 0x8, 0x01, 1, 0, 0x0, 0x1FF, 0x0, 0x0, tripRegs, [], []⟩]

/-- Page kinds, part 4 (03 R40). -/
def pages4 : List PageSpec := [
  ⟨.pwmc, 0x8, 0x10, 6, 8, 0xF, 0x1, 0x3F, 0x30, pwmcRegs, pwmcFrame, []⟩,
  ⟨.diog, 0x9, 0x00, 4, 8, 0x1, 0x3, 0x7F, 0x7C, diogRegs, diogFrame, []⟩,
  ⟨.aing, 0x9, 0x08, 2, 8, 0x0, 0x0, 0x1F, 0xF, [], aingFrame, []⟩,
  ⟨.fing, 0x9, 0x0C, 1, 0, 0xFFF3F, 0xFFF, 0x0, 0x0, fingRegs, [], []⟩,
  ⟨.rfctl, 0xA, 0x00, 1, 0, 0x3F, 0x3, 0x0, 0x0, rfctlRegs, [], []⟩,
  ⟨.acq, 0xA, 0x01, 1, 0, 0x1, 0xF, 0x0, 0x0, acqRegs, [], []⟩,
  ⟨.acqres, 0xA, 0x02, 1, 0, 0x0, 0x0, 0x0, 0x0, acqresRegs, [], [⟨.peak, 0x100, 4, .ro⟩]⟩,
  ⟨.tpulse, 0xA, 0x03, 1, 0, 0x1, 0x7, 0x0, 0x0, tpulseRegs, [], []⟩,
  ⟨.gnssctl, 0xA, 0x04, 1, 0, 0x3, 0x7, 0x0, 0x0, gnssctlRegs, [], []⟩,
  ⟨.gch, 0xA, 0x10, 32, 8, 0x1, 0x0, 0x7F, 0x5E, gchRegs, (gchFrame0 ++ gchFrame1), []⟩,
  ⟨.can, 0xB, 0x00, 6, 0, 0x3, 0x0, 0x0, 0x0, canRegs, [], []⟩,
  ⟨.eth, 0xB, 0x08, 2, 0, 0x3, 0x0, 0x0, 0x0, ethRegs, [], []⟩]

/-- Page kinds, part 5 (03 R40). -/
def pages5 : List PageSpec := [
  ⟨.hxl, 0xB, 0x0C, 1, 0, 0x0, 0x0, 0x0, 0x0, hxlRegs, [], []⟩,
  ⟨.sysnet, 0xB, 0x0D, 1, 0, 0x3, 0x7, 0x0, 0x0, sysnetRegs, [], []⟩,
  ⟨.secctl, 0xC, 0x00, 1, 0, 0x0, 0x1, 0x0, 0x0, secctlRegs, [], []⟩,
  ⟨.session, 0xC, 0x01, 1, 0, 0x0, 0x1, 0x0, 0x0, sessionRegs, [], []⟩,
  ⟨.keys, 0xC, 0x02, 1, 0, 0x0, 0x0, 0x0, 0x0, [], [], [⟨.key, 0x100, 4, .ro⟩]⟩,
  ⟨.audit, 0xC, 0x03, 1, 0, 0x0, 0x7, 0x0, 0x0, auditRegs, [], []⟩,
  ⟨.update, 0xC, 0x04, 1, 0, 0x0, 0x3, 0x0, 0x0, updateRegs, [], []⟩,
  ⟨.evr, 0xD, 0x00, 1, 0, 0x7, 0x7, 0x0, 0x0, evrRegs, [], [⟨.event, 0x100, 8, .ro⟩]⟩,
  ⟨.tail, 0xD, 0x01, 1, 0, 0x0, 0x0, 0x0, 0x0, tailRegs, [], [⟨.tail, 0x100, 8, .ro⟩]⟩,
  ⟨.audwin, 0xD, 0x02, 1, 0, 0x0, 0x0, 0x0, 0x0, [], [], [⟨.audit, 0x100, 16, .ro⟩]⟩,
  ⟨.life, 0xD, 0x03, 1, 0, 0x1, 0x0, 0x0, 0x0, lifeRegs, [], [⟨.life, 0x100, 8, .ro⟩]⟩,
  ⟨.dbgctl, 0xE, 0x00, 1, 0, 0x0, 0x1, 0x0, 0x0, dbgctlRegs, [], []⟩]

/-- Page kinds, part 6 (03 R40). -/
def pages6 : List PageSpec := [
  ⟨.dbgtrace, 0xE, 0x01, 1, 0, 0x0, 0x0, 0x0, 0x0, [], [], [⟨.dbgTrace, 0x100, 4, .ro⟩]⟩]

/-- Every page kind of the package (03 R40). -/
def pageTable : List PageSpec := pages0 ++ pages1 ++ pages2 ++ pages3 ++ pages4 ++ pages5 ++ pages6

end Sys2Proof.Machine
end

