-- ==== Sys2Proof/Machine/Regs.lean ====
section
/-!
DEFINITION. Register offsets by the spec's names: `R.PAGE_REGISTER`, with the page instance, the unit's number within
its kind, or the index of a row of registers as arguments (03 R39, R47).
-/
namespace Sys2Proof.Machine

/-- Offset `o` of instance `i` of a page (03 R39). -/
def pg (dom first i o : Nat) : Nat := dom * 0x100000 + (first + i) * 0x1000 + o

/-- Offset `o` of the frame of unit `u` (numbered within its kind), `n` units a page (03 R47). -/
def frm (dom first n u o : Nat) : Nat := pg dom first (u / n) (0x100 + (u % n) * 0x100 + o)

/-! PKG (chapter 03) -/
def R.PKG (o : Nat) : Nat := 0x000000 + o
def R.PKG_PKG_INFO : Nat := 0x000040
def R.PKG_ACC_FLT_ADDR : Nat := 0x000044
def R.PKG_ACC_FLT_INFO : Nat := 0x000048
def R.PKG_REFUSED_ADDR : Nat := 0x00004C
def R.PKG_REFUSED_INFO : Nat := 0x000050

/-! RESET (chapter 04) -/
def R.RESET (o : Nat) : Nat := 0x001000 + o
def R.RESET_CAUSE : Nat := 0x001040
def R.RESET_PWRCYC : Nat := 0x001044
def R.RESET_OPT_S : Nat := 0x001048
def R.RESET_OPT_F : Nat := 0x00104C
def R.RESET_BOOT_STAT : Nat := 0x001050

/-! CLOCK (chapter 02) -/
def R.CLOCK (o : Nat) : Nat := 0x002000 + o
def R.CLOCK_REF_STAT : Nat := 0x002040
def R.CLOCK_ISL_CTRL : Nat := 0x002044
def R.CLOCK_ISL_STAT : Nat := 0x002048

/-! TIME (chapter 02) -/
def R.TIME (o : Nat) : Nat := 0x003000 + o
def R.TIME_DT_LO : Nat := 0x003040
def R.TIME_DT_HI : Nat := 0x003044
def R.TIME_DT_STAT : Nat := 0x003048
def R.TIME_MAP_SEQ : Nat := 0x003050
def R.TIME_WALL_ADT_LO : Nat := 0x003054
def R.TIME_WALL_ADT_HI : Nat := 0x003058
def R.TIME_WALL_ANS_LO : Nat := 0x00305C
def R.TIME_WALL_ANS_HI : Nat := 0x003060
def R.TIME_WALL_RATE : Nat := 0x003064
def R.TIME_WALL_EPOCH : Nat := 0x003068
def R.TIME_WALL_SRC : Nat := 0x00306C
def R.TIME_GNSS_ADT_LO : Nat := 0x003070
def R.TIME_GNSS_ADT_HI : Nat := 0x003074
def R.TIME_GNSS_ANS_LO : Nat := 0x003078
def R.TIME_GNSS_ANS_HI : Nat := 0x00307C
def R.TIME_GNSS_RATE : Nat := 0x003080
def R.TIME_GNSS_EPOCH : Nat := 0x003084

/-! SUPPLY (chapter 04) -/
def R.SUPPLY (o : Nat) : Nat := 0x004000 + o
def R.SUPPLY_RAIL_STAT : Nat := 0x004040
def R.SUPPLY_PF_CFG : Nat := 0x004044
def R.SUPPLY_TEMP_LOGIC : Nat := 0x004048
def R.SUPPLY_TEMP_FIELD : Nat := 0x00404C
def R.SUPPLY_TEMP_RF : Nat := 0x004050
def R.SUPPLY_TJ_CFG : Nat := 0x004054

/-! DIE (chapter 01) -/
def R.DIE (o : Nat) : Nat := 0x005000 + o
def R.DIE_FLDHB_STAT : Nat := 0x005040
def R.DIE_FLDSAFE_CAUSE : Nat := 0x005044
def R.DIE_FLDSAFE_DT_LO : Nat := 0x005048
def R.DIE_FLDSAFE_DT_HI : Nat := 0x00504C

/-! IRQROUTE (chapter 03) -/
def R.IRQROUTE (i o : Nat) : Nat := pg 0x0 0x6 i o
def R.IRQROUTE_SRC_ASSERT (i : Nat) (n : Nat) : Nat := 0x006040 + 0x1000 * i + 0x4 * n
def R.IRQROUTE_INT_CFG (i : Nat) : Nat := 0x006060 + 0x1000 * i
def R.IRQROUTE_INT_STAT (i : Nat) : Nat := 0x006064 + 0x1000 * i
def R.IRQROUTE_VEC_STAT (i : Nat) : Nat := 0x006068 + 0x1000 * i
def R.IRQROUTE_VEC_ARMED (i : Nat) : Nat := 0x00606C + 0x1000 * i
def R.IRQROUTE_VEC_EOI (i : Nat) : Nat := 0x006070 + 0x1000 * i
def R.IRQROUTE_ROUTE (i : Nat) (n : Nat) : Nat := 0x006900 + 0x1000 * i + 0x4 * n

/-! CELLAR (chapter 04) -/
def R.CELLAR (o : Nat) : Nat := 0x008000 + o
def R.CELLAR_CFG : Nat := 0x008040
def R.CELLAR_WAKE_TIMER : Nat := 0x008044
def R.CELLAR_LAST : Nat := 0x008048
def R.CELLAR_STAY : Nat := 0x00804C
def R.CELLAR_SCRUB : Nat := 0x008050

/-! SAFE (chapter 04) -/
def R.SAFE (o : Nat) : Nat := 0x009000 + o
def R.SAFE_MODE_STAT : Nat := 0x009040
def R.SAFE_CAUSE : Nat := 0x009044
def R.SAFE_CAUSE_LIVE : Nat := 0x009048
def R.SAFE_ENTRY_DT_LO : Nat := 0x00904C
def R.SAFE_ENTRY_DT_HI : Nat := 0x009050

/-! FUSE (chapter 19) -/
def R.FUSE (o : Nat) : Nat := 0x00A000 + o
def R.FUSE_LIFE : Nat := 0x00A040
def R.FUSE_SVN : Nat := 0x00A044
def R.FUSE_DEVICE_ID_LO : Nat := 0x00A048
def R.FUSE_DEVICE_ID_HI : Nat := 0x00A04C
def R.FUSE_ROOT_HASH0 (n : Nat) : Nat := 0x00A100 + 0x4 * n
def R.FUSE_ROOT_HASH1 (n : Nat) : Nat := 0x00A130 + 0x4 * n

/-! PCIE (chapter 05) -/
def R.PCIE (o : Nat) : Nat := 0x100000 + o
def R.PCIE_LINK_STAT : Nat := 0x100040
def R.PCIE_CFG_ID : Nat := 0x100044
def R.PCIE_MSIX_ADDR_LO (n : Nat) : Nat := 0x100900 + 0x10 * n
def R.PCIE_MSIX_ADDR_HI (n : Nat) : Nat := 0x100904 + 0x10 * n
def R.PCIE_MSIX_DATA (n : Nat) : Nat := 0x100908 + 0x10 * n
def R.PCIE_MSIX_CTRL (n : Nat) : Nat := 0x10090C + 0x10 * n
def R.PCIE_MSIX_PBA : Nat := 0x100B00

/-! HSPI (chapter 05) -/
def R.HSPI (o : Nat) : Nat := 0x101000 + o
def R.HSPI_CFG : Nat := 0x101040
def R.HSPI_STAT : Nat := 0x101044

/-! PORCH (chapter 05) -/
def R.PORCH (o : Nat) : Nat := 0x102000 + o
def R.PORCH_PORCH_CFG : Nat := 0x102040
def R.PORCH_RING_CTRL (n : Nat) : Nat := 0x102100 + 0x40 * n
def R.PORCH_CMD_BASE (n : Nat) : Nat := 0x102104 + 0x40 * n
def R.PORCH_CPL_BASE (n : Nat) : Nat := 0x102108 + 0x40 * n
def R.PORCH_CMD_TAIL (n : Nat) : Nat := 0x10210C + 0x40 * n
def R.PORCH_CMD_HEAD (n : Nat) : Nat := 0x102110 + 0x40 * n
def R.PORCH_CPL_TAIL (n : Nat) : Nat := 0x102114 + 0x40 * n
def R.PORCH_CPL_HEAD (n : Nat) : Nat := 0x102118 + 0x40 * n
def R.PORCH_RING_STAT (n : Nat) : Nat := 0x10211C + 0x40 * n

/-! JOBS (chapter 05) -/
def R.JOBS (o : Nat) : Nat := 0x103000 + o
def R.JOBS_JOB_SUMMARY : Nat := 0x103040
def R.JOBS_JOB_CFG : Nat := 0x103044
def R.JOBS_JOB_STAT (n : Nat) : Nat := 0x103100 + 0x10 * n
def R.JOBS_JOB_DETAIL (n : Nat) : Nat := 0x103104 + 0x10 * n
def R.JOBS_ELAPSED_MS (n : Nat) : Nat := 0x103108 + 0x10 * n

/-! SRAM (chapter 06) -/
def R.SRAM (o : Nat) : Nat := 0x200000 + o
def R.SRAM_ECC_STAT : Nat := 0x200040
def R.SRAM_UE_ADDR_LO : Nat := 0x200044
def R.SRAM_SCRUB_CFG : Nat := 0x200048

/-! MRAM (chapter 06) -/
def R.MRAM (o : Nat) : Nat := 0x201000 + o
def R.MRAM_ECC_STAT : Nat := 0x201040
def R.MRAM_UE_ADDR_LO : Nat := 0x201044

/-! LPDDR (chapter 06) -/
def R.LPDDR (o : Nat) : Nat := 0x202000 + o
def R.LPDDR_ECC_STAT : Nat := 0x202040
def R.LPDDR_UE_ADDR_LO : Nat := 0x202044
def R.LPDDR_UE_ADDR_HI : Nat := 0x202048
def R.LPDDR_CFG : Nat := 0x20204C
def R.LPDDR_FS_BASE : Nat := 0x202050
def R.LPDDR_FS_SIZE : Nat := 0x202054

/-! XSPI (chapter 06) -/
def R.XSPI (o : Nat) : Nat := 0x203000 + o
def R.XSPI_STAT : Nat := 0x203040

/-! XLATE (chapter 06) -/
def R.XLATE (o : Nat) : Nat := 0x204000 + o
def R.XLATE_CTX_EN : Nat := 0x204040
def R.XLATE_INV : Nat := 0x204044
def R.XLATE_TLB_STAT : Nat := 0x204048
def R.XLATE_CTX_BASE (n : Nat) : Nat := 0x204100 + 0x4 * n

/-! XFAULT (chapter 06) -/
def R.XFAULT (o : Nat) : Nat := 0x205000 + o
def R.XFAULT_LOG_STAT : Nat := 0x205040
def R.XFAULT_LOG_CTRL : Nat := 0x205044
def R.XFAULT_TILE_STAT : Nat := 0x205048

/-! DMA (chapter 06) -/
def R.DMA (i o : Nat) : Nat := pg 0x2 0x10 i o
def R.DMA_CTRL (i : Nat) : Nat := 0x210040 + 0x1000 * i
def R.DMA_DESC_PTR (i : Nat) : Nat := 0x210044 + 0x1000 * i
def R.DMA_CUR_DESC (i : Nat) : Nat := 0x210048 + 0x1000 * i
def R.DMA_PROGRESS (i : Nat) : Nat := 0x21004C + 0x1000 * i
def R.DMA_STAT (i : Nat) : Nat := 0x210050 + 0x1000 * i
def R.DMA_FLT_IOVA (i : Nat) : Nat := 0x210054 + 0x1000 * i
def R.DMA_DONE_COUNT (i : Nat) : Nat := 0x210058 + 0x1000 * i

/-! POSEIN (chapter 07) -/
def R.POSEIN (o : Nat) : Nat := 0x300000 + o
def R.POSEIN_SRC_CFG : Nat := 0x300040
def R.POSEIN_SRC_STAT : Nat := 0x300044
def R.POSEIN_TIMING : Nat := 0x300048
def R.POSEIN_QUAL_MIN : Nat := 0x30004C
def R.POSEIN_JUMP_TOL : Nat := 0x300050
def R.POSEIN_N2K_LAT : Nat := 0x300054
def R.POSEIN_ANCHOR_LAT_LO : Nat := 0x300058
def R.POSEIN_ANCHOR_LAT_HI : Nat := 0x30005C
def R.POSEIN_ANCHOR_LON_LO : Nat := 0x300060
def R.POSEIN_ANCHOR_LON_HI : Nat := 0x300064
def R.POSEIN_ANCHOR_H : Nat := 0x300068
def R.POSEIN_HOST_POSE (n : Nat) : Nat := 0x300100 + 0x4 * n
def R.POSEIN_LAST_POSE (n : Nat) : Nat := 0x300140 + 0x4 * n

/-! IMU (chapter 07) -/
def R.IMU (o : Nat) : Nat := 0x301000 + o
def R.IMU_CFG : Nat := 0x301040
def R.IMU_CMD : Nat := 0x301044
def R.IMU_OFFS_G : Nat := 0x301048
def R.IMU_OFFS_A : Nat := 0x30104C
def R.IMU_GSCALE : Nat := 0x301050
def R.IMU_ASCALE : Nat := 0x301054
def R.IMU_STAT : Nat := 0x301058
def R.IMU_GBIAS_Z : Nat := 0x30105C

/-! GEOM (chapter 07) -/
def R.GEOM (o : Nat) : Nat := 0x302000 + o
def R.GEOM_KIN : Nat := 0x302040
def R.GEOM_ANT0_X : Nat := 0x302044
def R.GEOM_ANT0_Y : Nat := 0x302048
def R.GEOM_ANT0_Z : Nat := 0x30204C
def R.GEOM_ANT1_X : Nat := 0x302050
def R.GEOM_ANT1_Y : Nat := 0x302054
def R.GEOM_ANT1_Z : Nat := 0x302058
def R.GEOM_HITCH1_X : Nat := 0x30205C
def R.GEOM_L1 : Nat := 0x302060
def R.GEOM_HITCH2_X : Nat := 0x302064
def R.GEOM_L2 : Nat := 0x302068
def R.GEOM_HITCH1_CAL : Nat := 0x30206C
def R.GEOM_HITCH2_CAL : Nat := 0x302070
def R.GEOM_HITCH_TOL : Nat := 0x302074
def R.GEOM_HITCH_ANGLE1 : Nat := 0x302078
def R.GEOM_HITCH_ANGLE2 : Nat := 0x30207C
def R.GEOM_ODO_CFG : Nat := 0x302080
def R.GEOM_ODO_SCALE : Nat := 0x302084
def R.GEOM_COUNTS_PER_TURN : Nat := 0x302088
def R.GEOM_ANGLE_OFS : Nat := 0x30208C
def R.GEOM_TRK_SLEW_TOL : Nat := 0x302090

/-! PRED (chapter 07) -/
def R.PRED (o : Nat) : Nat := 0x303000 + o
def R.PRED_CFG : Nat := 0x303040
def R.PRED_EPOCH_TOL : Nat := 0x303044
def R.PRED_MODEL : Nat := 0x303048
def R.PRED_POSE_EPOCH : Nat := 0x30304C
def R.PRED_EPOCH_CAUSE : Nat := 0x303050
def R.PRED_LAST_DEV : Nat := 0x303054
def R.PRED_UNC_END : Nat := 0x303058
def R.PRED_OVERRUN : Nat := 0x30305C
def R.PRED_UNC_CFG : Nat := 0x303060

/-! HIST (chapter 07) -/
def R.HIST (o : Nat) : Nat := 0x304000 + o
def R.HIST_RING_BASE : Nat := 0x304040
def R.HIST_RING_MB : Nat := 0x304044
def R.HIST_NEWEST_DT_LO : Nat := 0x304048
def R.HIST_NEWEST_DT_HI : Nat := 0x30404C
def R.HIST_OLDEST_DT_LO : Nat := 0x304050
def R.HIST_OLDEST_DT_HI : Nat := 0x304054

/-! PANTRY (chapter 08) -/
def R.PANTRY (o : Nat) : Nat := 0x400000 + o
def R.PANTRY_SLOT_SUM : Nat := 0x400040
def R.PANTRY_HITS : Nat := 0x400044
def R.PANTRY_MISSES : Nat := 0x400048
def R.PANTRY_PF_CFG : Nat := 0x40004C
def R.PANTRY_PF_COUNT : Nat := 0x400050

/-! TILEDIR (chapter 08) -/
def R.TILEDIR (o : Nat) : Nat := 0x401000 + o
def R.TILEDIR_FIELD_STAT : Nat := 0x401040
def R.TILEDIR_FIELD_ID_LO : Nat := 0x401044
def R.TILEDIR_FIELD_ID_HI : Nat := 0x401048
def R.TILEDIR_ORIGIN : Nat := 0x40104C
def R.TILEDIR_EXTENT : Nat := 0x401050
def R.TILEDIR_TILE_COUNT : Nat := 0x401054
def R.TILEDIR_LOAD_CFG : Nat := 0x401058

/-! PROBE (chapter 08) -/
def R.PROBE (o : Nat) : Nat := 0x402000 + o
def R.PROBE_CFG : Nat := 0x402040
def R.PROBE_STAT : Nat := 0x402044
def R.PROBE_TRUNC : Nat := 0x402048
def R.PROBE_FB_BND : Nat := 0x40204C
def R.PROBE_FB_COV : Nat := 0x402050
def R.PROBE_FB_RX : Nat := 0x402054
def R.PROBE_DIAG_SEL : Nat := 0x402058

/-! LAYERS (chapter 08) -/
def R.LAYERS (o : Nat) : Nat := 0x403000 + o
def R.LAYERS_FALLBACK : Nat := 0x403040
def R.LAYERS_LANE_CFG : Nat := 0x403044
def R.LAYERS_COV1_CELLS : Nat := 0x403048
def R.LAYERS_COV2_CELLS : Nat := 0x40304C
def R.LAYERS_COV3_CELLS : Nat := 0x403050

/-! RETIRE (chapter 09) -/
def R.RETIRE (o : Nat) : Nat := 0x404000 + o
def R.RETIRE_CFG : Nat := 0x404040
def R.RETIRE_BACKLOG : Nat := 0x404044
def R.RETIRE_LOST_OVF : Nat := 0x404048
def R.RETIRE_LOST_POSE : Nat := 0x40404C
def R.RETIRE_LOST_MEDIA : Nat := 0x404050
def R.RETIRE_LOST_DISCARD : Nat := 0x404054
def R.RETIRE_RECORDS : Nat := 0x404058
def R.RETIRE_LOST_CTRL : Nat := 0x40405C

/-! PLAN (chapter 09) -/
def R.PLAN (o : Nat) : Nat := 0x500000 + o
def R.PLAN_CFG : Nat := 0x500040
def R.PLAN_TIMING : Nat := 0x500044
def R.PLAN_STAT : Nat := 0x500048
def R.PLAN_OVERRUN : Nat := 0x50004C

/-! COMMIT (chapter 09) -/
def R.COMMIT (o : Nat) : Nat := 0x501000 + o
def R.COMMIT_CFG : Nat := 0x501040
def R.COMMIT_STAT : Nat := 0x501044
def R.COMMIT_PLANNED : Nat := 0x501048
def R.COMMIT_SQUASHED : Nat := 0x50104C
def R.COMMIT_COMMITTED : Nat := 0x501050
def R.COMMIT_CONFIRMED : Nat := 0x501054
def R.COMMIT_ESTIMATED : Nat := 0x501058
def R.COMMIT_LATE : Nat := 0x50105C
def R.COMMIT_MISSED : Nat := 0x501060
def R.COMMIT_CNT_CTRL : Nat := 0x501064
def R.COMMIT_LATE_MAX : Nat := 0x501068

/-! OUTLETWIN (chapter 09) -/
def R.OUTLETWIN (o : Nat) : Nat := 0x502000 + o
def R.OUTLETWIN_SW_STAT : Nat := 0x502040
def R.OUTLETWIN_VIEW : Nat := 0x502044

/-! EDGEQ (chapter 09) -/
def R.EDGEQ (o : Nat) : Nat := 0x503000 + o
def R.EDGEQ_HOLDS : Nat := 0x503040

/-! METER (chapter 10) -/
def R.METER (o : Nat) : Nat := 0x504000 + o
def R.METER_CFG : Nat := 0x504040
def R.METER_RATE_SW : Nat := 0x504044
def R.METER_STAT : Nat := 0x504048
def R.METER_LOG_OVF : Nat := 0x50404C
def R.METER_PCFG (n : Nat) : Nat := 0x504100 + 0x40 * n
def R.METER_PPU (n : Nat) : Nat := 0x504104 + 0x40 * n
def R.METER_UNITS_PER_REV (n : Nat) : Nat := 0x504108 + 0x40 * n
def R.METER_PZERO (n : Nat) : Nat := 0x50410C + 0x40 * n
def R.METER_PSPAN (n : Nat) : Nat := 0x504110 + 0x40 * n
def R.METER_RATE_LEAD (n : Nat) : Nat := 0x504114 + 0x40 * n
def R.METER_QTY_SCALE (n : Nat) : Nat := 0x504118 + 0x40 * n
def R.METER_FLOW_TGT (n : Nat) : Nat := 0x50411C + 0x40 * n
def R.METER_FLOW_MEAS (n : Nat) : Nat := 0x504120 + 0x40 * n
def R.METER_PRESS (n : Nat) : Nat := 0x504124 + 0x40 * n
def R.METER_PSTAT (n : Nat) : Nat := 0x504128 + 0x40 * n

/-! TOTALS (chapter 10) -/
def R.TOTALS (o : Nat) : Nat := 0x505000 + o
def R.TOTALS_STAT : Nat := 0x505040
def R.TOTALS_CKPT : Nat := 0x505044

/-! REMOTE (chapter 09) -/
def R.REMOTE (o : Nat) : Nat := 0x506000 + o
def R.REMOTE_SENT : Nat := 0x506040
def R.REMOTE_LATE_SENDS : Nat := 0x506044
def R.REMOTE_TIMEOUTS : Nat := 0x506048
def R.REMOTE_DEPTH : Nat := 0x50604C

/-! DRVCTL (chapter 11) -/
def R.DRVCTL (o : Nat) : Nat := 0x600000 + o
def R.DRVCTL_CFG : Nat := 0x600040
def R.DRVCTL_VBST_CFG : Nat := 0x600044
def R.DRVCTL_VBST_STAT : Nat := 0x600048
def R.DRVCTL_STAT : Nat := 0x60004C

/-! REGION (chapter 11) -/
def R.REGION (i o : Nat) : Nat := pg 0x6 0x1 i o
def R.REGION_CFG (i : Nat) : Nat := 0x601040 + 0x1000 * i
def R.REGION_THERM (i : Nat) : Nat := 0x601044 + 0x1000 * i
def R.REGION_SAG (i : Nat) : Nat := 0x601048 + 0x1000 * i
def R.REGION_REC (i : Nat) : Nat := 0x60104C + 0x1000 * i
def R.REGION_STAT (i : Nat) : Nat := 0x601050 + 0x1000 * i
def R.REGION_VOLT (i : Nat) : Nat := 0x601054 + 0x1000 * i
def R.REGION_SAGS (i : Nat) : Nat := 0x601058 + 0x1000 * i
def R.REGION_BUDGET (i : Nat) : Nat := 0x60105C + 0x1000 * i

/-! OUTC (chapter 11) -/
def R.OUTC (i o : Nat) : Nat := pg 0x6 0x10 i o
def R.OUTC_U (u o : Nat) : Nat := frm 0x6 0x10 8 u o
def R.OUTC_CL_CFG (i : Nat) : Nat := 0x610040 + 0x1000 * i
def R.OUTC_CL_TEMP (i : Nat) : Nat := 0x610044 + 0x1000 * i
def R.OUTC_CH_CFG (u : Nat) : Nat := R.OUTC_U u (0x20)
def R.OUTC_CH_CUR (u : Nat) : Nat := R.OUTC_U u (0x24)
def R.OUTC_CH_TIME (u : Nat) : Nat := R.OUTC_U u (0x28)
def R.OUTC_CH_HOLD (u : Nat) : Nat := R.OUTC_U u (0x2C)
def R.OUTC_CH_STAT (u : Nat) : Nat := R.OUTC_U u (0x30)
def R.OUTC_CH_MEAS (u : Nat) : Nat := R.OUTC_U u (0x34)
def R.OUTC_CH_CNT (u : Nat) : Nat := R.OUTC_U u (0x38)
def R.OUTC_CH_DIAG (u : Nat) : Nat := R.OUTC_U u (0x3C)

/-! BANK (chapter 11) -/
def R.BANK (i o : Nat) : Nat := pg 0x6 0x30 i o
def R.BANK_U (u o : Nat) : Nat := frm 0x6 0x30 4 u o
def R.BANK_BK_CFG (i : Nat) : Nat := 0x630040 + 0x1000 * i
def R.BANK_BK_STAT (i : Nat) : Nat := 0x630044 + 0x1000 * i
def R.BANK_BST_CUR (u : Nat) : Nat := R.BANK_U u (0x20)
def R.BANK_BST_TIME (u : Nat) : Nat := R.BANK_U u (0x24)
def R.BANK_BST_PROT (u : Nat) : Nat := R.BANK_U u (0x28)
def R.BANK_BST_STAT (u : Nat) : Nat := R.BANK_U u (0x2C)
def R.BANK_BST_SHUNT (u : Nat) : Nat := R.BANK_U u (0x30)

/-! MOTION (chapter 12) -/
def R.MOTION (o : Nat) : Nat := 0x638000 + o
def R.MOTION_BANDS : Nat := 0x638040
def R.MOTION_LEARN_CFG : Nat := 0x638044
def R.MOTION_SMP_STAT : Nat := 0x638048
def R.MOTION_RES_STAT : Nat := 0x63804C
def R.MOTION_SUSPECT_CNT : Nat := 0x638050
def R.MOTION_DS_CLOSE (n : Nat) : Nat := 0x638100 + 0x10 * n
def R.MOTION_DS_WIN (n : Nat) : Nat := 0x638104 + 0x10 * n
def R.MOTION_DS_OPEN (n : Nat) : Nat := 0x638108 + 0x10 * n

/-! CTLENG (chapter 13) -/
def R.CTLENG (o : Nat) : Nat := 0x700000 + o
def R.CTLENG_LOAD : Nat := 0x700040
def R.CTLENG_LATE : Nat := 0x700044
def R.CTLENG_STAT : Nat := 0x700048

/-! TRACE (chapter 13) -/
def R.TRACE (o : Nat) : Nat := 0x701000 + o
def R.TRACE_CFG : Nat := 0x701040
def R.TRACE_DEPTH : Nat := 0x701044
def R.TRACE_TRIG : Nat := 0x701048
def R.TRACE_THRESH : Nat := 0x70104C
def R.TRACE_CTRL : Nat := 0x701050
def R.TRACE_STAT : Nat := 0x701054
def R.TRACE_TRIG_POS : Nat := 0x701058
def R.TRACE_PROBE (n : Nat) : Nat := 0x701080 + 0x4 * n

/-! LOOP (chapter 13) -/
def R.LOOP (i o : Nat) : Nat := pg 0x7 0x10 i o
def R.LOOP_LP_CFG (i : Nat) : Nat := 0x710060 + 0x1000 * i
def R.LOOP_LP_PHASE (i : Nat) : Nat := 0x710064 + 0x1000 * i
def R.LOOP_LP_STAT (i : Nat) : Nat := 0x710068 + 0x1000 * i
def R.LOOP_MAN_OUT (i : Nat) (n : Nat) : Nat := 0x71006C + 0x1000 * i + 0x4 * n
def R.LOOP_HOST_VAL (i : Nat) (n : Nat) : Nat := 0x710074 + 0x1000 * i + 0x4 * n
def R.LOOP_OUT_RAW (i : Nat) (n : Nat) : Nat := 0x710084 + 0x1000 * i + 0x4 * n
def R.LOOP_LAST_DT (i : Nat) : Nat := 0x71008C + 0x1000 * i
def R.LOOP_IN_SEL (i : Nat) (n : Nat) : Nat := 0x710100 + 0x1000 * i + 0x20 * n
def R.LOOP_IN_OFS (i : Nat) (n : Nat) : Nat := 0x710104 + 0x1000 * i + 0x20 * n
def R.LOOP_IN_GAIN (i : Nat) (n : Nat) : Nat := 0x710108 + 0x1000 * i + 0x20 * n
def R.LOOP_IN_LO (i : Nat) (n : Nat) : Nat := 0x71010C + 0x1000 * i + 0x20 * n
def R.LOOP_IN_HI (i : Nat) (n : Nat) : Nat := 0x710110 + 0x1000 * i + 0x20 * n
def R.LOOP_IN_STALE (i : Nat) (n : Nat) : Nat := 0x710114 + 0x1000 * i + 0x20 * n
def R.LOOP_OUT_SEL (i : Nat) (n : Nat) : Nat := 0x710180 + 0x1000 * i + 0x20 * n
def R.LOOP_OUT_GAIN (i : Nat) (n : Nat) : Nat := 0x710184 + 0x1000 * i + 0x20 * n
def R.LOOP_OUT_OFS (i : Nat) (n : Nat) : Nat := 0x710188 + 0x1000 * i + 0x20 * n
def R.LOOP_U_MIN (i : Nat) (n : Nat) : Nat := 0x71018C + 0x1000 * i + 0x20 * n
def R.LOOP_U_MAX (i : Nat) (n : Nat) : Nat := 0x710190 + 0x1000 * i + 0x20 * n
def R.LOOP_SAFE_OUT (i : Nat) (n : Nat) : Nat := 0x710194 + 0x1000 * i + 0x20 * n
def R.LOOP_SUP_CFG (i : Nat) : Nat := 0x7101C0 + 0x1000 * i
def R.LOOP_SUP_TIME (i : Nat) : Nat := 0x7101C4 + 0x1000 * i
def R.LOOP_FE_LIMIT (i : Nat) (n : Nat) : Nat := 0x7101C8 + 0x1000 * i + 0x4 * n
def R.LOOP_FREEZE_BAND (i : Nat) (n : Nat) : Nat := 0x7101D4 + 0x1000 * i + 0x4 * n
def R.LOOP_FREEZE_DRIVE (i : Nat) (n : Nat) : Nat := 0x7101E0 + 0x1000 * i + 0x4 * n
def R.LOOP_LAW (i : Nat) : Nat := 0x710200 + 0x1000 * i
def R.LOOP_COEF_A (i : Nat) (n : Nat) : Nat := 0x710240 + 0x1000 * i + 0x4 * n
def R.LOOP_COEF_B (i : Nat) (n : Nat) : Nat := 0x7102E0 + 0x1000 * i + 0x4 * n
def R.LOOP_COEF_L (i : Nat) (n : Nat) : Nat := 0x710320 + 0x1000 * i + 0x4 * n
def R.LOOP_COEF_C (i : Nat) (n : Nat) : Nat := 0x710360 + 0x1000 * i + 0x4 * n
def R.LOOP_COEF_N (i : Nat) (n : Nat) : Nat := 0x7103A0 + 0x1000 * i + 0x4 * n
def R.LOOP_COEF_KX (i : Nat) (n : Nat) : Nat := 0x7103C0 + 0x1000 * i + 0x4 * n
def R.LOOP_COEF_KI (i : Nat) (n : Nat) : Nat := 0x710400 + 0x1000 * i + 0x4 * n
def R.LOOP_COEF_GI (i : Nat) (n : Nat) : Nat := 0x710420 + 0x1000 * i + 0x4 * n
def R.LOOP_COEF_E_RANGE (i : Nat) (n : Nat) : Nat := 0x710500 + 0x1000 * i + 0x4 * n
def R.LOOP_COEF_G (i : Nat) (n : Nat) : Nat := 0x710508 + 0x1000 * i + 0x4 * n
def R.LOOP_ST_INPUT (i : Nat) (n : Nat) : Nat := 0x710C00 + 0x1000 * i + 0x4 * n
def R.LOOP_ST_OBSERVER (i : Nat) (n : Nat) : Nat := 0x710C20 + 0x1000 * i + 0x4 * n
def R.LOOP_ST_INTEGRATOR (i : Nat) (n : Nat) : Nat := 0x710C40 + 0x1000 * i + 0x4 * n
def R.LOOP_ST_FEEDBACK (i : Nat) (n : Nat) : Nat := 0x710C50 + 0x1000 * i + 0x4 * n

/-! PWMCTL (chapter 14) -/
def R.PWMCTL (o : Nat) : Nat := 0x800000 + o
def R.PWMCTL_CAL_STAT : Nat := 0x800040
def R.PWMCTL_PAD_SAFE (n : Nat) : Nat := 0x800044 + 0x4 * n
def R.PWMCTL_SYNC_CFG : Nat := 0x80005C
def R.PWMCTL_OWN_LO : Nat := 0x800060
def R.PWMCTL_OWN_HI : Nat := 0x800064
def R.PWMCTL_MOTOR_LO : Nat := 0x800068
def R.PWMCTL_MOTOR_HI : Nat := 0x80006C

/-! TRIP (chapter 14) -/
def R.TRIP (o : Nat) : Nat := 0x801000 + o
def R.TRIP_TRIP_CLR : Nat := 0x801040
def R.TRIP_TRIP_SUM : Nat := 0x801044
def R.TRIP_TRIP_CFG (n : Nat) : Nat := 0x801100 + 0x20 * n
def R.TRIP_TRIP_MAP (n : Nat) : Nat := 0x801104 + 0x20 * n
def R.TRIP_TRIP_BLANK (n : Nat) : Nat := 0x801108 + 0x20 * n
def R.TRIP_TRIP_STAT (n : Nat) : Nat := 0x80110C + 0x20 * n
def R.TRIP_TRIP_DT_LO (n : Nat) : Nat := 0x801110 + 0x20 * n
def R.TRIP_TRIP_DT_HI (n : Nat) : Nat := 0x801114 + 0x20 * n

/-! PWMC (chapter 14) -/
def R.PWMC (i o : Nat) : Nat := pg 0x8 0x10 i o
def R.PWMC_U (u o : Nat) : Nat := frm 0x8 0x10 8 u o
def R.PWMC_CL_CFG (i : Nat) : Nat := 0x810040 + 0x1000 * i
def R.PWMC_CL_PER (i : Nat) : Nat := 0x810044 + 0x1000 * i
def R.PWMC_CL_SYNC (i : Nat) : Nat := 0x810048 + 0x1000 * i
def R.PWMC_CL_CTRL (i : Nat) : Nat := 0x81004C + 0x1000 * i
def R.PWMC_CL_CNT (i : Nat) : Nat := 0x810050 + 0x1000 * i
def R.PWMC_CL_STAT (i : Nat) : Nat := 0x810054 + 0x1000 * i
def R.PWMC_CH_CFG (u : Nat) : Nat := R.PWMC_U u (0x20)
def R.PWMC_CH_DT (u : Nat) : Nat := R.PWMC_U u (0x24)
def R.PWMC_CH_CMP (u : Nat) : Nat := R.PWMC_U u (0x28)
def R.PWMC_CH_CMP2 (u : Nat) : Nat := R.PWMC_U u (0x2C)
def R.PWMC_CH_DUTY (u : Nat) : Nat := R.PWMC_U u (0x30)
def R.PWMC_CH_FORCE (u : Nat) : Nat := R.PWMC_U u (0x34)
def R.PWMC_CH_CTRL (u : Nat) : Nat := R.PWMC_U u (0x38)
def R.PWMC_CH_IRQ (u : Nat) : Nat := R.PWMC_U u (0x3C)
def R.PWMC_CH_STAT (u : Nat) : Nat := R.PWMC_U u (0x40)

/-! DIOG (chapter 15) -/
def R.DIOG (i o : Nat) : Nat := pg 0x9 0x0 i o
def R.DIOG_U (u o : Nat) : Nat := frm 0x9 0x0 8 u o
def R.DIOG_G_CFG (i : Nat) : Nat := 0x900040 + 0x1000 * i
def R.DIOG_G_STAT (i : Nat) : Nat := 0x900044 + 0x1000 * i
def R.DIOG_IO_CFG (u : Nat) : Nat := R.DIOG_U u (0x20)
def R.DIOG_IO_CTRL (u : Nat) : Nat := R.DIOG_U u (0x24)
def R.DIOG_IO_STAT (u : Nat) : Nat := R.DIOG_U u (0x28)
def R.DIOG_IO_EDGE_LO (u : Nat) : Nat := R.DIOG_U u (0x2C)
def R.DIOG_IO_EDGE_HI (u : Nat) : Nat := R.DIOG_U u (0x30)
def R.DIOG_IO_CNT (u : Nat) : Nat := R.DIOG_U u (0x34)

/-! AING (chapter 15) -/
def R.AING (i o : Nat) : Nat := pg 0x9 0x8 i o
def R.AING_U (u o : Nat) : Nat := frm 0x9 0x8 8 u o
def R.AING_AIN_CFG (u : Nat) : Nat := R.AING_U u (0x20)
def R.AING_AIN_CODE (u : Nat) : Nat := R.AING_U u (0x24)
def R.AING_AIN_DT_LO (u : Nat) : Nat := R.AING_U u (0x28)
def R.AING_AIN_DT_HI (u : Nat) : Nat := R.AING_U u (0x2C)

/-! FING (chapter 15) -/
def R.FING (o : Nat) : Nat := 0x90C000 + o
def R.FING_QUAD_CFG : Nat := 0x90C040
def R.FING_QPOS (n : Nat) : Nat := 0x90C044 + 0x4 * n
def R.FING_QERR_CNT : Nat := 0x90C05C
def R.FING_F_CFG (n : Nat) : Nat := 0x90C100 + 0x20 * n
def R.FING_F_TIMEOUT (n : Nat) : Nat := 0x90C104 + 0x20 * n
def R.FING_F_FREQ (n : Nat) : Nat := 0x90C108 + 0x20 * n
def R.FING_F_COUNT (n : Nat) : Nat := 0x90C10C + 0x20 * n
def R.FING_F_EDGE_LO (n : Nat) : Nat := 0x90C110 + 0x20 * n
def R.FING_F_EDGE_HI (n : Nat) : Nat := 0x90C114 + 0x20 * n
def R.FING_F_STAT (n : Nat) : Nat := 0x90C118 + 0x20 * n

/-! RFCTL (chapter 16) -/
def R.RFCTL (o : Nat) : Nat := 0xA00000 + o
def R.RFCTL_ANT_CFG : Nat := 0xA00040
def R.RFCTL_ANT_STAT : Nat := 0xA00044
def R.RFCTL_CHAIN_CFG : Nat := 0xA00048
def R.RFCTL_CHAIN_STAT : Nat := 0xA0004C
def R.RFCTL_AGC : Nat := 0xA00050
def R.RFCTL_SAMPLE0_DT_LO : Nat := 0xA00054
def R.RFCTL_SAMPLE0_DT_HI : Nat := 0xA00058
def R.RFCTL_LINK_STAT : Nat := 0xA0005C

/-! ACQ (chapter 16) -/
def R.ACQ (o : Nat) : Nat := 0xA01000 + o
def R.ACQ_CFG : Nat := 0xA01040
def R.ACQ_STAT : Nat := 0xA01044
def R.ACQ_CTX_STAT (n : Nat) : Nat := 0xA01100 + 0x20 * n
def R.ACQ_CTX_BINS (n : Nat) : Nat := 0xA01104 + 0x20 * n
def R.ACQ_CTX_CAP_DT_LO (n : Nat) : Nat := 0xA01108 + 0x20 * n
def R.ACQ_CTX_CAP_DT_HI (n : Nat) : Nat := 0xA0110C + 0x20 * n

/-! ACQRES (chapter 16) -/
def R.ACQRES (o : Nat) : Nat := 0xA02000 + o
def R.ACQRES_CTX_SUM (n : Nat) : Nat := 0xA02040 + 0x4 * n

/-! TPULSE (chapter 17) -/
def R.TPULSE (o : Nat) : Nat := 0xA03000 + o
def R.TPULSE_TP_CFG (n : Nat) : Nat := 0xA03040 + 0x4 * n
def R.TPULSE_CABLE : Nat := 0xA03048
def R.TPULSE_HOLDOVER : Nat := 0xA0304C
def R.TPULSE_TP_STAT : Nat := 0xA03050
def R.TPULSE_T_UNC : Nat := 0xA03054
def R.TPULSE_INFO0_ (n : Nat) : Nat := 0xA03060 + 0x4 * n
def R.TPULSE_INFO1_ (n : Nat) : Nat := 0xA03080 + 0x4 * n

/-! GNSSCTL (chapter 17) -/
def R.GNSSCTL (o : Nat) : Nat := 0xA04000 + o
def R.GNSSCTL_CFG : Nat := 0xA04040
def R.GNSSCTL_SIG_EN : Nat := 0xA04044
def R.GNSSCTL_CORR_CFG : Nat := 0xA04048
def R.GNSSCTL_HDG_CFG : Nat := 0xA0404C
def R.GNSSCTL_STAT : Nat := 0xA04050
def R.GNSSCTL_HDG_STAT : Nat := 0xA04054
def R.GNSSCTL_RTCM_STAT : Nat := 0xA04058

/-! GCH (chapter 16) -/
def R.GCH (i o : Nat) : Nat := pg 0xA 0x10 i o
def R.GCH_U (u o : Nat) : Nat := frm 0xA 0x10 8 u o
def R.GCH_CL_OWN (i : Nat) : Nat := 0xA10040 + 0x1000 * i
def R.GCH_PORT_STAT (i : Nat) : Nat := 0xA10044 + 0x1000 * i
def R.GCH_CH_CFG (u : Nat) : Nat := R.GCH_U u (0x20)
def R.GCH_CH_TAPS0 (u : Nat) : Nat := R.GCH_U u (0x24)
def R.GCH_CH_TAPS1 (u : Nat) : Nat := R.GCH_U u (0x28)
def R.GCH_CH_TAPS2 (u : Nat) : Nat := R.GCH_U u (0x2C)
def R.GCH_CARR_FREQ (u : Nat) : Nat := R.GCH_U u (0x30)
def R.GCH_CARR_PHASE (u : Nat) : Nat := R.GCH_U u (0x34)
def R.GCH_CODE_RATE (u : Nat) : Nat := R.GCH_U u (0x38)
def R.GCH_CODE_PH_LO (u : Nat) : Nat := R.GCH_U u (0x3C)
def R.GCH_CODE_PH_HI (u : Nat) : Nat := R.GCH_U u (0x40)
def R.GCH_START_LO (u : Nat) : Nat := R.GCH_U u (0x44)
def R.GCH_START_HI (u : Nat) : Nat := R.GCH_U u (0x48)
def R.GCH_CH_CTRL (u : Nat) : Nat := R.GCH_U u (0x4C)
def R.GCH_CH_STAT (u : Nat) : Nat := R.GCH_U u (0x50)
def R.GCH_DMP_DT_LO (u : Nat) : Nat := R.GCH_U u (0x60)
def R.GCH_DMP_DT_HI (u : Nat) : Nat := R.GCH_U u (0x64)
def R.GCH_DMP_CODE_LO (u : Nat) : Nat := R.GCH_U u (0x68)
def R.GCH_DMP_CODE_HI (u : Nat) : Nat := R.GCH_U u (0x6C)
def R.GCH_DMP_CARR_CYC (u : Nat) : Nat := R.GCH_U u (0x70)
def R.GCH_DMP_CARR_FRAC (u : Nat) : Nat := R.GCH_U u (0x74)
def R.GCH_DMP_ACC (u : Nat) (n : Nat) : Nat := R.GCH_U u (0x78 + 0x4 * n)
def R.GCH_DMP_FLAGS (u : Nat) : Nat := R.GCH_U u (0xB0)
def R.GCH_OBS (u : Nat) (n : Nat) : Nat := R.GCH_U u (0xC0 + 0x4 * n)

/-! CAN (chapter 18) -/
def R.CAN (i o : Nat) : Nat := pg 0xB 0x0 i o
def R.CAN_CAN_CFG (i : Nat) : Nat := 0xB00040 + 0x1000 * i
def R.CAN_NBT (i : Nat) : Nat := 0xB00044 + 0x1000 * i
def R.CAN_DBT (i : Nat) : Nat := 0xB00048 + 0x1000 * i
def R.CAN_CAN_STAT (i : Nat) : Nat := 0xB0004C + 0x1000 * i
def R.CAN_CAN_ADDR (i : Nat) : Nat := 0xB00050 + 0x1000 * i
def R.CAN_CAN_NAME_LO (i : Nat) : Nat := 0xB00054 + 0x1000 * i
def R.CAN_CAN_NAME_HI (i : Nat) : Nat := 0xB00058 + 0x1000 * i
def R.CAN_RX_RING (i : Nat) : Nat := 0xB0005C + 0x1000 * i
def R.CAN_RX_HEAD (i : Nat) : Nat := 0xB00060 + 0x1000 * i
def R.CAN_RX_TAIL (i : Nat) : Nat := 0xB00064 + 0x1000 * i
def R.CAN_CAN_RTCM (i : Nat) : Nat := 0xB00068 + 0x1000 * i
def R.CAN_CAN_RTCM_GE (i : Nat) : Nat := 0xB0006C + 0x1000 * i

/-! ETH (chapter 18) -/
def R.ETH (i o : Nat) : Nat := pg 0xB 0x8 i o
def R.ETH_ETH_CFG (i : Nat) : Nat := 0xB08040 + 0x1000 * i
def R.ETH_MAC_LO (i : Nat) : Nat := 0xB08044 + 0x1000 * i
def R.ETH_MAC_HI (i : Nat) : Nat := 0xB08048 + 0x1000 * i
def R.ETH_IP (i : Nat) : Nat := 0xB0804C + 0x1000 * i
def R.ETH_NETMASK (i : Nat) : Nat := 0xB08050 + 0x1000 * i
def R.ETH_GATEWAY (i : Nat) : Nat := 0xB08054 + 0x1000 * i
def R.ETH_ETH_REM (i : Nat) : Nat := 0xB08058 + 0x1000 * i
def R.ETH_PTP_CFG (i : Nat) : Nat := 0xB0805C + 0x1000 * i
def R.ETH_PTP_STAT (i : Nat) : Nat := 0xB08060 + 0x1000 * i
def R.ETH_ETH_STAT (i : Nat) : Nat := 0xB08064 + 0x1000 * i

/-! HXL (chapter 18) -/
def R.HXL (o : Nat) : Nat := 0xB0C000 + o
def R.HXL_HX_CFG : Nat := 0xB0C040
def R.HXL_HX_PORT (n : Nat) : Nat := 0xB0C044 + 0x4 * n
def R.HXL_HX_FRAMES : Nat := 0xB0C04C

/-! SYSNET (chapter 18) -/
def R.SYSNET (o : Nat) : Nat := 0xB0D000 + o
def R.SYSNET_CFG : Nat := 0xB0D040
def R.SYSNET_MEMBER_STAT : Nat := 0xB0D044
def R.SYSNET_MAP_SEQ : Nat := 0xB0D048
def R.SYSNET_S_ADT_LO : Nat := 0xB0D04C
def R.SYSNET_S_ADT_HI : Nat := 0xB0D050
def R.SYSNET_S_ANCHOR_LO : Nat := 0xB0D054
def R.SYSNET_S_ANCHOR_HI : Nat := 0xB0D058
def R.SYSNET_S_RATE : Nat := 0xB0D05C
def R.SYSNET_SYS_EPOCH : Nat := 0xB0D060
def R.SYSNET_REPL_STAT : Nat := 0xB0D064
def R.SYSNET_LINK_DELAY : Nat := 0xB0D068

/-! SECCTL (chapter 19) -/
def R.SECCTL (o : Nat) : Nat := 0xC00000 + o
def R.SECCTL_CERT_STAT : Nat := 0xC00040
def R.SECCTL_LOCKOUT : Nat := 0xC00044

/-! SESSION (chapter 19) -/
def R.SESSION (o : Nat) : Nat := 0xC01000 + o
def R.SESSION_CFG : Nat := 0xC01040
def R.SESSION_SLOT (n : Nat) : Nat := 0xC01044 + 0x4 * n

/-! KEYS (chapter 19) -/
def R.KEYS (o : Nat) : Nat := 0xC02000 + o

/-! AUDIT (chapter 19) -/
def R.AUDIT (o : Nat) : Nat := 0xC03000 + o
def R.AUDIT_AUD_STAT : Nat := 0xC03040
def R.AUDIT_AUD_SEQ : Nat := 0xC03044
def R.AUDIT_ARCHIVED_SEQ : Nat := 0xC03048
def R.AUDIT_AUD_CFG : Nat := 0xC0304C

/-! UPDATE (chapter 19) -/
def R.UPDATE (o : Nat) : Nat := 0xC04000 + o
def R.UPDATE_IMG_STAT : Nat := 0xC04040
def R.UPDATE_CFG : Nat := 0xC04044

/-! EVR (chapter 20) -/
def R.EVR (o : Nat) : Nat := 0xD00000 + o
def R.EVR_STAT : Nat := 0xD00040
def R.EVR_LOST : Nat := 0xD00044
def R.EVR_SUPP (n : Nat) : Nat := 0xD00048 + 0x4 * n
def R.EVR_CFG : Nat := 0xD00068
def R.EVR_FIFO : Nat := 0xD0006C
def R.EVR_TORN : Nat := 0xD00070
def R.EVR_DROPPED : Nat := 0xD00074
def R.EVR_ARCHIVED : Nat := 0xD00078

/-! TAIL (chapter 20) -/
def R.TAIL (o : Nat) : Nat := 0xD01000 + o
def R.TAIL_STAT : Nat := 0xD01040

/-! AUDWIN (chapter 19) -/
def R.AUDWIN (o : Nat) : Nat := 0xD02000 + o

/-! LIFE (chapter 20) -/
def R.LIFE (o : Nat) : Nat := 0xD03000 + o
def R.LIFE_LAST_SAVE : Nat := 0xD03040
def R.LIFE_SAVES : Nat := 0xD03044

/-! DBGCTL (chapter 19) -/
def R.DBGCTL (o : Nat) : Nat := 0xE00000 + o
def R.DBGCTL_STATE : Nat := 0xE00040

/-! DBGTRACE (chapter 19) -/
def R.DBGTRACE (o : Nat) : Nat := 0xE01000 + o

end Sys2Proof.Machine
end

