-- ==== Sys2Proof/Machine/SMap.lean ====
section
/-!
DEFINITION. Reading and writing sparse storage in its one canonical form: keys strictly rising, and no entry equal to
what an unlisted key reads as.
-/
namespace Sys2Proof

/-- What key `k` holds; an unlisted key reads as `d k`. -/
def SMap.get {α : Type} (d : Nat → α) : SMap α → Nat → α
  | [], k => d k
  | (j, w) :: t, k => if j = k then w else SMap.get d t k

/-- The map without key `k`. -/
def SMap.erase {α : Type} (m : SMap α) (k : Nat) : SMap α := m.filter (fun e => e.1 != k)

/-- Insert key `k` before the first larger key. -/
def SMap.ins {α : Type} (k : Nat) (v : α) : SMap α → SMap α
  | [] => [(k, v)]
  | (j, w) :: t => if j < k then (j, w) :: SMap.ins k v t else (k, v) :: (j, w) :: t

/-- Store `v` at key `k`. A value equal to what an unlisted key reads as is not listed. -/
def SMap.put {α : Type} [DecidableEq α] (d : Nat → α) (m : SMap α) (k : Nat) (v : α) : SMap α :=
  if v = d k then SMap.erase m k else SMap.ins k v (SMap.erase m k)

/-- The canonical form from a lower bound on: keys at least `lo` and strictly rising, no default entry. -/
def SMap.wfFrom {α : Type} [DecidableEq α] (d : Nat → α) : Nat → SMap α → Bool
  | _, [] => true
  | lo, (j, w) :: t => decide (lo ≤ j) && decide (w ≠ d j) && SMap.wfFrom d (j + 1) t

/-- The canonical form of sparse storage. -/
def SMap.wf {α : Type} [DecidableEq α] (d : Nat → α) (m : SMap α) : Bool := SMap.wfFrom d 0 m

/-- Drop every entry whose key satisfies `p` (those keys read as the default again). -/
def SMap.drop {α : Type} (p : Nat → Bool) (m : SMap α) : SMap α := m.filter (fun e => !p e.1)

/-- Store a run of values at rising keys from `k` on. -/
def SMap.putAll {α : Type} [DecidableEq α] (d : Nat → α) : SMap α → Nat → List α → SMap α
  | m, _, [] => m
  | m, k, v :: t => SMap.putAll d (SMap.put d m k v) (k + 1) t

/-- Read a run of `n` values at rising keys from `k` on. -/
def SMap.getAll {α : Type} (d : Nat → α) (m : SMap α) (k n : Nat) : List α :=
  (List.range n).map (fun i => SMap.get d m (k + i))

end Sys2Proof
end

