-- ==== Sys2Proof/Machine/Sources.lean ====
section
/-!
DEFINITION. The interrupt sources (03 R60 to R62): each source's number, the pages behind it and the IRQ_PEND bits of
those pages that assert it, from the source table of every chapter. A number not listed is never asserted.
-/
namespace Sys2Proof.Machine

/-- Sources 0 to 79. -/
def sources0 : List (Nat × List Nat × Word) := [
  (0, [0x000000], 0x800000#32),
  (4, [0x001000], 0x1#32),
  (5, [0x001000], 0x2#32),
  (8, [0x002000], 0x1#32),
  (9, [0x002000], 0x2#32),
  (10, [0x002000], 0x4#32),
  (12, [0x003000], 0x1#32),
  (13, [0x003000], 0x2#32),
  (14, [0x003000], 0x4#32),
  (16, [0x004000], 0x1#32),
  (17, [0x004000], 0x800000#32),
  (18, [0x004000], 0x2#32),
  (19, [0x004000], 0x4#32),
  (20, [0x005000], 0x1#32),
  (21, [0x005000], 0x2#32),
  (22, [0x005000], 0x4#32),
  (23, [0x005000], 0x8#32),
  (24, [0x008000], 0x1#32),
  (25, [0x008000], 0x2#32),
  (26, [0x009000], 0x1#32),
  (27, [0x009000], 0x2#32),
  (28, [0x00A000], 0x800000#32),
  (30, [0x006000], 0x800000#32),
  (31, [0x007000], 0x800000#32),
  (32, [0x100000], 0x1#32),
  (33, [0x100000], 0x800000#32),
  (40, [0x101000], 0x800000#32),
  (44, [0x102000], 0x1#32),
  (45, [0x102000], 0x2#32),
  (46, [0x102000], 0x4#32),
  (47, [0x102000], 0x8#32),
  (48, [0x102000], 0x800000#32),
  (56, [0x103000], 0x1#32),
  (57, [0x103000], 0x2#32),
  (64, [0x200000], 0x800000#32),
  (65, [0x201000], 0x800000#32),
  (66, [0x202000], 0x800000#32),
  (67, [0x203000], 0x800000#32),
  (69, [0x205000], 0x1#32),
  (70, [0x205000], 0x2#32),
  (72, [0x210000], 0x3#32),
  (73, [0x211000], 0x3#32),
  (74, [0x212000], 0x3#32),
  (75, [0x213000], 0x3#32),
  (76, [0x214000], 0x3#32),
  (77, [0x215000], 0x3#32),
  (78, [0x216000], 0x3#32),
  (79, [0x217000], 0x3#32)]

/-- Sources 80 to 195. -/
def sources1 : List (Nat × List Nat × Word) := [
  (80, [0x218000], 0x3#32),
  (81, [0x219000], 0x3#32),
  (82, [0x21A000], 0x3#32),
  (83, [0x21B000], 0x3#32),
  (84, [0x21C000], 0x3#32),
  (85, [0x21D000], 0x3#32),
  (86, [0x21E000], 0x3#32),
  (87, [0x21F000], 0x3#32),
  (96, [0x300000], 0x1#32),
  (97, [0x300000], 0x2#32),
  (98, [0x300000], 0x4#32),
  (99, [0x300000], 0x800000#32),
  (104, [0x301000], 0x1#32),
  (105, [0x301000], 0x800000#32),
  (108, [0x302000], 0x800000#32),
  (112, [0x303000], 0x1#32),
  (113, [0x303000], 0x2#32),
  (120, [0x304000], 0x1#32),
  (121, [0x304000], 0x800000#32),
  (128, [0x400000], 0x800000#32),
  (136, [0x401000], 0x1#32),
  (137, [0x401000], 0x800000#32),
  (140, [0x402000], 0x1#32),
  (141, [0x402000], 0x2#32),
  (142, [0x402000], 0x800000#32),
  (156, [0x404000], 0x1#32),
  (157, [0x404000], 0x2#32),
  (158, [0x404000], 0x800000#32),
  (160, [0x500000], 0x1#32),
  (161, [0x500000], 0x2#32),
  (162, [0x500000], 0x4#32),
  (163, [0x500000], 0x800000#32),
  (168, [0x501000], 0x1#32),
  (169, [0x501000], 0x2#32),
  (170, [0x501000], 0x800000#32),
  (172, [0x502000], 0x1#32),
  (173, [0x502000], 0x800000#32),
  (180, [0x504000], 0x1#32),
  (181, [0x504000], 0x2#32),
  (182, [0x504000], 0x800000#32),
  (184, [0x505000], 0x1#32),
  (185, [0x505000], 0x800000#32),
  (188, [0x506000], 0x1#32),
  (189, [0x506000], 0x800000#32),
  (192, [0x600000], 0xFFFFFFFF#32),
  (193, [0x601000], 0xFFFFFFFF#32),
  (194, [0x602000], 0xFFFFFFFF#32),
  (195, [0x603000], 0xFFFFFFFF#32)]

/-- Sources 196 to 247. -/
def sources2 : List (Nat × List Nat × Word) := [
  (196, [0x604000], 0xFFFFFFFF#32),
  (197, [0x610000], 0xFFFFFFFF#32),
  (198, [0x611000], 0xFFFFFFFF#32),
  (199, [0x612000], 0xFFFFFFFF#32),
  (200, [0x613000], 0xFFFFFFFF#32),
  (201, [0x614000], 0xFFFFFFFF#32),
  (202, [0x615000], 0xFFFFFFFF#32),
  (203, [0x616000], 0xFFFFFFFF#32),
  (204, [0x617000], 0xFFFFFFFF#32),
  (205, [0x618000], 0xFFFFFFFF#32),
  (206, [0x619000], 0xFFFFFFFF#32),
  (207, [0x61A000], 0xFFFFFFFF#32),
  (208, [0x61B000], 0xFFFFFFFF#32),
  (209, [0x61C000], 0xFFFFFFFF#32),
  (210, [0x61D000], 0xFFFFFFFF#32),
  (211, [0x61E000], 0xFFFFFFFF#32),
  (212, [0x61F000], 0xFFFFFFFF#32),
  (213, [0x620000], 0xFFFFFFFF#32),
  (214, [0x621000], 0xFFFFFFFF#32),
  (215, [0x622000], 0xFFFFFFFF#32),
  (216, [0x623000], 0xFFFFFFFF#32),
  (217, [0x624000], 0xFFFFFFFF#32),
  (218, [0x625000], 0xFFFFFFFF#32),
  (219, [0x626000], 0xFFFFFFFF#32),
  (220, [0x627000], 0xFFFFFFFF#32),
  (221, [0x630000], 0xFFFFFFFF#32),
  (222, [0x631000], 0xFFFFFFFF#32),
  (223, [0x638000], 0xFFFFFFFF#32),
  (224, [0x700000], 0x1#32),
  (225, [0x700000], 0x800000#32),
  (228, [0x701000], 0x1#32),
  (229, [0x701000], 0x800000#32),
  (232, [0x710000], 0xFFFFFFFF#32),
  (233, [0x711000], 0xFFFFFFFF#32),
  (234, [0x712000], 0xFFFFFFFF#32),
  (235, [0x713000], 0xFFFFFFFF#32),
  (236, [0x714000], 0xFFFFFFFF#32),
  (237, [0x715000], 0xFFFFFFFF#32),
  (238, [0x716000], 0xFFFFFFFF#32),
  (239, [0x717000], 0xFFFFFFFF#32),
  (240, [0x718000], 0xFFFFFFFF#32),
  (241, [0x719000], 0xFFFFFFFF#32),
  (242, [0x71A000], 0xFFFFFFFF#32),
  (243, [0x71B000], 0xFFFFFFFF#32),
  (244, [0x71C000], 0xFFFFFFFF#32),
  (245, [0x71D000], 0xFFFFFFFF#32),
  (246, [0x71E000], 0xFFFFFFFF#32),
  (247, [0x71F000], 0xFFFFFFFF#32)]

/-- Sources 248 to 342. -/
def sources3 : List (Nat × List Nat × Word) := [
  (248, [0x720000], 0xFFFFFFFF#32),
  (249, [0x721000], 0xFFFFFFFF#32),
  (250, [0x722000], 0xFFFFFFFF#32),
  (251, [0x723000], 0xFFFFFFFF#32),
  (252, [0x724000], 0xFFFFFFFF#32),
  (253, [0x725000], 0xFFFFFFFF#32),
  (254, [0x726000], 0xFFFFFFFF#32),
  (255, [0x727000], 0xFFFFFFFF#32),
  (256, [0x800000], 0x1#32),
  (257, [0x800000], 0x800000#32),
  (260, [0x801000], 0x1#32),
  (261, [0x801000], 0x2#32),
  (262, [0x801000], 0x4#32),
  (263, [0x801000], 0x8#32),
  (264, [0x801000], 0x10#32),
  (265, [0x801000], 0x20#32),
  (266, [0x801000], 0x40#32),
  (267, [0x801000], 0x80#32),
  (268, [0x801000], 0x100#32),
  (272, [0x810000], 0xFFFFFFFF#32),
  (273, [0x811000], 0xFFFFFFFF#32),
  (274, [0x812000], 0xFFFFFFFF#32),
  (275, [0x813000], 0xFFFFFFFF#32),
  (276, [0x814000], 0xFFFFFFFF#32),
  (277, [0x815000], 0xFFFFFFFF#32),
  (288, [0x900000], 0xFFFFFFFF#32),
  (289, [0x901000], 0xFFFFFFFF#32),
  (290, [0x902000], 0xFFFFFFFF#32),
  (291, [0x903000], 0xFFFFFFFF#32),
  (296, [0x908000], 0xFFFFFFFF#32),
  (297, [0x909000], 0xFFFFFFFF#32),
  (300, [0x90C000], 0xFFFFFFFF#32),
  (320, [0xA00000], 0x1#32),
  (321, [0xA00000], 0x2#32),
  (322, [0xA00000], 0x800000#32),
  (324, [0xA01000], 0xF#32),
  (325, [0xA01000], 0x800000#32),
  (332, [0xA03000], 0x1#32),
  (333, [0xA03000], 0x2#32),
  (334, [0xA03000], 0x4#32),
  (335, [0xA03000], 0x800000#32),
  (336, [0xA04000], 0x1#32),
  (337, [0xA04000], 0x2#32),
  (338, [0xA04000], 0x4#32),
  (339, [0xA04000], 0x800000#32),
  (340, [0xA10000, 0xA11000, 0xA12000, 0xA13000], 0xFFFFFFFF#32),
  (341, [0xA14000, 0xA15000, 0xA16000, 0xA17000], 0xFFFFFFFF#32),
  (342, [0xA18000, 0xA19000, 0xA1A000, 0xA1B000], 0xFFFFFFFF#32)]

/-- Sources 343 to 448. -/
def sources4 : List (Nat × List Nat × Word) := [
  (343, [0xA1C000, 0xA1D000, 0xA1E000, 0xA1F000], 0xFFFFFFFF#32),
  (344, [0xA20000, 0xA21000, 0xA22000, 0xA23000], 0xFFFFFFFF#32),
  (345, [0xA24000, 0xA25000, 0xA26000, 0xA27000], 0xFFFFFFFF#32),
  (346, [0xA28000, 0xA29000, 0xA2A000, 0xA2B000], 0xFFFFFFFF#32),
  (347, [0xA2C000, 0xA2D000, 0xA2E000, 0xA2F000], 0xFFFFFFFF#32),
  (352, [0xB00000], 0xFFFFFFFF#32),
  (353, [0xB01000], 0xFFFFFFFF#32),
  (354, [0xB02000], 0xFFFFFFFF#32),
  (355, [0xB03000], 0xFFFFFFFF#32),
  (356, [0xB04000], 0xFFFFFFFF#32),
  (357, [0xB05000], 0xFFFFFFFF#32),
  (360, [0xB08000], 0xFFFFFFFF#32),
  (361, [0xB09000], 0xFFFFFFFF#32),
  (364, [0xB0C000], 0xFFFFFFFF#32),
  (368, [0xB0D000], 0x1#32),
  (369, [0xB0D000], 0x2#32),
  (370, [0xB0D000], 0x4#32),
  (371, [0xB0D000], 0x800000#32),
  (384, [0xC00000], 0x1#32),
  (388, [0xC01000], 0x1#32),
  (396, [0xC03000], 0x1#32),
  (397, [0xC03000], 0x2#32),
  (398, [0xC03000], 0x4#32),
  (400, [0xC04000], 0x1#32),
  (401, [0xC04000], 0x2#32),
  (416, [0xD00000], 0x1#32),
  (417, [0xD00000], 0x2#32),
  (418, [0xD00000], 0x4#32),
  (419, [0xD00000], 0x800000#32),
  (432, [0xD03000], 0x800000#32),
  (448, [0xE00000], 0x1#32)]

/-- Every source that can be asserted. -/
def sources : List (Nat × List Nat × Word) := sources0 ++ sources1 ++ sources2 ++ sources3 ++ sources4

end Sys2Proof.Machine
end

