-- ==== Sys2Proof/Machine/StateCore.lean ====
section
/-!
DEFINITION. The parts of the state behind the registers of the package, host, job, security and Attic chapters.
Registers themselves live in `State.regs`.
-/
namespace Sys2Proof.Machine

/-- The two variants of the part (00 R1, R2). -/
inductive Variant where
  | g | n
  deriving DecidableEq, Repr

/-- A drain in progress (04 R72): when it was asked for, whether its off edges are out, the MODE_REQ that waits for
it, and whether Cellar entry follows. -/
structure Drain where
  start : DT
  offDone : Bool
  cmd : Option Cmd
  toCellar : Bool
  deriving DecidableEq, Repr

/-- State of the package outside its registers (01, 02, 04). -/
structure Pkg where
  /-- DT counts (from step 2 of the start-up sequence, 04 R75). -/
  dtRun : Bool
  /-- base ticks since the last 1/256 s of operating time (04 R88) -/
  opAcc : Nat
  /-- operating time in 1/256 s -/
  opTicks : Nat
  /-- operating-time checkpoint in MRAM, and whether a flush wrote it -/
  ckpt : Nat
  ckptFlushed : Bool
  /-- power-cycle count in MRAM -/
  pwrCyc : Nat
  /-- WALL_EPOCH in MRAM (02 R35) -/
  wallEpoch : Nat
  /-- lockstep pairs halted (01 R9) -/
  halted : List Bool
  /-- steps of the start-up sequence done (04 R75), 10 at STANDBY -/
  bootStep : Nat
  /-- in CELLAR (no register is readable) -/
  cellar : Bool
  mainEn : Bool
  dramHoldEn : Bool
  /-- the start-up in progress follows a Cellar wake -/
  waking : Bool
  drain : Option Drain
  /-- SAFE was entered and its closing windows still run (04 R82) -/
  safeClosing : Option DT
  /-- the session slot that entered CONFIGURE, and the one that entered SERVICE (04 R71) -/
  cfgSlot : Option (Fin 6)
  svcSlot : Option (Fin 6)
  /-- WAKE pin debounced low (04 R71) -/
  wakeLow : Bool
  /-- WAKE or another wake source active (04 R89) -/
  wakeActive : Bool
  /-- field-die heartbeats seen on FB0, FB1: last DT, and since when without a gap (01 R16 to R18) -/
  beatLast : List (Option DT)
  beatSince : List (Option DT)
  /-- DT carried by the last valid heartbeat the field die received, per bridge (01 R17) -/
  fieldBeat : List DT
  /-- live conditions not shown in a register: field sequencer watchdog expired, dies over temperature -/
  fldWdog : Bool
  hot : List Bool
  /-- TJ_WARN crossing armed, per die (04 R81) -/
  tjArmed : List Bool
  /-- since when all rails are in range (04 R82) -/
  railsSince : Option DT
  /-- PWR_FAIL pending for step 10 of the start-up; when it was acted on, until PF_GRACE or its release (04 R79) -/
  pfBoot : Bool
  pfAt : Option DT
  /-- the configuration store failed its check in step 8 of the start-up (04 R75) -/
  cfgBad : Bool
  /-- reset causes present, one bit each; RESET.CAUSE takes them at power-on release (04 R74) -/
  cause : Nat
  /-- LPDDR4X holds its content: zero-filled or kept since (04 R86, 06 R114) -/
  dramKept : Bool
  deriving DecidableEq, Repr

/-- One master's side of one window (03 R49, R50). -/
structure WinState where
  cursor : Nat
  snap : Option (List Word)
  staged : List (Nat × Word)
  partialBit : Bool
  badIndex : Bool
  /-- where the newest record stood at the CURSOR write, for the windows whose record 0 is the newest one then -/
  anchor : Nat
  deriving DecidableEq, Repr

/-- A message or frame the part sent on a bus: the port's number (CAN0 to CAN5 0 to 5, ETH0 and ETH1 8 and 9, HX0 and
HX1 12 and 13, the field die over FB0 and FB1 16 and 17), a kind and its words. -/
structure OutMsg where
  port : Nat
  kind : Nat
  words : List Word
  deriving DecidableEq, Repr

/-- An Ethernet command connection (05 R96, 19 R411). -/
structure EthConn where
  up : Bool
  role : Option Nat
  estab : Bool
  rxCtr : Option Nat
  deriving DecidableEq, Repr

/-- A command the Porch has taken and not finished (05 R98). -/
structure InProg where
  opcode : Nat
  cmd : Cmd
  deriving DecidableEq, Repr

/-- State of the host interfaces outside their registers (03, 05). -/
structure HostIf where
  wins : SMap WinState
  /-- words captured for a master by a paired read, by MASTER code × 2^24 + register offset (02 R32) -/
  caps : SMap (Option Word)
  /-- the words the newest host read returned -/
  readData : List Word
  /-- completion of the newest BAR2 request: 0 successful, 1 unsupported request, 2 completer abort,
  3 poisoned (05 R92, 06 R115) -/
  bar2 : Nat
  /-- MSI-X messages sent, oldest first (03 R65) -/
  msix : List Nat
  fmask : Bool
  /-- result of the newest quad-SPI frame that is no status read (05 R93) -/
  hspiRes : Nat
  /-- the PCIe link went down and has not returned (05 R95) -/
  linkLost : Bool
  eth : List EthConn
  out : List OutMsg
  inProg : List InProg
  deriving DecidableEq, Repr

/-- What a job slot holds outside its registers (05 R105, R106). -/
structure Job where
  gen : Nat
  prio : Nat
  order : Nat
  notify : Bool
  irq : Bool
  idx : BitVec 10
  params : List Byte
  /-- since when it is in RUNNING, and its time in RUNNING before that -/
  runSince : Option DT
  ran : DT
  suspend : Option Cmd
  cancel : Option Cmd
  /-- DETAIL the cancel in progress gives -/
  cancelDetail : Nat
  /-- work done so far, in the kind's own units, and its measurements and results -/
  step : Nat
  vals : List Int
  buf : List Word
  /-- RESULT words as they stand -/
  res0 : Word
  res1 : Word
  deriving DecidableEq, Repr

/-- An outstanding challenge (19 R410). -/
structure Challenge where
  id : Nat
  slot : Fin 6
  role : Nat
  issued : DT
  deriving DecidableEq, Repr

/-- One slot of the key store (19 R413): class (0 empty, 1 to 3 role keys, 4 FIELD, 5 ETH_IDENTITY) and public key. -/
structure KeySlot where
  cls : Nat
  key : List Byte
  deriving DecidableEq, Repr

/-- State of the security functions outside their registers (19). -/
structure Sec where
  nextSess : Nat
  lastAct : List DT
  chals : List Challenge
  nextChal : Nat
  /-- failed SESSION_OPEN attempts (slot, DT) and locked-until per slot (19 R412) -/
  fails : List (Fin 6 × DT)
  lockUntil : List (Option DT)
  keys : List KeySlot
  cfgLock : Bool
  rmaPermit : Bool
  /-- CERTIFIED_LINE of images A and B; the slot in force before the trial; when the trial reached STANDBY -/
  lineA : Bool
  lineB : Bool
  prevSlot : Nat
  trialSince : Option DT
  /-- a trial ended and its reset is deferred to STANDBY (19 R406) -/
  revertDue : Bool
  /-- audit log, oldest first, its newest SEQ and archive marks (19 R417 to R419) -/
  audit : List (List Word)
  audSeq : Nat
  archSeq : Nat
  audArchived : Bool
  audWarned : Bool
  /-- configuration store (19 R420): register offset to value -/
  store : SMap (Option Word)
  deriving DecidableEq, Repr

/-- The Attic outside its registers (20). -/
structure Attic where
  fifo : List (List Word)
  log : List (List Word)
  tail : List (List Word)
  /-- records written to the tail ring, counted modulo its 256 -/
  tailSeq : Nat
  archived : Nat
  evArchived : Bool
  warned : Bool
  /-- life-statistics shadows, record × 8 + word (20 R437) -/
  life : SMap Word
  /-- the two saved images: save count, validity, content (20 R435) -/
  imgCount : List Nat
  imgOk : List Bool
  images : List (SMap Word)
  lastSaveOp : Nat
  deriving DecidableEq, Repr

end Sys2Proof.Machine
end

