-- ==== Sys2Proof/Machine/StateDrive.lean ====
section
/-!
DEFINITION. The parts of the state behind the metering, outlet drive and motion registers (10, 11, 12).
-/
namespace Sys2Proof.Machine

/-- One totals record with its error-feedback residues in 2^-40 unit (10 R232, R233). -/
structure Totals where
  applied : Nat
  appRes : Int
  metered : Nat
  metRes : Int
  area : Nat
  areaRes : Int
  offRate : Nat
  offRes : Int
  resetAt : Nat
  deriving DecidableEq, Repr

/-- What metering formed for one outlet (10 R222 to R228): v_o, R, the output, rate index and flags of the status
record, and its lead in µs. -/
structure MeterOut where
  v : Nat
  rate : Nat
  out : Nat
  idx : Nat
  fallback : Bool
  clip : Bool
  low : Bool
  susp : Bool
  ovr : Bool
  under : Bool
  lead : Nat
  /-- Q of an ONOFF or DUTY outlet, for the product flow target -/
  q : Nat
  rateSat : Bool
  flowSat : Bool
  deriving DecidableEq, Repr

/-- An entry of a rate log (10 R231): T_G, the rate, and whether it was under or over rate. -/
structure RateEntry where
  tg : DT
  rate : Nat
  off : Bool
  deriving DecidableEq, Repr

/-- State of the metering unit outside its registers (10). Rate tables by 257 × p + entry, nozzle and injector tables by
16 × record + word. -/
structure Meter where
  active : SMap Word
  staged : SMap Word
  nozzle : SMap Word
  injector : SMap Word
  rateReq : List Cmd
  resetReq : List Cmd
  /-- what PLAN formed, and what is published -/
  next : List (Nat × MeterOut)
  out : List (Nat × MeterOut)
  logs : SMap (List RateEntry)
  totals : SMap Totals
  ckpt : SMap Totals
  /-- per product: minute of the newest RATE_SAT and FLOW_SAT event, DT of the newest flow-meter pulse, flow pulses
  counted at the newest frame, whether the pressure was lost -/
  satMin : List (Option Nat)
  flowLast : List (Option DT)
  flowCnt : List Nat
  /-- per product: since when FLOW_TGT is above 0 -/
  tgtSince : List (Option DT)
  deriving DecidableEq, Repr

/-- A pull-in request that waits (11 R249): requested DT, channel, and where it comes from: 0 edge, 1 retry, 2 pulse,
3 closing or recovery, 4 OUT_FORCE. -/
structure Req where
  dt : DT
  ch : Nat
  src : Nat
  deriving DecidableEq, Repr

/-- A PWM-nozzle pulse train (11 R244). -/
structure Train where
  /-- start of the next pulse -/
  next : DT
  /-- on-time of the pulse in progress, µs, and its start -/
  tOn : Nat
  start : DT
  /-- pulses wait for the metering unit -/
  susp : Bool
  /-- the next opening opens the on-period -/
  first : Bool
  /-- closing of the newest pulse of the on-period: its DT, ESTIMATED or not -/
  lastClose : Option (DT × Bool)
  deriving DecidableEq, Repr

/-- A closing window (12 R266, R270): DECAY entry, off-delay published for the band in use, band and off-delay published
for it at the entry, SENSE entry, span, rate flag. -/
structure Closing where
  decay : DT
  d : Nat
  band : Nat
  est : Nat
  sense : Option DT
  span : Option DT
  low : Bool
  deriving DecidableEq, Repr

/-- Which outlet an actuation belongs to, the table generation of its edge, whether an edge awaits its confirmation. -/
structure Owner where
  id : Nat
  gen : Nat
  edge : Bool
  deriving DecidableEq, Repr

/-- An outlet channel outside its registers (11). -/
structure Chan where
  since : DT
  peaked : Bool
  /-- outlet of the actuation; its opening in progress: PULL_IN entry, band, published on-delay -/
  own : Option Owner
  opening : Option (DT × Nat × Nat)
  /-- close in progress: its outlet and its window -/
  closeOwn : Option Owner
  closing : Option Closing
  train : Option Train
  /-- on edge that executed while the region was CLOSING and is not confirmed (11 R247) -/
  held : Option Owner
  /-- SHORT_GND tests in a row, tests since CROSS_SUSPECT, fault episodes written -/
  sgRun : Nat
  crossOk : Nat
  episodes : Nat
  lastPull : Option DT
  /-- OUT_FORCE pulse end, and its command while the region closes -/
  forceEnd : Option DT
  force : Option Cmd
  forcePulse : Nat
  deriving DecidableEq, Repr

/-- A boost channel outside its registers (11 R257, R258). -/
structure Boost where
  since : DT
  own : Option Owner
  waitSince : Option DT
  shotEnd : Option DT
  /-- OUT_FORCE: the command until the state changes, its pulse length in ms, the end of the pulse -/
  force : Option Cmd
  forcePulse : Nat
  forceEnd : Option DT
  deriving DecidableEq, Repr

/-- A region outside its registers (11 R247 to R252). -/
structure Region where
  since : DT
  /-- dissipation estimate in µW, energy of the closes since the newest estimate in nJ, since when below 90 % -/
  p : Nat
  energy : Nat
  coolSince : Option DT
  volts : List Nat
  band : Nat
  /-- opened by REGION_CTRL or SG_OPEN: stays OPEN until REGION_CTRL closes it -/
  held : Bool
  cmd : Option Cmd
  forcedSec : Option Nat
  thermalLim : Bool
  deriving DecidableEq, Repr

/-- State of the outlet drive outside its registers (11). -/
structure Drive where
  chans : List Chan
  boost : List Boost
  regions : List Region
  waits : List Req
  /-- per bank: end of its last peak -/
  bankEnd : List (Option DT)
  vbstOff : Bool
  /-- clusters over temperature (11 R255) -/
  clHot : List Bool
  /-- regions still to close on entry to OPERATE or SERVICE, and when the next may (11 R248) -/
  closeSeq : List Nat
  closeAt : DT
  deriving DecidableEq, Repr

/-- One direction of the learner (12 R273). -/
structure LearnDir where
  oob : Nat
  inb : Nat
  run : List Nat
  nores : Nat
  suspect : Bool
  cause : Nat
  deriving DecidableEq, Repr

/-- Learned state of an outlet (12 R272): L of band b, on at 2 b and off at 2 b + 1, Q24.8 µs. -/
structure Learn where
  l : List Nat
  on : LearnDir
  off : LearnDir
  reseeds : Nat
  rejects : Nat
  deriving DecidableEq, Repr

/-- A motion result on its way to the logic die (12 R269). -/
structure MotRes where
  close : Bool
  low : Bool
  chop : Bool
  band : Nat
  ch : Nat
  delay : Nat
  dt : DT
  field : Nat
  peak : Nat
  own : Option Owner
  /-- confirms the on-period's open or close (LOCAL_PWM: first opening, last closing) -/
  confirms : Bool
  deriving DecidableEq, Repr

/-- State of motion detection and learning outside its registers (12). -/
structure Motion where
  learn : SMap Learn
  fifo : List (List MotRes)
  /-- results landed since the newest frame boundary, in order, with their place in `results` -/
  landed : List (Nat × MotRes)
  seq : Nat
  results : List (Nat × List Word)
  resetReq : List Cmd
  deriving DecidableEq, Repr

end Sys2Proof.Machine
end

