-- ==== Sys2Proof/Machine/StateIo.lean ====
section
/-!
DEFINITION. The parts of the state behind the PWM, field input and output, control-engine, GNSS, positioning and bus
registers (13 to 18).
-/
namespace Sys2Proof.Machine

/-! ## PWM generator (14) -/

/-- A change still to come in a channel's running period: its step position, the level the outputs follow from it (none:
a dropped pulse, which changes no output), and whether S becomes inactive there (14 R304 to R307, R314). -/
structure PwmEdge where
  pos : Nat
  lvl : Option Bool
  cmp : Bool
  deriving DecidableEq, Repr

/-- One output: what drives its pin (0 inactive, 1 active, 2 low, 3 high, 4 high impedance), since when it is off, and
the turn-on that waits for its dead time (14 R306, R308). -/
structure PwmPin where
  drive : Nat
  off : DT
  due : Option DT
  deriving DecidableEq, Repr

/-- A PWM channel outside its registers (14 R304 to R314). -/
structure PwmCh where
  /-- row of R308 in force; the output enable a MOTOR outlet's edges set -/
  row : Nat
  oe : Bool
  /-- level the outputs follow in the waveform, and since when -/
  lvl : Bool
  since : DT
  edges : List PwmEdge
  /-- steps by which a stretched pulse of B runs into the next period -/
  carry : Nat
  /-- level of S itself -/
  sig : Bool
  a : PwmPin
  b : PwmPin
  /-- counts of the prescalers of ZERO, PERIOD and CMP -/
  nZero : Nat
  nPer : Nat
  nCmp : Nat
  /-- a duty the control engine wrote waits for the zero -/
  engine : Bool
  deriving DecidableEq, Repr

/-- A PWM cluster outside its registers (14 R302, R311, R315). -/
structure PwmCl where
  /-- newest zero; PERIOD counted in this period; sync pulse sent in this period -/
  zero : DT
  perDone : Bool
  syncSent : Bool
  /-- when ARM landed -/
  armAt : Option DT
  /-- zero set by a sync; the newest sync or loss -/
  syncAt : Option DT
  syncSeen : DT
  /-- compare registers written since the previous transfer -/
  written : List Nat
  deriving DecidableEq, Repr

/-- A trip input outside its registers (14 R317): end of its blanking window, and whether the episode's first edge is
captured. -/
structure PwmTrip where
  blank : Option DT
  captured : Bool
  deriving DecidableEq, Repr

/-- State of the PWM generator outside its registers. `work` holds the working registers by the offset of their shadow
(14 R311); `latch` the pad-ring latches (14 R310); `coarse` that the newest calibration failed (14 R303); `held` since
when the island's clock stands (14 R302). -/
structure Pwm where
  chans : List PwmCh
  clusters : List PwmCl
  trips : List PwmTrip
  work : SMap Word
  latch : List Word
  coarse : Bool
  held : Option DT
  /-- end of the newest pulse on PWM_SYNCO (14 R316) -/
  synco : DT
  deriving DecidableEq, Repr

/-! ## Field inputs and outputs (15) -/

/-- A DIO pin outside its registers (15 R327, R328): since when it is in its STATE, and the fault episodes written. -/
structure DioPin where
  since : DT
  episodes : Nat
  deriving DecidableEq, Repr

/-- An analog input outside its registers (15 R331, R332): conversions still to discard, live conditions by U_FLT bit,
runs of conversions at and below full scale, below and above 3.6 mA, when the burden was disconnected, episodes. -/
structure AinCh where
  skip : Nat
  cond : Nat
  ovr : Nat
  overOk : Nat
  under : Nat
  underOk : Nat
  cut : Option DT
  episodes : Nat
  deriving DecidableEq, Repr

/-- A frequency input outside its registers (15 R333, R334): start of its gate, first and last rising edge and count of
the gate, and the newest rising edge. -/
structure FinCh where
  gate : DT
  first : DT
  last : DT
  n : Nat
  newest : Option DT
  deriving DecidableEq, Repr

/-- State of the field inputs and outputs outside their registers (15): pins that wait for their turn-on after VIO_x
recovered (15 R329), and until when a quadrature pair reads invalid (15 R335). -/
structure Fio where
  pins : List DioPin
  stagger : List (Nat × DT)
  ain : List AinCh
  fin : List FinCh
  quadBad : List (Option DT)
  deriving DecidableEq, Repr

/-! ## Control engine (13) -/

/-- A block-floating vector (13 R287): element j is m_j × 2^(e − 23). -/
structure BF where
  e : Int
  m : List Int
  deriving DecidableEq, Repr

/-- Extremes over a freeze sub-window: of the measurement (in 2^-151) and of the raw output (13 R297). -/
structure SubWin where
  loY : Int
  hiY : Int
  loU : Int
  hiU : Int
  deriving DecidableEq, Repr

/-- A loop slot outside its registers (13). -/
structure LoopSt where
  /-- newest sample DT taken, or when the loop left OFF -/
  last : DT
  /-- LOOP_MODE commands to complete at the next sample, with their mode -/
  cmds : List (Cmd × Nat)
  /-- per input: last good value as an exact raw value, samples it was bad, and good, in a row -/
  good : List Int
  bad : List Nat
  okN : List Nat
  /-- live conditions: inputs lost (bit 4: state error), channels in FE, channels in FREEZE -/
  loss : Nat
  fe : Nat
  frz : Nat
  /-- per channel: first sample with a following error too large -/
  feSince : List (Option DT)
  /-- AUTO entry; samples in the running sub-window; per channel the running and the complete sub-windows -/
  autoAt : DT
  cnt : Nat
  cur : List (Option SubWin)
  subs : List (List SubWin)
  /-- the next evaluation in AUTO presets the integral states -/
  preset : Bool
  /-- the output before that evaluation was a manual one: it is the observer's u -/
  uMan : Bool
  /-- conditions that caused HOLD (1 FE, 2 LOSS, 4 FREEZE), and since when they are clear -/
  cause : Nat
  clear : Option DT
  /-- error e and LUT gain g of the newest evaluation, for the trace -/
  err : BF
  gain : BF
  deriving DecidableEq, Repr

/-- State of the control engine outside its registers (13): samples that wait for their evaluation, publication times of
sources by code × 4096 + index, and the trace RAM: samples held, oldest first, samples still to take, value of the
compared probe and event bits at the newest sample (13 R299). -/
structure Ctl where
  loops : List LoopSt
  queue : List (DT × Nat)
  pub : SMap DT
  trace : List (List Word)
  post : Nat
  prev : Option Int
  events : Nat
  deriving DecidableEq, Repr

/-! ## GNSS baseband (16) -/

/-- A tracking channel outside its registers (16 R342 to R348): working frequency, rate and T_COH, carrier phase since START
in 2^-32 cycle and at START, code phase in 2^-32 chip, secondary index, first sample of the running interval, whether an update
landed and when, whether a gap or an update marks the next dump, buffers held, when ARMED becomes RUN. -/
structure GChan where
  freq : Int
  rate : Nat
  coh : Nat
  carr : Int
  code : Nat
  sec : Nat
  n0 : Nat
  upd : Option DT
  gap : Bool
  applied : Bool
  bufs : Nat
  startAt : DT
  deriving DecidableEq, Repr

/-- A kept peak of a search: metric, bin, code cell, capture DT (16 R352). -/
structure Peak where
  metric : Nat
  bin : Int
  cell : Nat
  cap : DT
  deriving DecidableEq, Repr

/-- A search context outside its registers (16 R351 to R353). -/
structure GCtx where
  job : Option Nat
  nsum : Nat
  centre : Int
  span : Nat
  chain : Nat
  tenfold : Bool
  cap : DT
  /-- block of the running bin -/
  block : Nat
  peaks : List Peak
  deriving DecidableEq, Repr

/-- State of the GNSS baseband outside its registers (16). -/
structure Gnss where
  chans : SMap GChan
  ctx : List GCtx
  /-- the sample link carries frames; it has carried some since the RF die's release -/
  link : Bool
  seen : Bool
  /-- per chain: absent since -/
  gone : List (Option DT)
  /-- per antenna: retries since power-on, when the bias was cut -/
  retries : List Nat
  cut : List (Option DT)
  deriving DecidableEq, Repr

/-! ## Positioning and time pulses (17) -/

/-- A time pulse's pin (17 R364 to R366): sequence, configuration before the newest write and the GNSS second from which the
register's is in force, first instant allowed, the pulse announced (its instant in GNSS ns, T_actual, omitted), the end of
the pulse in progress. -/
structure TimePin where
  seq : Nat
  cfg : Word
  chg : Int
  first : Int
  next : Option (Int × DT × Bool)
  stop : Option DT
  deriving DecidableEq, Repr

/-- State of the positioning service outside its registers (17). -/
structure Posn where
  pins : List TimePin
  /-- newest timing solution; error still to slew, in ns; step found and the second it acts at -/
  timing : Option DT
  slew : Int
  step : Int
  stepAt : Int
  /-- uncertainty at the loss, the newest timing solution then, when HOLDOVER began -/
  u0 : Nat
  lossAt : DT
  holdAt : DT
  leap : Option Int
  /-- corrections: bytes of a split frame and their feed, newest complete MSM epoch, its age reported, base station, ambiguities reset -/
  rtcm : List Byte
  rtcmSrc : Nat
  corr : Option DT
  corrLost : Bool
  base : Option (Nat × Int × Int × Int)
  float : Bool
  /-- epochs in a row with a wrong baseline -/
  baseBad : Nat
  deriving DecidableEq, Repr

/-! ## Buses and the Hexyon ring (18) -/

/-- A CAN frame of CAN_TX that waits to be sent (18 R374): bus, command, identifier word, DLC, data words. -/
structure CanTx where
  bus : Nat
  cmd : Cmd
  words : List Word
  deriving DecidableEq, Repr

/-- What a node's newest beacon said (18 R387): flags byte, its PRESENT, membership epoch, hops, generation, FIELD_KEY. -/
structure Beacon where
  flags : BitVec 8
  present : Nat
  epoch : Nat
  hops : Nat
  gen : Nat
  key : Word
  deriving DecidableEq, Repr

/-- What is known of a node of the ring: newest frame, newest beacon, per frame type the sequences kept. -/
structure Node where
  seen : Option DT
  beacon : Option Beacon
  seqs : List (List Nat)
  deriving DecidableEq, Repr

/-- A Hexyon port (18 R387, R390): newest direct beacon's DT, sequence and hops, the own DT of the beacons sent (newest
first, with their sequence), the own DT of the neighbour's previous beacon. -/
structure HxPort where
  last : Option DT
  nbSeq : Nat
  nbHops : Nat
  sent : List (Nat × DT)
  deriving DecidableEq, Repr

/-- State of the buses outside their registers (18). -/
structure Comm where
  tx : List CanTx
  /-- a task-controller server is present, per bus (R376) -/
  tcUp : Bool
  /-- 802.1AS time of each port: DT, ns at it, Sync interval (R382) -/
  ptp : List (Option (DT × Int × DT))
  nodes : List Node
  ports : List HxPort
  /-- next origin sequence per frame type -/
  seqs : List Nat
  /-- newest beacon with MASTER = 1, or since when the ring is listened to -/
  masterAt : Option DT
  /-- the membership mask the epoch counts -/
  mask : Nat
  /-- offsets of the last 64 beacons: own DT and DT − SYST -/
  offs : List (DT × Int)
  /-- a master of another partition was met; the error still to slew -/
  merge : Bool
  slew : Int
  /-- since when every EXPECT node is present without SAFE_NOTICE and PWM_SYNCI is locked (R395) -/
  hbOk : Option DT
  /-- next sequence of each remote record's commands, and the DT of an outlet's newest SPEED command (R378, 10 R225) -/
  remSeq : SMap Nat
  remAt : SMap DT
  deriving DecidableEq, Repr

end Sys2Proof.Machine
end

