-- ==== Sys2Proof/Machine/StateMem.lean ====
section
/-!
DEFINITION. The parts of the state behind the memory unit's registers (06): TLB, Pantry slots, DMA channels, fault log.
-/
namespace Sys2Proof.Machine

/-- A cached translation (06 R118, R119, R122): context, first IOVA and size it covers, page address, permissions. -/
structure TlbEntry where
  ctx : Nat
  iova : Nat
  size : Nat
  addr : Nat
  rd : Bool
  wr : Bool
  deriving DecidableEq, Repr

/-- States of a Pantry slot (06 R124). -/
inductive SlotState where
  | free | filling | clean | dirty | writeback
  deriving DecidableEq, Repr

/-- A tile's coordinates in the field frame (08). -/
structure Tile where
  x : Int
  y : Int
  deriving DecidableEq, Repr

/-- One Pantry slot (06 R124, R125). Its 36 KB lie in `State.mem` at the slot's Pantry address. -/
structure PantrySlot where
  st : SlotState
  tile : Tile
  probePin : Bool
  retirePin : Bool
  redirty : Bool
  /-- DT of the retire write that made it DIRTY (DIRTY_AGE) -/
  dirtySince : DT
  /-- order of its newest reference -/
  lastRef : Nat
  /-- the fill in flight belongs to the old field and is discarded (06 R127) -/
  discard : Bool
  /-- cells retired into it since its last write-back -/
  cellsSince : Nat
  deriving DecidableEq, Repr

/-- A queued tile fill (06 R125). -/
structure Fill where
  tile : Tile
  demand : Bool
  /-- the slot it was given; none while it waits for one -/
  slot : Option Nat
  deriving DecidableEq, Repr

/-- Memory-unit state outside its registers. -/
structure MemUnit where
  tlb : List TlbEntry
  slots : List PantrySlot
  refCtr : Nat
  /-- fills that wait for a slot or for DMA15, first served first -/
  fillQ : List Fill
  /-- slot DMA15 is filling -/
  fillNow : Option Nat
  /-- slots whose write-back DMA14 holds, first served first -/
  wbQ : List Nat
  /-- per DMA channel: the eight words of the descriptor in progress; empty while CUR_DESC is not valid -/
  desc : List (List Word)
  xflog : List (List Word)
  /-- corrections counted within the last hour: page (0 SRAM, 1 MRAM, 2 LPDDR) and operating second (06 R113) -/
  ceLog : List (Nat × Nat)
  deriving DecidableEq, Repr

end Sys2Proof.Machine
end

