-- ==== Sys2Proof/Machine/StateLook.lean ====
section
/-!
DEFINITION. The parts of the state behind the pose, raster and look-ahead registers (07, 08, 09).
-/
namespace Sys2Proof.Machine

/-- A body pose of the predictor: position in 2^-16 mm, heading in 2^-32 turn (07 R150). -/
structure Body where
  e : Int
  n : Int
  h : Nat
  deriving DecidableEq, Repr

/-- One sample of a predicted trajectory (07 R151): its DT, the three bodies, the axis position (along-track mm or shaft
angle), speed and yaw rate. -/
structure Sample where
  t : DT
  body : List Body
  axis : Int
  v : Int
  w : Int
  deriving DecidableEq, Repr

/-- State of the pose service outside its registers (07). The fused pose itself is LAST_POSE0 to LAST_POSE9. -/
structure Pose where
  /-- newest qualifying measurement of the active source, and the DT the pose entered its STATE -/
  lastQual : Option DT
  stateSince : DT
  /-- per source code 0 to 3: newest qualifying measurement, and since when it has come without a gap (07 R138) -/
  srcLast : List (Option DT)
  srcRun : List (Option DT)
  /-- accepted host records that wait, oldest first, and the newest accepted DT (07 R140) -/
  hostQ : List (List Word)
  hostNewest : Option DT
  /-- fused states by their instant, newest first, kept for the history's interpolation (07 R155) -/
  fusedLog : List (List Word)
  /-- the two newest qualifying positions and headings (DT, E, N, heading) (07 R146) -/
  meas : List (DT × Int × Int × Nat)
  /-- epoch causes met since the newest frame boundary (07 R154) -/
  causes : Nat
  /-- estimated hitch angles (07 R148) -/
  est1 : Nat
  est2 : Nat
  imuLast : Option DT
  imuRun : Nat
  stillSince : Option DT
  gyro : List Int
  accel : List Int
  /-- history ring: entries held, next slot, next boundary to write, first boundary (07 R155, R156) -/
  histN : Nat
  histHead : Nat
  histNext : DT
  histStart : DT
  /-- Cellar stays the ring survived, newest first: first boundary after the wake, next boundary before it (07 R160) -/
  histGaps : List (DT × DT)
  /-- odometry: along-track position in 2^-16 µm, slew still to apply in µm, newest count's DT, shaft angle and speed,
  count since the index, index found, index consistent (07 R157, R158) -/
  odoS : Int
  odoSlew : Int
  odoLast : Option DT
  theta : Nat
  omega : Int
  idxCount : Int
  idxSeen : Bool
  idxOk : Bool
  fixSeen : Bool
  /-- parts of an NMEA 2000 measurement: position (DT, E, N), speed and course (DT, µm/s, course), the course before
  (07 R141, 18 R380) -/
  n2kPos : Option (DT × Int × Int)
  n2kSpd : Option (DT × Int × Nat)
  n2kPrev : Option (DT × Int × Nat)
  /-- newest PGN 129029: DT, FIX, HDOP in hundredths, U; newest true heading (18 R379) -/
  n2kGnss : Option (DT × Nat × Nat × Int)
  n2kHdg : Option (DT × Nat)
  /-- since when sensed and estimated hitch angles differ by more than HITCH_TOL -/
  hitchDiff : List (Option DT)
  /-- the frame's trajectory and the epoch's reference trajectory (07 R151, R153) -/
  traj : List Sample
  ref : List Sample
  /-- what PREDICT of the running frame forms; it is published when its window ends -/
  newTraj : List Sample
  deriving DecidableEq, Repr

/-- A probe result of one outlet at one sample (08 R178 to R180). -/
structure ProbeRes where
  nTotal : Nat
  nCov : Nat
  nBad : Nat
  headland : Bool
  bnd : Bool
  cov : Bool
  missing : Bool
  fellBack : Bool
  /-- rate indices of P0 to P3; 256 names the product's default rate -/
  rx : List Nat
  /-- cell tests it took (08 R182) -/
  cand : Nat
  deriving DecidableEq, Repr

/-- A refined change of one outlet (08 R181): what changed (0 boundary wish, 1 coverage wish, 2 wish, 3 rate indices),
the new result, T_LO and T_HI in µs after F. -/
structure Change where
  what : Nat
  k : Nat
  lo : Int
  hi : Int
  res : ProbeRes
  deriving DecidableEq, Repr

/-- All probe results of one outlet in a frame. -/
structure OutletProbe where
  id : Nat
  res : List ProbeRes
  changes : List Change
  deriving DecidableEq, Repr

/-- A tile's absence episode (08 R185). -/
structure Absence where
  tile : Tile
  since : DT
  fell : Bool
  deriving DecidableEq, Repr

/-- State of the raster and the probe outside their registers (08). -/
structure Rast where
  /-- field generation counter (08 R189), and the identity words of each generation the backlog may name -/
  genCtr : Nat
  ids : List (Nat × List Word)
  /-- per slot: prescription damage mask, and whether a prefetch filled it -/
  damage : SMap Nat
  prefetched : List Nat
  absent : List Absence
  lastRx : SMap (List Nat)
  probes : List OutletProbe
  /-- first UNPROBED sample of the frame (08 R183) -/
  trunc : Option Nat
  diag : List (List Word)
  deriving DecidableEq, Repr

/-- A committed edge in an outlet's queue (09 R203, R217): direction, source code, pose epoch, table generation,
execution DT and the edge time it was planned for; kind and target it was committed for; landed on the field die. -/
structure Edge where
  on : Bool
  src : Nat
  epoch : Nat
  gen : Nat
  exec : DT
  te : DT
  kind : Nat
  target : Nat
  landed : Bool
  deriving DecidableEq, Repr

/-- An outlet's side of the pipeline (09 R217 EDGEQ). -/
structure OutletQ where
  edges : List Edge
  newest : Bool
  newestExec : Option DT
  confirmed : Bool
  missed : Nat
  late : Nat
  deriving DecidableEq, Repr

/-- A planned edge (09 R198, R199): outlet, direction, time T_E as a DT, source code. -/
structure Planned where
  id : Nat
  on : Bool
  te : Int
  src : Nat
  deriving DecidableEq, Repr

/-- An executed edge whose confirmation has not arrived (01 R15). -/
structure Awaiting where
  id : Nat
  on : Bool
  exec : DT
  due : DT
  gen : Nat
  /-- outlet kind; 6 for a REMOTE outlet whose module reports, with the sequence its command carried (18 R378) -/
  kind : Nat
  seq : Nat
  deriving DecidableEq, Repr

/-- An on-period of an outlet, an OPEN entry of the backlog (09 R210, R213). -/
structure OnPeriod where
  id : Nat
  openDt : DT
  estOpen : Bool
  gen : Nat
  fieldGen : Nat
  segStart : DT
  reversed : Bool
  first : Bool
  close : Option (DT × Bool)
  dropped : Bool
  /-- speed at the newest valid history entry used, µm/s -/
  lastV : Nat
  deriving DecidableEq, Repr

/-- A SEG entry of the backlog: a retire record that waits for its tiles (09 R213). -/
structure Seg where
  words : List Word
  fieldGen : Nat
  deriving DecidableEq, Repr

/-- State of the look-ahead pipeline outside its registers (09). A table set is kept by word: outlet `id` at
16 × id + w, section `s` at 0x4000 + s, remote record `r` at 0x5000 + 4 × r + w. -/
structure Look where
  active : SMap Word
  staged : SMap Word
  /-- captured by an OUTLET_SWITCH that has not acted, with its command -/
  captured : Option (SMap Word × Cmd)
  /-- the held geometry of the previous generation -/
  old : SMap Word
  oldGen : Nat
  queues : SMap OutletQ
  planned : List Planned
  /-- what PLAN of the running frame formed; it replaces the plan at the commit point -/
  newPlan : List Planned
  /-- the plan belongs to the present epoch and its frame completed -/
  planEpoch : Nat
  planDone : Bool
  /-- completed frames since a stall -/
  goodFrames : Nat
  awaiting : List Awaiting
  opens : List OnPeriod
  segs : List Seg
  /-- sections' wishes from a task controller, and the DT each holds from (09 R209) -/
  secWish : List (Bool × DT)
  recSeq : Nat
  /-- per cause of lost area: the second of its newest event record -/
  lostSec : List (Option Nat)
  /-- the frame boundary of the running frame, and the stages it completed -/
  frame : DT
  stage : Nat
  /-- per section: on and off delay last reported to the task controller, ms, and when (12 R276) -/
  tcDelay : List (Nat × Nat × Nat × DT)
  deriving DecidableEq, Repr

end Sys2Proof.Machine
end

