-- ==== Sys2Proof/Machine/State.lean ====
section
/-!
DEFINITION. The state of the block, its faults and refusals, and the state after reset.
-/
namespace Sys2Proof.Machine

/-- The whole state. Registers that software sees live in `regs` by their 24-bit offset (03 R39); an offset that is not
listed holds its reset value. `mem` is the 40-bit physical address space (06 R112); a byte not listed reads 0 (log 4). -/
structure State where
  variant : Variant
  /-- device time (02 R28) -/
  dt : DT
  regs : SMap Word
  mem : SMap Byte
  pkg : Pkg
  host : HostIf
  jobs : List Job
  mu : MemUnit
  sec : Sec
  attic : Attic
  pose : Pose
  rast : Rast
  look : Look
  meter : Meter
  drive : Drive
  motion : Motion
  pwm : Pwm
  fio : Fio
  ctl : Ctl
  gnss : Gnss
  posn : Posn
  comm : Comm
  /-- the model's own counter of free values taken (log 5) -/
  freeCtr : Nat
  /-- commands waiting, first in first out -/
  pending : List Instr
  deriving DecidableEq, Repr

/-- Faults of a step. The block has none: every error the spec describes is the command's effect on the state. -/
inductive Fault where
  /-- No command raises it. -/
  | none
  deriving DecidableEq, Repr

/-- Refusals of a step. -/
inductive Refusal where
  /-- Raised by an arm of `exec` whose command has no meaning yet. Safe: the model stops. -/
  | notModelled (mnemonic : String)
  deriving DecidableEq, Repr

/-- Package state at the power-on reset (04 R74, R75): step 0 of the start-up sequence. -/
def Pkg.reset : Pkg :=
  { dtRun := false, opAcc := 0, opTicks := 0, ckpt := 0, ckptFlushed := false, pwrCyc := 0, wallEpoch := 0,
    halted := [false, false], bootStep := 0, cellar := false, mainEn := true, dramHoldEn := true, waking := false,
    drain := .none, safeClosing := .none, cfgSlot := .none, svcSlot := .none, wakeLow := false, wakeActive := false,
    beatLast := [.none, .none], beatSince := [.none, .none], fieldBeat := [0, 0], fldWdog := false,
    hot := [false, false, false], tjArmed := [true, true, true], railsSince := .none, pfBoot := false, pfAt := .none,
    cfgBad := false, cause := 1,
    dramKept := false }

/-- Host-interface state after reset. -/
def HostIf.reset : HostIf :=
  { wins := [], caps := [], readData := [], bar2 := 0, msix := [], fmask := false, hspiRes := 0, linkLost := false,
    eth := List.replicate 4 ⟨false, .none, false, .none⟩, out := [], inProg := [] }

/-- A free job slot (05 R110). -/
def Job.reset : Job :=
  { gen := 0, prio := 0, order := 0, notify := false, irq := false, idx := 0, params := [], runSince := .none,
    ran := 0, suspend := .none, cancel := .none, cancelDetail := 0, step := 0, vals := [], buf := [], res0 := 0,
    res1 := 0 }

/-- A FREE Pantry slot (06 R124). -/
def PantrySlot.reset : PantrySlot :=
  { st := .free, tile := ⟨0, 0⟩, probePin := false, retirePin := false, redirty := false, dirtySince := 0,
    lastRef := 0, discard := false, cellsSince := 0 }

/-- Memory-unit state after reset (06): every slot FREE, every channel IDLE, nothing cached. -/
def MemUnit.reset : MemUnit :=
  { tlb := [], slots := List.replicate 112 PantrySlot.reset, refCtr := 0, fillQ := [], fillNow := .none, wbQ := [],
    desc := List.replicate 16 [], xflog := [], ceLog := [] }

/-- Security state after reset (19): MRAM contents the spec gives no value for are empty (log 2). -/
def Sec.reset : Sec :=
  { nextSess := 1, lastAct := List.replicate 6 0, chals := [], nextChal := 1, fails := [],
    lockUntil := List.replicate 6 .none, keys := List.replicate 16 ⟨0, []⟩, cfgLock := false, rmaPermit := false,
    lineA := false, lineB := false, prevSlot := 0, trialSince := .none, revertDue := false, audit := [], audSeq := 0,
    archSeq := 0, audArchived := false, audWarned := false, store := [] }

/-- Attic state after reset (20). -/
def Attic.reset : Attic :=
  { fifo := [], log := [], tail := [], tailSeq := 0, archived := 0, evArchived := false, warned := false, life := [],
    imgCount := [0, 0], imgOk := [false, false], images := [[], []], lastSaveOp := 0 }

/-- Pose state after reset (07 R160): INVALID, no measurement, an empty history ring. -/
def Pose.reset : Pose :=
  { lastQual := .none, stateSince := 0, srcLast := List.replicate 4 .none, srcRun := List.replicate 4 .none,
    hostQ := [], hostNewest := .none, fusedLog := [], meas := [], causes := 0, est1 := 0, est2 := 0, imuLast := .none,
    imuRun := 0, stillSince := .none, gyro := [0, 0, 0], accel := [0, 0, 0], histN := 0, histHead := 0, histNext := 0,
    histStart := 0, histGaps := [], odoS := 0, odoSlew := 0, odoLast := .none, theta := 0, omega := 0, idxCount := 0, idxSeen := false,
    idxOk := false, fixSeen := false, n2kPos := .none, n2kSpd := .none, n2kPrev := .none,
    n2kGnss := .none, n2kHdg := .none, hitchDiff := [.none, .none], traj := [], ref := [], newTraj := [] }

/-- Raster state after reset (08 R189): no field. -/
def Rast.reset : Rast :=
  { genCtr := 0, ids := [], damage := [], prefetched := [], absent := [], lastRx := [], probes := [], trunc := .none,
    diag := [] }

/-- Pipeline state after reset (09 R218): queues empty, nothing planned, both table sets at their reset records. -/
def Look.reset : Look :=
  { active := [], staged := [], captured := .none, old := [], oldGen := 0, queues := [], planned := [], newPlan := [], planEpoch := 0,
    planDone := false, goodFrames := 0, awaiting := [], opens := [], segs := [],
    secWish := List.replicate 64 (false, 0), recSeq := 0, lostSec := List.replicate 4 .none, frame := 0, stage := 0,
    tcDelay := [] }

/-- Metering state after reset (10 R239). -/
def Meter.reset : Meter :=
  { active := [], staged := [], nozzle := [], injector := [], rateReq := [], resetReq := [], next := [], out := [],
    logs := [], totals := [], ckpt := [], satMin := List.replicate 8 .none, flowLast := List.replicate 4 .none,
    flowCnt := List.replicate 4 0, tgtSince := List.replicate 4 .none }

/-- An outlet channel that is OFF (11 R263). -/
def Chan.reset : Chan :=
  { since := 0, peaked := false, own := .none, opening := .none, closeOwn := .none, closing := .none, train := .none,
    held := .none, sgRun := 0, crossOk := 0, episodes := 0, lastPull := .none, forceEnd := .none, force := .none,
    forcePulse := 0 }

/-- A boost channel that is OFF. -/
def Boost.reset : Boost :=
  { since := 0, own := .none, waitSince := .none, shotEnd := .none, force := .none, forcePulse := 0, forceEnd := .none }

/-- A region that is OPEN. -/
def Region.reset : Region :=
  { since := 0, p := 0, energy := 0, coolSince := .none, volts := [], band := 0, held := false, cmd := .none,
    forcedSec := .none, thermalLim := false }

/-- Outlet-drive state after reset (11 R263). -/
def Drive.reset : Drive :=
  { chans := List.replicate 192 Chan.reset, boost := List.replicate 8 Boost.reset,
    regions := List.replicate 4 Region.reset, waits := [], bankEnd := [.none, .none], vbstOff := false,
    clHot := List.replicate 24 false, closeSeq := [], closeAt := 0 }

/-- A learner direction with nothing learned. -/
def LearnDir.reset : LearnDir := { oob := 0, inb := 0, run := [], nores := 0, suspect := false, cause := 0 }

/-- An outlet with nothing learned (12 R272, R279). -/
def Learn.reset : Learn :=
  { l := List.replicate 8 0xFFFFFFFF, on := LearnDir.reset, off := LearnDir.reset, reseeds := 0, rejects := 0 }

/-- Motion and learning state after a power-on reset (12 R279). -/
def Motion.reset : Motion :=
  { learn := [], fifo := [[], []], landed := [], seq := 0, results := [], resetReq := [] }

/-- An output in high impedance (14 R310). -/
def PwmPin.reset : PwmPin := { drive := 4, off := 0, due := .none }

/-- A PWM channel in its pad-latch safe state (14 R322). -/
def PwmCh.reset : PwmCh :=
  { row := 1, oe := false, lvl := false, since := 0, edges := [], carry := 0, sig := false, a := PwmPin.reset,
    b := PwmPin.reset, nZero := 0, nPer := 0, nCmp := 0, engine := false }

/-- A PWM cluster whose counter starts from 0. -/
def PwmCl.reset : PwmCl :=
  { zero := 0, perDone := false, syncSent := false, armAt := .none, syncAt := .none, syncSeen := 0, written := [] }

/-- PWM state after a power-on reset (14 R310, R322). -/
def Pwm.reset : Pwm :=
  { chans := List.replicate 48 PwmCh.reset, clusters := List.replicate 6 PwmCl.reset,
    trips := List.replicate 8 ⟨.none, false⟩, work := [], latch := List.replicate 6 0xAAAAAAAA#32, coarse := false,
    held := .none, synco := 0 }

/-- An analog input that has converted nothing (15 R337). -/
def AinCh.reset : AinCh :=
  { skip := 3, cond := 0, ovr := 0, overOk := 0, under := 0, underOk := 0, cut := .none, episodes := 0 }

/-- A frequency input that has seen no edge. -/
def FinCh.reset : FinCh := { gate := 0, first := 0, last := 0, n := 0, newest := .none }

/-- Field input and output state after reset (15 R337). -/
def Fio.reset : Fio :=
  { pins := List.replicate 32 ⟨0, 0⟩, stagger := [], ain := List.replicate 16 AinCh.reset,
    fin := List.replicate 12 FinCh.reset, quadBad := List.replicate 6 .none }

/-- A loop slot that is OFF (13 R301). -/
def LoopSt.reset : LoopSt :=
  { last := 0, cmds := [], good := [0, 0, 0, 0], bad := [0, 0, 0, 0], okN := [0, 0, 0, 0], loss := 0, fe := 0, frz := 0,
    feSince := [.none, .none], autoAt := 0, cnt := 0, cur := [.none, .none], subs := [[], []], preset := false, uMan := false, cause := 0,
    clear := .none, err := ⟨0, []⟩, gain := ⟨0, []⟩ }

/-- Control-engine state after reset (13 R301). -/
def Ctl.reset : Ctl :=
  { loops := List.replicate 24 LoopSt.reset, queue := [], pub := [], trace := [], post := 0, prev := .none, events := 0 }

/-- A tracking channel that is OFF (16 R356). -/
def GChan.reset : GChan :=
  { freq := 0, rate := 0, coh := 1, carr := 0, code := 0, sec := 0, n0 := 0, upd := .none, gap := false, applied := false,
    bufs := 0, startAt := 0 }

/-- An idle search context (16 R356). -/
def GCtx.reset : GCtx :=
  { job := .none, nsum := 0, centre := 0, span := 0, chain := 0, tenfold := false, cap := 0, block := 0, peaks := [] }

/-- GNSS state after reset (16 R356). -/
def Gnss.reset : Gnss :=
  { chans := [], ctx := List.replicate 4 GCtx.reset, link := false, seen := false, gone := List.replicate 4 (some 0),
    retries := [0, 0], cut := [.none, .none] }

/-- A time pulse's pin in NO_TIME (17 R372). -/
def TimePin.reset : TimePin := { seq := 0, cfg := 0x400186A0#32, chg := 0, first := 0, next := .none, stop := .none }

/-- Positioning state after reset (17 R372). -/
def Posn.reset : Posn :=
  { pins := [TimePin.reset, TimePin.reset], timing := .none, slew := 0, step := 0, stepAt := 0, u0 := 0, lossAt := 0, holdAt := 0,
    leap := .none, rtcm := [], rtcmSrc := 0, corr := .none, corrLost := false, base := .none, float := false, baseBad := 0 }

/-- Bus state after reset (18 R398): nothing queued, no node present, no master known. -/
def Comm.reset : Comm :=
  { tx := [], tcUp := false, ptp := [.none, .none], nodes := List.replicate 4 ⟨.none, .none, [[], [], []]⟩,
    ports := List.replicate 2 ⟨.none, 0, 0xFF, []⟩, seqs := [0, 0, 0], masterAt := .none, mask := 0, offs := [],
    merge := false, slew := 0, hbOk := .none, remSeq := [], remAt := [] }

/-- The machine right after a power-on reset of a CZT-4192G (log 3). -/
def State.reset : State :=
  { variant := .g, dt := 0, regs := [], mem := [], pkg := Pkg.reset, host := HostIf.reset,
    jobs := List.replicate 16 Job.reset, mu := MemUnit.reset, sec := Sec.reset, attic := Attic.reset,
    pose := Pose.reset, rast := Rast.reset, look := Look.reset, meter := Meter.reset,
    drive := Drive.reset, motion := Motion.reset, pwm := Pwm.reset, fio := Fio.reset, ctl := Ctl.reset, gnss := Gnss.reset,
    posn := Posn.reset, comm := Comm.reset, freeCtr := 0, pending := [] }

end Sys2Proof.Machine
end

