-- ==== Sys2Proof/Machine/Ops.lean ====
section
/-!
DEFINITION. The named operations over registers and memory, and the interrupt path from a page's event to an MSI-X
message (03).
-/
namespace Sys2Proof.Machine

/-- What a register offset names. -/
structure RegInfo where
  page : PageSpec
  /-- offset of the page, instance of its kind -/
  base : Nat
  inst : Nat
  /-- the frame on the page, for a unit-frame register -/
  unit : Option Nat
  fields : List FieldSpec
  /-- the window and the position in it (0 CURSOR, 1 WIN_STAT, 2 and on its words) -/
  win : Option (WinSpec × Nat)
  deriving DecidableEq, Repr

/-- The page kind an offset lies in (03 R40). -/
def pageOf (o : Nat) : Option PageSpec :=
  pageTable.find? (fun p => p.domain == o / 0x100000 && decide (p.first ≤ o / 0x1000 % 0x100) &&
    decide (o / 0x1000 % 0x100 < p.first + p.count))

/-- Unit-bit fields of the interrupt registers of a page with `u` units (03 R42). -/
def unitBits (u : Nat) (ty : RegType) : List FieldSpec :=
  if u = 0 then [fd 31 24 .ro 0]
  else if u = 8 then [fd 31 24 ty 0]
  else [fd 31 (24 + u) .ro 0, fd (23 + u) 24 ty 0]

/-- The common page header (03 R42). -/
def headerFields (p : PageSpec) (o : Nat) : Option (List FieldSpec) :=
  match o with
  | 0x000 => some [fd 31 0 .ro 0]
  | 0x004 => some [fd 23 0 .ro 0]
  | 0x008 => some [fd 16 16 .rw 1]
  | 0x00C => some [fd 31 28 .ro 8, fd 23 0 .ro 0]
  | 0x010 => some [fd 31 0 .ro 0]
  | 0x014 => some (unitBits p.units .rw ++ [fd 23 0 .rw 0])
  | 0x018 => some [fd 31 0 .ro 0]
  | 0x01C => some [fd 31 23 .wo 0, fd 22 0 .w1c 0]
  | 0x020 => some [fd 31 0 .w1c 0]
  | 0x024 => some [fd 31 0 .rw p.fltMask]
  | 0x028 => some [fd 0 0 .rw 0]
  | 0x02C => some [fd 31 0 .ro 0]
  | 0x030 | 0x034 | 0x038 | 0x03C => some []
  | _ => none

/-- The unit-frame header (03 R47). -/
def unitFields (o : Nat) : Option (List FieldSpec) :=
  match o with
  | 0x00 => some [fd 31 16 .ro 0, fd 2 0 .ro 0]
  | 0x04 => some [fd 31 31 .ro 1, fd 7 0 .ro 0]
  | 0x08 => some [fd 31 0 .ro 0]
  | 0x0C => some [fd 31 0 .rw 0]
  | 0x10 => some [fd 31 0 .w1c 0]
  | 0x14 => some [fd 31 0 .w1c 0]
  | 0x18 => some [fd 31 0 .ro 0]
  | 0x1C => some []
  | _ => none

/-- The row a word offset matches in a list of registers. -/
def findReg (l : List RegSpec) (o : Nat) : Option (List FieldSpec) :=
  (l.find? (fun r => decide (r.ofs ≤ o) && decide (o < r.ofs + r.count * r.stride) &&
    (o - r.ofs) % r.stride == 0)).map (·.fields)

/-- The window a page offset lies in, and where. -/
def findWin (l : List WinSpec) (o : Nat) : Option (WinSpec × Nat) :=
  (l.find? (fun w => decide (w.ofs ≤ o) && decide (o < w.ofs + 4 * (w.words + 2)) && (o - w.ofs) % 4 == 0)).map
    (fun w => (w, (o - w.ofs) / 4))

/-- Fields of a window register (03 R48). -/
def winFields (w : WinSpec) (k : Nat) : List FieldSpec :=
  match k with
  | 0 => [fd 31 0 .rw 0]
  | 1 => [fd 23 16 .ro w.words, fd 2 1 .w1c 0, fd 0 0 .ro 0]
  | _ => [fd 31 0 w.cls 0]

/-- Where the header of a unit's frame begins, as a page offset (03 R47). -/
def frameAt (p : PageSpec) (o : Nat) : Option (Nat × Nat) :=
  if p.units = 0 then none
  else if p.kind = .loop then (if 0x040 ≤ o ∧ o < 0x060 then some (0, o - 0x040) else none)
  else if 0x100 ≤ o ∧ o < 0x100 + p.units * 0x100 then some ((o - 0x100) / 0x100, o % 0x100)
  else none

/-- What an offset of a page names; `none` where it is unimplemented (03 R58). -/
def regInfo (o : Nat) : Option RegInfo :=
  match pageOf o with
  | none => none
  | some p =>
    let base := o / 0x1000 * 0x1000
    let inst := o / 0x1000 % 0x100 - p.first
    let po := o % 0x1000
    let mk (u : Option Nat) (f : List FieldSpec) := some (RegInfo.mk p base inst u f none)
    match headerFields p po with
    | some f => mk none f
    | none =>
      match findWin p.wins po with
      | some (w, k) => some (RegInfo.mk p base inst none (winFields w k) (some (w, k)))
      | none =>
        match frameAt p po with
        | some (u, fo) =>
          match unitFields fo with
          | some f => mk (some u) f
          | none => (findReg p.frame fo).bind (mk (some u))
        | none => (findReg p.regs po).bind (mk none)

/-- The word a register's fields hold at reset. -/
def resetOf (l : List FieldSpec) : Word := l.foldl (fun w f => w ||| BitVec.ofNat 32 (f.rst * 2 ^ f.lo)) 0

/-- What a register that is not listed holds: its reset value (03 R68), with the values the variant and
the fuses decide. -/
def regDefault (v : Variant) (o : Nat) : Word :=
  if v = .n ∧ (o = R.CLOCK_ISL_CTRL ∨ o = R.CLOCK_ISL_STAT) then 0x200#32
  else if R.FUSE_DEVICE_ID_LO ≤ o ∧ o < R.FUSE_ROOT_HASH1 12 ∧ (regInfo o).isSome = true then Config.fuse o
  else if o = R.ETH_MAC_LO 0 ∨ o = R.ETH_MAC_LO 1 then Config.fuse o
  else if o = R.ETH_MAC_HI 0 ∨ o = R.ETH_MAC_HI 1 then Config.fuse o &&& 0xFFFF#32
  else if o = R.POSEIN_SRC_CFG then
    match regInfo o with
    | some i => setFld (setFld (resetOf i.fields) 1 0 (if v = .n then 2 else 1)) 3 2 (if v = .n then 3 else 2)
    | none => 0
  else if o = R.CAN_CAN_CFG 0 ∨ o = R.CAN_CAN_CFG 1 then
    match regInfo o with
    | some i => setBit (resetOf i.fields) 0
    | none => 0
  else
    match regInfo o with
    | some i => resetOf i.fields
    | none => 0

/-- A register's stored word. -/
def State.r (s : State) (o : Nat) : Word := SMap.get (regDefault s.variant) s.regs o

/-- Store a register's word. -/
def State.w (s : State) (o : Nat) (v : Word) : State := { s with regs := SMap.put (regDefault s.variant) s.regs o v }

/-- A field of a register. -/
def State.f (s : State) (o hi lo : Nat) : Nat := fld (s.r o) hi lo

/-- Store a field of a register. -/
def State.wf (s : State) (o hi lo v : Nat) : State := s.w o (setFld (s.r o) hi lo v)

/-- A bit of a register. -/
def State.b (s : State) (o i : Nat) : Bool := bit (s.r o) i

/-- Set or clear a bit of a register. -/
def State.wb (s : State) (o i : Nat) (v : Bool) : State := s.w o (putBit (s.r o) i v)

/-- Store a run of words at rising register offsets. -/
def State.ws (s : State) : Nat → List Word → State
  | _, [] => s
  | o, v :: t => (s.w o v).ws (o + 4) t

/-- Add to a saturating field. -/
def State.satInc (s : State) (o hi lo n : Nat) : State := s.wf o hi lo (satAdd (hi + 1 - lo) (s.f o hi lo) n)

/-- Add to a wrapping field. -/
def State.inc (s : State) (o hi lo n : Nat) : State := s.wf o hi lo (s.f o hi lo + n)

/-- A 64-bit pair of registers, low word first. -/
def State.r64 (s : State) (o : Nat) : Nat := (s.r o).toNat + 2 ^ 32 * (s.r (o + 4)).toNat

/-- Store a 64-bit pair of registers, low word first. -/
def State.w64 (s : State) (o v : Nat) : State := (s.w o (BitVec.ofNat 32 v)).w (o + 4) (BitVec.ofNat 32 (v / 2 ^ 32))

/-- The low 32 bits of a count as a word. -/
def nw (n : Nat) : Word := BitVec.ofNat 32 n

/-- A byte of the physical address space. A byte not listed reads 0 (log 4). -/
def memDefault (_ : Nat) : Byte := 0

/-- Read one byte of memory. -/
def State.rd8 (s : State) (a : Nat) : Byte := SMap.get memDefault s.mem a

/-- Write one byte of memory. -/
def State.wr8 (s : State) (a : Nat) (b : Byte) : State := { s with mem := SMap.put memDefault s.mem a b }

/-- Read `n` bytes of memory. -/
def State.rdBytes (s : State) (a n : Nat) : List Byte := SMap.getAll memDefault s.mem a n

/-- Write bytes to memory. -/
def State.wrBytes (s : State) (a : Nat) (l : List Byte) : State := { s with mem := SMap.putAll memDefault s.mem a l }

/-- Read a little-endian word of memory. -/
def State.rd32 (s : State) (a : Nat) : Word := bytesWord (s.rdBytes a 4)

/-- Write a little-endian word of memory. -/
def State.wr32 (s : State) (a : Nat) (v : Word) : State := s.wrBytes a (wordBytes v)

/-- Read `n` words of memory. -/
def State.rdWords (s : State) (a n : Nat) : List Word := bytesWords n (s.rdBytes a (4 * n))

/-- Write words to memory. -/
def State.wrWords (s : State) (a : Nat) (l : List Word) : State := s.wrBytes a (l.flatMap wordBytes)

/-- Physical address of shared SRAM (06 R112). -/
def sharedBase : Nat := 0xB00000

/-- Take a fresh free value of the spec's open values (log 5): its number. -/
def State.takeFree (s : State) : Nat × State := (s.freeCtr, { s with freeCtr := s.freeCtr + 1 })

/-- A fresh free value of `n` bits. -/
def State.freeBits (s : State) (n : Nat) : Nat × State :=
  ((Config.freeWord s.freeCtr).toNat % 2 ^ n, { s with freeCtr := s.freeCtr + 1 })

/-! ## Faults, events and enables of a page (03 R42 to R47) -/

/-- The page an offset lies in. -/
def pageBase (o : Nat) : Nat := o / 0x1000 * 0x1000

/-- Latch a page event in IRQ_RAW. -/
def State.irq (s : State) (base i : Nat) : State := s.wb (base + 0x010) i true

/-- Latch a page fault in FLT_STAT (03 R43). -/
def State.flt (s : State) (base i : Nat) : State := s.wb (base + 0x020) i true

/-- Is a page fault latched? -/
def State.fltB (s : State) (base i : Nat) : Bool := s.b (base + 0x020) i

/-- Latch a unit event in U_IRQ_RAW; `fr` is where the unit's frame header begins. -/
def State.uirq (s : State) (fr i : Nat) : State := s.wb (fr + 0x08) i true

/-- Latch a unit fault in U_FLT. -/
def State.uflt (s : State) (fr i : Nat) : State := s.wb (fr + 0x14) i true

/-- Is a unit fault latched? -/
def State.ufltB (s : State) (fr i : Nat) : Bool := s.b (fr + 0x14) i

/-- Where the frame header of unit `u` of a page begins. -/
def frameBase (p : PageSpec) (base u : Nat) : Nat :=
  if p.kind = .loop then base + 0x040 else base + 0x100 + 0x100 * u

/-- IRQ_RAW as it reads: latched events, the fault level and the unit levels (03 R42). -/
def State.irqRaw (s : State) (base : Nat) : Word :=
  let ev := s.r (base + 0x010)
  let flt : Word := if (s.r (base + 0x020) &&& s.r (base + 0x024)) = 0 then 0 else 0x800000#32
  match pageOf base with
  | none => 0
  | some p =>
    let un := (List.range p.units).foldl (fun (w : Word) u =>
      let fr := frameBase p base u
      if (s.r (fr + 0x08) &&& s.r (fr + 0x0C)) = 0 then w else setBit w (24 + u)) (0 : Word)
    ev ||| flt ||| un

/-- IRQ_PEND: IRQ_RAW and IRQ_EN (03 R42). -/
def State.irqPend (s : State) (base : Nat) : Word := s.irqRaw base &&& s.r (base + 0x014)

/-- PG_STAT (03 R42). -/
def State.pgStat (s : State) (base : Nat) : Word :=
  putBit (putBit (putBit 0x80000000#32 30 ((s.r (base + 0x020) &&& s.r (base + 0x024)) != 0)) 29
    (s.irqPend base != 0)) 28 (s.b (base + 0x028) 0)

/-- An accepted configuration command acting on a page counts in its PG_CHG (03 R42). -/
def State.chg (s : State) (base : Nat) : State := s.inc (base + 0x02C) 31 0 1

/-! ## From sources to interrupts (03 R60 to R67) -/

/-- Is a source asserted (03 R62)? -/
def State.srcOn (s : State) (n : Nat) : Bool :=
  match sources.find? (fun e => e.1 == n) with
  | none => false
  | some (_, pages, mask) => pages.any (fun b => s.b (b + 0x008) 16 && (s.irqPend b &&& mask) != 0)

/-- SRC_ASSERT word `k` of a route page (03 R63). -/
def State.srcAssert (s : State) (inst k : Nat) : Word :=
  (sources.filter (fun e => decide (inst * 256 + 32 * k ≤ e.1) && decide (e.1 < inst * 256 + 32 * k + 32))).foldl
    (fun w e => if s.srcOn e.1 then setBit w (e.1 % 32) else w) 0

/-- Offset of the route entry of a source (03 R63). -/
def routeOfs (src : Nat) : Nat := R.IRQROUTE_ROUTE (src / 256) (src % 256)

/-- The enabled routes: source and target (03 R63). An entry that is not listed is disabled. -/
def State.routes (s : State) : List (Nat × Nat) :=
  s.regs.filterMap (fun e =>
    if (0x006900 ≤ e.1 ∧ e.1 < 0x006D00) ∧ bit e.2 8 then some ((e.1 - 0x006900) / 4, fld e.2 7 0)
    else if (0x007900 ≤ e.1 ∧ e.1 < 0x007D00) ∧ bit e.2 8 then some (256 + (e.1 - 0x007900) / 4, fld e.2 7 0)
    else none)

/-- Targets that an asserted source drives (03 R63). -/
def State.driven (s : State) : List Nat := (s.routes.filter (fun e => s.srcOn e.1)).map (·.2)

/-- VEC_STAT (03 R63). -/
def State.vecStat (s : State) : Word :=
  s.driven.foldl (fun w t => if t < 32 then setBit w t else w) 0

/-- INT_STAT (03 R64). -/
def State.intStat (s : State) : Word :=
  s.driven.foldl (fun w t => if 32 ≤ t ∧ t < 40 then setBit w (t - 32) else w) 0

/-- Is MSI-X vector `n` masked, by its entry or by the function (05 R94)? -/
def State.vecMasked (s : State) (n : Nat) : Bool := s.host.fmask || s.b (R.PCIE_MSIX_CTRL n) 0

/-- Handle vector `n` whose level is 1 and which is armed: send its message, or set its pending bit (03 R65, 05 R94). -/
def State.serveVec (s : State) (n : Nat) : State :=
  if s.b (R.IRQROUTE_VEC_ARMED 0) n then
    if s.vecMasked n then s.wb R.PCIE_MSIX_PBA n true
    else
      let s := s.wb (R.IRQROUTE_VEC_ARMED 0) n false
      let s := s.wb R.PCIE_MSIX_PBA n false
      { s with host := { s.host with msix := s.host.msix ++ [n] } }
  else s

/-- After every command: each vector whose level is 1 is served, in ascending order (03 R65). -/
def settle (s : State) : State := (bitsSet 32 s.vecStat.toNat).foldl State.serveVec s

/-- The outcome of a command that goes on. -/
def done (s : State) : Host.Outcome State Fault Refusal := .next (settle s)

end Sys2Proof.Machine
end

