-- ==== Sys2Proof/Machine/Records.lean ====
section
/-!
DEFINITION. Time readings, event records (20), audit records (19) and life statistics as shared operations.
-/
namespace Sys2Proof.Machine

/-! ## Time (02) -/

/-- Wall time in ns at a DT under the published mapping (02 R33), rounded toward minus infinity. -/
def mapNs (ans adt : Nat) (rate : Int) (dt : Nat) : Int :=
  (ans : Int) + fdiv (((dt : Int) - adt) * 10 * (2 ^ 40 + rate)) (256 * 2 ^ 40)

/-- Wall time in ns now. -/
def State.wallNs (s : State) : Int :=
  mapNs (s.r64 R.TIME_WALL_ANS_LO) (s.r64 R.TIME_WALL_ADT_LO) (sword (s.r R.TIME_WALL_RATE)) s.dt

/-- GNSS time in ns at a DT (02 R33). -/
def State.gnssNs (s : State) (dt : Nat) : Int :=
  mapNs (s.r64 R.TIME_GNSS_ANS_LO) (s.r64 R.TIME_GNSS_ADT_LO) (sword (s.r R.TIME_GNSS_RATE)) dt

/-- Wall time in UTC seconds, 0 while WALL_VALID is 0 (20 R423). -/
def State.wallSec (s : State) : Word :=
  if s.b R.TIME_DT_STAT 2 then wordOf (fdiv s.wallNs 1000000000) else 0

/-- DT base ticks modulo 2^32. -/
def State.tick32 (s : State) : Word := nw (ticks s.dt)

/-- The mode code (04 R69). -/
def State.mode (s : State) : Nat := s.f R.SAFE_MODE_STAT 3 0

/-! ## Event records (20 R423 to R429) -/

/-- Close a record of words 0 to `n - 1`: the CRC-16 and the commit marker (20 R423, 19 R417). -/
def sealRec (l : List Word) : List Word :=
  l ++ [nw ((crc16 0xFFFF (l.flatMap wordBytes)).toNat * 65536 + 0x5AC3)]

/-- Offset and bits of the pending suppressed count of a source (20 R438). -/
def suppOfs (src : Nat) : Nat := R.EVR_SUPP (src / 2)

/-- Pending suppressed count of a source. -/
def State.supp (s : State) (src : Nat) : Nat := s.f (suppOfs src) (if src % 2 = 0 then 15 else 31) (if src % 2 = 0 then 0 else 16)

/-- Store the pending suppressed count of a source. -/
def State.setSupp (s : State) (src n : Nat) : State :=
  s.wf (suppOfs src) (if src % 2 = 0 then 15 else 31) (if src % 2 = 0 then 0 else 16) n

/-- The event record for an event now (20 R423). -/
def State.eventRec (s : State) (src typ sev code : Nat) (w5 w6 : Word) : List Word :=
  sealRec [nw (typ * 2 ^ 28 + src * 2 ^ 24 + sev * 2 ^ 20 + code), nw (s.pkg.opTicks / 256),
    nw (s.pkg.opTicks % 256 * 2 ^ 24 + s.pkg.pwrCyc), s.wallSec,
    nw (s.pkg.wallEpoch * 65536 + s.supp src), w5, w6]

/-- Stage an event record, or count it suppressed when the FIFO holds 32 (20 R425, R429). -/
def State.event (s : State) (src typ sev code : Nat) (w5 w6 : Word) : State :=
  if s.attic.fifo.length < 32 then
    let rec_ := s.eventRec src typ sev code w5 w6
    let s := s.setSupp src 0
    let n := s.attic.fifo.length + 1
    let s := if s.f R.EVR_FIFO 13 8 < n then s.wf R.EVR_FIFO 13 8 n else s
    { s with attic := { s.attic with fifo := s.attic.fifo ++ [rec_] } }
  else
    let s := s.setSupp src (satAdd 16 (s.supp src) 1)
    let first := s.r R.EVR_LOST == 0
    let s := s.w R.EVR_LOST (nw (satAdd 32 (s.r R.EVR_LOST).toNat 1))
    if first then (s.flt (R.EVR 0) 1).irq (R.EVR 0) 2 else s

/-- SOURCE, TYPE and SEVERITY of the named codes (20 R424). -/
def namedCode (i : Nat) : Nat × Nat × Nat :=
  match i with
  | 0x00 => (0x0, 4, 0) | 0x01 => (0x0, 4, 2) | 0x02 => (0x0, 4, 1) | 0x03 => (0x0, 3, 1)
  | 0x04 => (0x0, 2, 1) | 0x05 => (0x0, 2, 4) | 0x06 => (0x0, 2, 4) | 0x07 => (0x0, 3, 4)
  | 0x08 => (0x0, 3, 0) | 0x09 => (0x3, 3, 1) | 0x0A => (0x3, 3, 1) | 0x0B => (0x3, 3, 1)
  | 0x0C => (0x5, 2, 2) | 0x0D => (0x6, 2, 2) | 0x0E => (0x6, 2, 2) | 0x0F => (0x6, 1, 1)
  | 0x10 => (0x8, 2, 3) | 0x11 => (0xA, 3, 1) | 0x12 => (0xA, 3, 2) | 0x13 => (0xA, 3, 1)
  | 0x14 => (0xB, 3, 1) | 0x15 => (0xD, 5, 1) | 0x16 => (0x0, 3, 1) | _ => (0x0, 3, 2)

/-- Stage a record with a named code (20 R424). -/
def State.evNamed (s : State) (i : Nat) (w5 w6 : Word) : State :=
  let c := namedCode i
  s.event c.1 c.2.1 c.2.2 (0xC000 + i) w5 w6

/-- Stage a record with a named code whose word 6 is the event's DT. -/
def State.evNow (s : State) (i : Nat) (w5 : Word) : State := s.evNamed i w5 s.tick32

/-- Stage the record of a page event bit (20 R424). -/
def State.evIrq (s : State) (base i : Nat) : State :=
  s.event (base / 0x100000) 1 1 (base / 0x1000 % 64 * 256 + i) 0xFFFF#32 s.tick32

/-- Stage the record of a page fault bit. -/
def State.evFlt (s : State) (base i : Nat) : State :=
  s.event (base / 0x100000) 2 3 (0x4000 + base / 0x1000 % 64 * 256 + i) 0xFFFF#32 s.tick32

/-- Stage the record of a unit fault bit; `u` is the unit's global number. -/
def State.evUnit (s : State) (base i u : Nat) : State :=
  s.event (base / 0x100000) 2 3 (0x8000 + base / 0x1000 % 64 * 256 + i) (nw u) s.tick32

/-- Stage a record that has neither a name nor a bit; `o` is the register that describes it. -/
def State.evGeneric (s : State) (o : Nat) : State := s.event (o / 0x100000) 1 1 0xC0FF (nw o) s.tick32

/-- Latch a page event and stage its record. -/
def State.irqEv (s : State) (base i : Nat) : State := (s.irq base i).evIrq base i

/-- Latch a page fault and stage its record. -/
def State.fltEv (s : State) (base i : Nat) : State := (s.flt base i).evFlt base i

/-- Latch a page fault; stage its record only when the bit goes from 0 to 1. -/
def State.fltOnce (s : State) (base i : Nat) : State := if s.fltB base i then s else s.fltEv base i

/-! ## Life statistics (20 R435 to R437) -/

/-- Add to a saturating 32-bit life counter: record and word of R437. -/
def State.life (s : State) (rec_ word n : Nat) : State :=
  let k := rec_ * 8 + word
  let v := (SMap.get (fun _ => (0 : Word)) s.attic.life k).toNat
  { s with attic := { s.attic with life := SMap.put (fun _ => (0 : Word)) s.attic.life k (nw (satAdd 32 v n)) } }

/-- Add 1 to a saturating 16-bit bin of a record whose words hold two bins each. -/
def State.lifeBin (s : State) (rec_ bin : Nat) : State :=
  let k := rec_ * 8 + bin / 2
  let w := SMap.get (fun _ => (0 : Word)) s.attic.life k
  let lo := if bin % 2 = 0 then 0 else 16
  { s with attic := { s.attic with
      life := SMap.put (fun _ => (0 : Word)) s.attic.life k (setFld w (lo + 15) lo (satAdd 16 (fld w (lo + 15) lo) 1)) } }

/-- Count `kb` KB written to an MRAM area (20 R436): 0 event log, 1 tail ring, 2 audit log, 3 life, 4 configuration
store, 5 key store, 6 firmware images, 7 anti-rollback. -/
def State.lifeKb (s : State) (area kb : Nat) : State := s.life 1185 area kb

/-! ## Sources of the control engine (13 R283) -/

/-- A source is published now (13 R283). -/
def State.publish (s : State) (key : Nat) : State :=
  { s with ctl := { s.ctl with pub := SMap.put (fun _ => (0 : DT)) s.ctl.pub key s.dt } }

/-- Publication key of a source of a loop: metering publishes its targets together, at F + 900 µs, and its flow measurements at F. -/
def pubKey (l code idx : Nat) : Nat :=
  match code with
  | 3 | 5 | 6 => 3 * 4096
  | 4 => 4 * 4096
  | 7 => 7 * 4096 + 4 * l + idx
  | _ => code * 4096 + idx

/-! ## Audit records (19 R417 to R419) -/

/-- ORIGIN code of an interface slot: PCIE, HSPI, ETH0 ×2, ETH1 ×2 (19 R417). -/
def slotOrigin (slot : Nat) : Nat :=
  match slot with
  | 0 => 1 | 1 => 2 | 2 => 3 | 3 => 3 | _ => 4

/-- Free records of the audit log. -/
def State.audFree (s : State) : Nat := 16384 - s.sec.audit.length

/-- Can the log take `n` records of a run-time action (19 R418)? -/
def State.audRun (s : State) (n : Nat) : Bool := decide (n ≤ s.audFree)

/-- Can the log take `n` records of a configuration change (19 R418)? -/
def State.audCfg (s : State) (n : Nat) : Bool := decide (n + s.f R.AUDIT_AUD_CFG 7 0 ≤ s.audFree)

/-- AUD_STAT.FULL (19 R418). -/
def State.audFull (s : State) : Bool := decide (s.audFree ≤ s.f R.AUDIT_AUD_CFG 7 0)

/-- What an audit record says, its number of parts aside (19 R417). -/
structure AudRec where
  typ : Nat
  origin : Nat
  role : Nat
  result : Nat
  sess : Nat
  changed : Nat
  w3 : Word
  w4 : Word
  /-- old and new values, lowest word first -/
  vals : List (Word × Word)

/-- Parts a change of `n` words takes. -/
def audParts (n : Nat) : Nat := if n = 0 then 1 else (n + 2) / 3

/-- Part `p` of an audit record, sealed. -/
def State.audPart (s : State) (a : AudRec) (seq parts p : Nat) : List Word :=
  let v := (a.vals.drop (3 * p)).take 3
  sealRec ([nw (a.typ * 2 ^ 24 + a.origin * 2 ^ 16 + a.role * 2 ^ 12 + a.result), nw (a.sess * 65536 + a.changed),
    nw seq, a.w3, a.w4] ++ padWords 3 (v.map (·.1)) ++ padWords 3 (v.map (·.2)) ++
    [nw (s.pkg.wallEpoch * 65536 + p * 256 + parts), nw (s.pkg.opTicks / 256),
     nw (s.pkg.opTicks % 256 * 2 ^ 24 + s.pkg.pwrCyc), s.wallSec])

/-- Commit an audit record to the log, with the warning and FULL events of R418. The caller has seen to its room. -/
def State.audit (s : State) (a : AudRec) : State :=
  let parts := audParts a.vals.length
  let seq := (s.sec.audSeq + 1) % 2 ^ 32
  let recs := (List.range parts).map (s.audPart a seq parts)
  let was := s.audFull
  let s := { s with sec := { s.sec with audit := s.sec.audit ++ recs, audSeq := seq } }
  let s := s.lifeKb 2 parts
  let s := if !was && s.audFull then s.irq (R.AUDIT 0) 1 else s
  if !s.sec.audWarned && decide (s.f R.AUDIT_AUD_CFG 15 8 * 16384 ≤ s.sec.audit.length * 100) then
    ({ s with sec := { s.sec with audWarned := true } }).irq (R.AUDIT 0) 0
  else s

/-- An action that acts without a record when none can be written (19 R418). -/
def State.auditOrCount (s : State) (a : AudRec) : State :=
  if s.audRun 1 then s.audit a else s.satInc R.AUDIT_AUD_STAT 30 16 1

/-! ## Sessions (19 R408, R409) -/

/-- Role code of the session open in a slot, 0 when closed. -/
def State.slotRole (s : State) (slot : Nat) : Nat := s.f (R.SESSION_SLOT slot) 3 0

/-- Number of the session open in a slot, 0 when closed. -/
def State.slotNum (s : State) (slot : Nat) : Nat := s.f (R.SESSION_SLOT slot) 31 16

end Sys2Proof.Machine

namespace Sys2Proof

/-- Session slot of the interface a register access comes from. -/
def Origin.slot : Origin → Option Nat
  | .pcie => some 0
  | .hspi => some 1
  | .eth k => some (2 + k.val)
  | _ => none

/-- MASTER code of an access (03 R59). -/
def Origin.code : Origin → Nat
  | .pcie => 1
  | .hspi => 2
  | .eth _ => 4
  | .sp0 => 3
  | .sp1 => 4
  | .dma n => 16 + n.val

/-- The master a window keeps its cursor for: PCIe, quad-SPI, service firmware (03 R49). -/
def Origin.master : Origin → Nat
  | .pcie => 0
  | .hspi => 1
  | _ => 2

/-- Is the access made by host software, rather than by the service firmware for itself (05 R97, 06 R128)? -/
def Origin.isHost : Origin → Bool
  | .pcie => true
  | .hspi => true
  | .eth _ => true
  | _ => false

end Sys2Proof

namespace Sys2Proof.Machine

/-- A command or a register write of an open session keeps it alive (19 R412). -/
def State.touch (s : State) (slot : Nat) : State :=
  { s with sec := { s.sec with lastAct := s.sec.lastAct.set slot s.dt } }

end Sys2Proof.Machine
end

