-- ==== Sys2Proof/Machine/HexOps.lean ====
section
/-!
DEFINITION. Frames of the Hexyon ring and system time (18 R385 to R393) as shared operations.
-/
namespace Sys2Proof.Machine

/-- One bit step of CRC-32 (IEEE 802.3), reflected. -/
def crc32Bit (c : Word) : Word := if c.getLsbD 0 then (c >>> 1) ^^^ 0xEDB88320#32 else c >>> 1

/-- CRC-32 (IEEE 802.3) of bytes. -/
def crc32 (l : List Byte) : Word :=
  ~~~ (l.foldl (fun (c : Word) b => (List.range 8).foldl (fun c _ => crc32Bit c) (c ^^^ b.setWidth 32)) 0xFFFFFFFF#32)

/-- A byte of a word. -/
def byteOf (w : Word) (i : Nat) : Nat := fld w (8 * i + 7) (8 * i)

/-- NODE_ID. -/
def State.nodeId (s : State) : Nat := s.f R.SYSNET_CFG 1 0

/-- HB_MS in DT units. -/
def State.hbDT (s : State) : DT := msDT (s.f R.SYSNET_CFG 31 24)

def State.setComm (s : State) (c : Comm) : State := { s with comm := c }
def State.hxPort (s : State) (p : Nat) : HxPort := s.comm.ports.getD p ⟨none, 0, 0xFF, []⟩
def State.setHxPort (s : State) (p : Nat) (x : HxPort) : State := s.setComm { s.comm with ports := s.comm.ports.set p x }
def State.node (s : State) (n : Nat) : Node := s.comm.nodes.getD n ⟨none, none, [[], [], []]⟩
def State.setNode (s : State) (n : Nat) (x : Node) : State := s.setComm { s.comm with nodes := s.comm.nodes.set n x }

/-- HX_PORT.UP: beacons received within HB_MS (18 R397). -/
def State.portUp (s : State) (p : Nat) : Bool :=
  match (s.hxPort p).last with
  | some t => decide (s.dt ≤ t + s.hbDT)
  | none => false

/-- Is the Hexyon ring up: HX_CFG.EN and some port UP? -/
def State.hxUp (s : State) : Bool := s.b R.HXL_HX_CFG 0 && (s.portUp 0 || s.portUp 1)

/-- ID_CLASH: neither RETIRE nor POSE frames are sent or accepted (18 R389). -/
def State.idClash (s : State) : Bool := s.fltB (R.SYSNET 0) 0

/-- A frame leaves a port: header word, payload, CRC-32 (18 R385). -/
def State.hxPut (s : State) (p : Nat) (hdr : Word) (pay : List Word) : State :=
  let ws := hdr :: pay
  { s with host := { s.host with out := s.host.out ++ [⟨12 + p, 1, ws ++ [crc32 (ws.flatMap wordBytes)]⟩] } }

/-- Header of an own frame of type `t` (1 BEACON, 2 RETIRE, 3 POSE). -/
def State.hxHeader (s : State) (t n seq : Nat) : Word := nw (t + (s.nodeId * 64 + (n - 1)) * 256 + seq % 65536 * 65536)

/-- The next sequence of a frame type. -/
def State.hxSeq (s : State) (t : Nat) : Nat := s.comm.seqs.getD (t - 1) 0

/-- Count an own frame. -/
def State.hxCount (s : State) (t : Nat) : State :=
  s.setComm { s.comm with seqs := s.comm.seqs.set (t - 1) ((s.hxSeq t + 1) % 65536) }

/-- Send an own RETIRE or POSE frame on both ports (18 R386). -/
def State.hxSend (s : State) (t : Nat) (pay : List Word) : State :=
  if s.hxUp && !s.idClash then
    let h := s.hxHeader t pay.length (s.hxSeq t)
    ((s.hxPut 0 h pay).hxPut 1 h pay).hxCount t
  else s

/-! ## System time (18 R390) -/

/-- SYST at an own DT under the published mapping. -/
def State.syst (s : State) (t : DT) : Int :=
  (s.r64 R.SYSNET_S_ANCHOR_LO : Int) +
    fdiv (((t : Int) - s.r64 R.SYSNET_S_ADT_LO) * (2 ^ 40 + sword (s.r R.SYSNET_S_RATE))) (2 ^ 40)

/-- The own DT of a SYST. -/
def State.systDT (s : State) (x : Int) : Int :=
  (s.r64 R.SYSNET_S_ADT_LO : Int) +
    fdiv ((x - s.r64 R.SYSNET_S_ANCHOR_LO) * 2 ^ 40) (2 ^ 40 + sword (s.r R.SYSNET_S_RATE))

/-- MEMBER_STAT.SYNCED. -/
def State.synced (s : State) : Bool := s.b R.SYSNET_MEMBER_STAT 11

/-- Publish a mapping of system time under MAP_SEQ. -/
def State.setSyst (s : State) (adt : DT) (anchor : Int) (rate : Word) : State :=
  (((s.w64 R.SYSNET_S_ADT_LO adt).w64 R.SYSNET_S_ANCHOR_LO (anchor % 2 ^ 64).toNat).w R.SYSNET_S_RATE rate).inc
    R.SYSNET_MAP_SEQ 31 0 2

/-- Two words of a 64-bit number. -/
def words64 (x : Int) : List Word := [nw (x % 2 ^ 64).toNat, nw ((x % 2 ^ 64).toNat / 2 ^ 32)]

/-- Send the fused pose as a POSE frame, its DT as SYST (18 R393). -/
def State.hxPose (s : State) (l : List Word) : State :=
  if s.b R.SYSNET_CFG 14 && s.synced then
    s.hxSend 3 (words64 (s.syst ((nth l 0).toNat + 2 ^ 32 * (nth l 1).toNat)) ++ (padWords 10 l).drop 2)
  else s

/-- FIELD_KEY of the loaded field: CRC-32 of bytes 6 to 35 of its header; 0 with no field (18 R387). -/
def State.fieldKey (s : State) : Word :=
  if s.b R.TILEDIR_FIELD_STAT 31 then
    match s.rast.ids.find? (fun e => e.1 == s.f R.TILEDIR_FIELD_STAT 23 16) with
    | some e => crc32 (((padWords 8 e.2).flatMap wordBytes).take 2 ++ ((padWords 8 e.2).flatMap wordBytes).drop 4)
    | none => 0
  else 0

/-! ## The safety heartbeat (18 R395) -/

/-- SAFE_NOTICE: in SAFE for a cause other than SYS_HB alone. -/
def State.safeNotice (s : State) : Bool := s.mode == 5 && s.r R.SAFE_CAUSE != 0x200#32

/-- Every EXPECT node is present, no present node carries SAFE_NOTICE, and PWM_SYNCI is locked where it counts. -/
def State.hbGood (s : State) : Bool :=
  ((List.range 4).all (fun n => !s.b R.SYSNET_CFG (20 + n) || n == s.nodeId || s.b R.SYSNET_MEMBER_STAT n)) &&
    s.f R.SYSNET_MEMBER_STAT 7 4 == 0 &&
    (!s.b R.SYSNET_CFG 12 || !s.b R.PWMCTL_SYNC_CFG 0 || s.b (R.PWMC_CL_STAT 0) 30)

/-- Note since when the heartbeat holds. -/
def State.hbNote (s : State) : State :=
  if s.hbGood && s.comm.hbOk.isNone then s.setComm { s.comm with hbOk := some s.dt } else s

end Sys2Proof.Machine
end

