-- ==== Sys2Proof/Machine/Porch.lean ====
section
/-!
DEFINITION. The Porch: completion records, the checks every command passes (05 R97 to R103), and the state machine of
the job slots (05 R105, R106).
-/
namespace Sys2Proof.Machine

/-! ## Descriptors and completion records -/

end Sys2Proof.Machine

namespace Sys2Proof

/-- Byte `n` of the descriptor, for `n` from 8 (05 R100). -/
def Cmd.byte (c : Cmd) (n : Nat) : Nat := (c.args.getD (n - 8) 0).toNat

/-- `k` descriptor bytes from byte `n`, little-endian. -/
def Cmd.num (c : Cmd) (n k : Nat) : Nat := Machine.leNat ((c.args.drop (n - 8)).take k ++ List.replicate (k - ((c.args.drop (n - 8)).take k).length) 0)

/-- Descriptor word `k` (bytes 4 k to 4 k + 3), for `k` from 2. -/
def Cmd.word (c : Cmd) (k : Nat) : Word := Machine.nw (c.num (4 * k) 4)

/-- The descriptor word that holds the first byte rejected: a byte outside the ranges the opcode uses that is not 0, or
a byte named in `wrong` (05 R101 DETAIL, R103 check 2). -/
def Cmd.badArg (c : Cmd) (used : List (Nat × Nat)) (wrong : List Nat) : Option Nat :=
  if 8 ≤ c.flags.toNat then some 0
  else
    ((List.range 56).map (· + 8)).findSome? (fun n =>
      if wrong.contains n || (c.byte n != 0 && !used.any (fun u => decide (u.1 ≤ n) && decide (n ≤ u.2)))
      then some (n / 4) else none)

end Sys2Proof

namespace Sys2Proof.Machine

/-- Is a ring enabled? -/
def State.ringEn (s : State) (ring : Nat) : Bool := s.b (R.PORCH_RING_CTRL ring) 31

/-- Size of a ring's completion ring. -/
def State.cplSize (s : State) (ring : Nat) : Nat := 2 ^ s.f (R.PORCH_RING_CTRL ring) 11 8

/-- Size of a ring's command ring. -/
def State.cmdSize (s : State) (ring : Nat) : Nat := 2 ^ s.f (R.PORCH_RING_CTRL ring) 3 0

/-- Free completion entries (05 R98). -/
def State.cplFree (s : State) (ring : Nat) : Nat :=
  let n := s.cplSize ring
  n - 1 - (s.f (R.PORCH_CPL_TAIL ring) 9 0 + n - s.f (R.PORCH_CPL_HEAD ring) 9 0 % n) % n

/-- Unfinished jobs started from a ring (05 R98). -/
def State.ringJobs (s : State) (ring : Nat) : Nat :=
  ((List.range 16).filter (fun j =>
    let st := s.f (R.JOBS_JOB_STAT j) 3 0
    decide (1 ≤ st) && decide (st ≤ 5) && s.f (R.JOBS_JOB_STAT j) 6 4 == ring)).length

/-- Descriptors wait on a ring whose free completion entries do not exceed its unfinished jobs plus one: RING_STAT.STALLED
(05 R98). -/
def State.heldBack (s : State) (ring : Nat) : Bool :=
  s.ringEn ring && s.f (R.PORCH_CMD_HEAD ring) 9 0 != s.f (R.PORCH_CMD_TAIL ring) 9 0 &&
    decide (s.cplFree ring ≤ s.ringJobs ring + 1)

/-- A completion record (05 R101). -/
structure CplRec where
  ring : Nat
  tag : Nat
  status : Nat
  handle : Nat
  idx : Nat
  final : Bool
  job : Bool
  detail : Nat
  r0 : Word
  r1 : Word
  irq : Bool

/-- Write a completion record into a free entry, advance CPL_TAIL and raise the ring's source (05 R98). A disabled ring
gets none (05 R95). On rings 2 and 3 the service firmware sends the record on and frees the entry (05 R96). -/
def State.putRec (s : State) (c : CplRec) : State :=
  if s.ringEn c.ring && decide (0 < s.cplFree c.ring) then
    let t := s.f (R.PORCH_CPL_TAIL c.ring) 9 0
    let ph := s.b (R.PORCH_CPL_TAIL c.ring) 16
    let ws := [nw (c.tag + c.status * 2 ^ 16 + c.handle * 2 ^ 24),
      nw (c.idx + ((if ph then 1 else 0) + (if c.final then 2 else 0) + (if c.job then 4 else 0)) * 2 ^ 16 +
        c.detail * 2 ^ 24), c.r0, c.r1]
    let s := s.wrWords (sharedBase + s.f (R.PORCH_CPL_BASE c.ring) 19 4 * 16 + 16 * t) ws
    let t' := (t + 1) % s.cplSize c.ring
    let s := s.wf (R.PORCH_CPL_TAIL c.ring) 9 0 t'
    let s := if t' = 0 then s.wb (R.PORCH_CPL_TAIL c.ring) 16 (!ph) else s
    let s :=
      if 2 ≤ c.ring then
        let s := s.wf (R.PORCH_CPL_HEAD c.ring) 9 0 t'
        { s with host := { s.host with out := s.host.out ++ [⟨6 + c.ring, 2, ws⟩] } }
      else s
    if c.irq then s.irq (R.PORCH 0) c.ring else s
  else s

/-- The command is no longer in progress. -/
def State.leave (s : State) (c : Cmd) : State :=
  { s with host := { s.host with inProg := s.host.inProg.filter (fun p => !(p.cmd.ring == c.ring && p.cmd.idx == c.idx)) } }

/-- The last record of a command (FINAL = 1). -/
def State.reply (s : State) (c : Cmd) (status handle detail : Nat) (r0 r1 : Word) : State :=
  (s.putRec { ring := c.ring.val, tag := c.tag.toNat, status := status, handle := handle, idx := c.idx.toNat,
              final := true, job := false, detail := detail, r0 := r0, r1 := r1, irq := c.flags.getLsbD 0 }).leave c

/-- The command completes with OK. -/
def State.ok (s : State) (c : Cmd) (r0 r1 : Word) : State := s.reply c 0x00 0 0 r0 r1

/-! ## The checks of 05 R103 -/

/-- Session slots of a ring's interface (19 R409). -/
def ringSlots (ring : Nat) : List Nat :=
  match ring with
  | 0 => [0] | 1 => [1] | 2 => [2, 3] | _ => [4, 5]

/-- The slot of the open session a command names. -/
def State.cmdSlot (s : State) (c : Cmd) : Option Nat :=
  if c.sess = 0 then none
  else (ringSlots c.ring.val).find? (fun k => s.slotNum k == c.sess.toNat && s.slotRole k != 0)

/-- Role of the session a command names, 0 for none. -/
def State.cmdRole (s : State) (c : Cmd) : Nat :=
  match s.cmdSlot c with
  | some k => s.slotRole k
  | none => 0

/-- What the checks need to know of a command: its opcode, the least role it needs, its audit class (0 not audited,
1 run-time, 2 configuration), the first bad argument word, and whether its target is locked, its handle names no job,
its mode or object state forbids it, its resources are taken. -/
structure CmdSpec where
  opcode : Nat
  role : Nat
  aud : Nat
  bad : Option Nat
  locked : Bool
  noJob : Bool
  conflict : Bool
  busy : Bool
  /-- SAFE_ENTER: the SESSION field is not checked -/
  anySess : Bool
  /-- NOP and SAFE_ENTER: accepted in BOOT (19 R404) -/
  inBoot : Bool

/-- A command with no arguments of its own to check further. -/
def CmdSpec.mk' (opcode role aud : Nat) (bad : Option Nat) (conflict : Bool) : CmdSpec :=
  { opcode := opcode, role := role, aud := aud, bad := bad, locked := false, noJob := false, conflict := conflict,
    busy := false, anySess := false, inBoot := false }

/-- The status and DETAIL of the first check that fails (05 R103); in BOOT every command but NOP and SAFE_ENTER
conflicts (19 R404). -/
def State.porchFails (s : State) (c : Cmd) (k : CmdSpec) : Option (Nat × Nat) :=
  match k.bad with
  | some d => some (0x11, d)
  | none =>
    if s.mode = 0 ∧ !k.inBoot then some (0x12, 0)
    else if !k.anySess ∧ ((c.sess ≠ 0 ∧ (s.cmdSlot c).isNone) ∨ s.cmdRole c < k.role ∨ k.locked) then some (0x13, 0)
    else if k.noJob then some (0x16, 0)
    else if k.conflict then some (0x12, 0)
    else if k.busy then some (0x15, 0)
    else if (k.aud = 1 ∧ !s.audRun 1) ∨ (k.aud = 2 ∧ !s.audCfg 1) then some (0x14, 0)
    else none

/-- Word 5 of the event record of a refused command: origin code and opcode (20 R424). -/
def refusalWord (c : Cmd) (op : Nat) : Word := nw ((c.ring.val + 1) * 65536 + op)

/-- A command that fails a check: its event record, where its status has one, and its completion record. -/
def State.refuse (s : State) (c : Cmd) (op status detail : Nat) : State :=
  let s :=
    match status with
    | 0x12 => s.evNow 0x03 (refusalWord c op)
    | 0x13 => s.evNow 0x16 (refusalWord c op)
    | 0x14 => s.evNow 0x17 (refusalWord c op)
    | _ => s
  s.reply c status (if 0x0111 ≤ op ∧ op ≤ 0x0114 then c.handle.toNat else 0) detail 0 0

/-- The audit record of a command (19 R417). -/
def State.cmdAudit (s : State) (c : Cmd) (op status handle : Nat) (r0 r1 : Word) : AudRec :=
  { typ := 3, origin := c.ring.val + 1, role := s.cmdRole c, result := status,
    sess := (if (s.cmdSlot c).isSome then c.sess.toNat else 0), changed := 0,
    w3 := nw (c.tag.toNat * 65536 + op), w4 := nw handle,
    vals := [(c.word 2, r0), (c.word 3, r1), (c.word 4, 0)] }

/-- A command keeps its session alive. -/
def State.touchCmd (s : State) (c : Cmd) : State :=
  match s.cmdSlot c with
  | some k => s.touch k
  | none => s

/-- Run a command: refuse it at the first check that fails, else commit its audit record, with a completion status and
RESULT words, and act (05 R103, 19 R417). In CELLAR no interface answers (04 R69). -/
def State.runCmdAs (s : State) (c : Cmd) (k : CmdSpec) (status : Nat) (r0 r1 : Word) (act : State → State) : State :=
  if s.pkg.cellar then s
  else
    let s := s.touchCmd c
    match s.porchFails c k with
    | some (st, d) => s.refuse c k.opcode st d
    | none => act (if k.aud = 0 then s else s.audit (s.cmdAudit c k.opcode status 0 r0 r1))

/-- Run a command whose audit record says OK. -/
def State.runCmd (s : State) (c : Cmd) (k : CmdSpec) (act : State → State) : State := s.runCmdAs c k 0 0 0 act

/-! ## Job slots (05 R105, R106) -/

/-- STATE of a job slot. -/
def State.jobSt (s : State) (j : Nat) : Nat := s.f (R.JOBS_JOB_STAT j) 3 0

/-- KIND of a job slot. -/
def State.jobKind (s : State) (j : Nat) : Nat := s.f (R.JOBS_JOB_STAT j) 23 16

/-- What a job slot holds outside its registers. -/
def State.job (s : State) (j : Nat) : Job := s.jobs.getD j Job.reset

/-- Store what a job slot holds outside its registers. -/
def State.setJob (s : State) (j : Nat) (b : Job) : State := { s with jobs := s.jobs.set j b }

/-- ELAPSED_MS of a slot. -/
def State.jobMs (s : State) (j : Nat) : Word :=
  nw (((s.job j).ran + (match (s.job j).runSince with | some t => s.dt - t | none => 0)) / msDT 1)

/-- Enter a job state: sources 57 and, at an end, 56; the time in RUNNING is counted. -/
def State.setJobSt (s : State) (j st : Nat) : State :=
  let b := s.job j
  let b := match b.runSince with
    | some t => { b with ran := b.ran + (s.dt - t), runSince := none }
    | none => b
  let b := if st = 2 then { b with runSince := some s.dt } else b
  let s := (s.setJob j b).wf (R.JOBS_JOB_STAT j) 3 0 st
  let s := s.irq (R.JOBS 0) 1
  if 6 ≤ st then (s.wb (R.JOBS_JOB_STAT j) 7 false).irq (R.JOBS 0) 0 else s

/-- The slot a handle names: an occupied slot whose present handle it is (05 R105). -/
def State.findJob (s : State) (h : Nat) : Option Nat :=
  let j := h % 16
  if h ≠ 0 ∧ s.jobSt j ≠ 0 ∧ s.f (R.JOBS_JOB_STAT j) 31 24 = h then some j else none

/-- Run slots in use (05 R105). -/
def State.runSlots (s : State) : Nat :=
  ((List.range 16).filter (fun j => s.jobSt j == 2 || s.jobSt j == 3 || s.jobSt j == 5)).length

/-- Is a job live (05 R105)? -/
def liveJob (st : Nat) : Bool := decide (1 ≤ st) && decide (st ≤ 5)

/-- A record that reports a job, under its START tag. -/
def State.jobRec (s : State) (j status : Nat) (final : Bool) (detail : Nat) (r0 r1 : Word) : State :=
  s.putRec { ring := s.f (R.JOBS_JOB_STAT j) 6 4, tag := s.f (R.JOBS_JOB_DETAIL j) 15 0, status := status,
             handle := s.f (R.JOBS_JOB_STAT j) 31 24, idx := (s.job j).idx.toNat, final := final, job := true,
             detail := detail, r0 := r0, r1 := r1, irq := (s.job j).irq }

/-- A JOB_STATE record, where NOTIFY was set; skipped and counted where the ring has no entry to spare (05 R105). -/
def State.notifyJob (s : State) (j : Nat) : State :=
  if (s.job j).notify then
    let ring := s.f (R.JOBS_JOB_STAT j) 6 4
    let owed := s.ringJobs ring + (if liveJob (s.jobSt j) then 0 else 1)
    if s.ringEn ring && decide (owed < s.cplFree ring) then
      s.jobRec j 0x17 false 0 (s.r (R.JOBS_JOB_STAT j)) (s.jobMs j)
    else s.satInc (R.PORCH_RING_STAT ring) 15 0 1
  else s

/-- Complete a SUSPEND that waits for this job. -/
def State.endSuspend (s : State) (j status : Nat) : State :=
  match (s.job j).suspend with
  | none => s
  | some c =>
    let s := s.setJob j { s.job j with suspend := none }
    let s := if status = 0x12 then s.evNow 0x03 (refusalWord c 0x0111) else s
    s.reply c status c.handle.toNat 0 0 0

/-- Complete a CANCEL that waits for this job. -/
def State.endCancel (s : State) (j status : Nat) : State :=
  match (s.job j).cancel with
  | none => s
  | some c =>
    let s := s.setJob j { s.job j with cancel := none }
    let s := if status = 0x12 then s.evNow 0x03 (refusalWord c 0x0113) else s
    s.reply c status c.handle.toNat 0 0 0

/-- The job completed its work: DONE, the final OK record (05 R106). -/
def State.jobDone (s : State) (j : Nat) (r0 r1 : Word) : State :=
  let s := s.wf (R.JOBS_JOB_STAT j) 15 8 100
  let s := s.setJobSt j 6
  (s.jobRec j 0x00 true 0 r0 r1).endSuspend j 0x12

/-- A job error: FAILED, the final FAULT record with DETAIL (05 R106). -/
def State.jobFail (s : State) (j detail : Nat) : State :=
  let s := s.wf (R.JOBS_JOB_DETAIL j) 23 16 detail
  let s := s.setJobSt j 7
  let s := s.jobRec j 0x20 true detail (s.job j).res0 (s.job j).res1
  (s.endSuspend j 0x12).endCancel j 0x12

/-- The cancel residue is settled: CANCELLED, the final record, then OK for the CANCEL (05 R106). -/
def State.jobCancelled (s : State) (j detail : Nat) : State :=
  let left := s.jobSt j == 4
  let s := (s.wf (R.JOBS_JOB_DETAIL j) 23 16 detail).setJobSt j 8
  let s := if left then s.notifyJob j else s
  let s := s.jobRec j 0x21 true detail (s.job j).res0 (s.job j).res1
  s.endCancel j 0x00

/-- Report the share of its work a job has done (05 R111). -/
def State.jobProgress (s : State) (j pct : Nat) : State := s.wf (R.JOBS_JOB_STAT j) 15 8 (min pct 100)

/-- The first job of a kind that is in one of the run states. -/
def State.runningJob (s : State) (kind : Nat) : Option Nat :=
  (List.range 16).find? (fun j => s.jobKind j == kind && (s.jobSt j == 2 || s.jobSt j == 3 || s.jobSt j == 5))

end Sys2Proof.Machine
end

