-- ==== Sys2Proof/Machine/PoseOps.lean ====
section
/-!
DEFINITION. Pose, implement geometry and prediction (07) as shared operations.
-/
namespace Sys2Proof.Machine

/-- DT units of a planning frame (01 R10). -/
def frameDT : DT := 25600000

/-- Signed difference of two 32-bit angles. -/
def angDiff (a b : Nat) : Int := toSigned 32 ((a + 2 ^ 32 - b % 2 ^ 32) % 2 ^ 32)

/-- An angle modulo one turn. -/
def angOf (i : Int) : Nat := ofSigned 32 i

/-- Quotient rounded to nearest, ties toward plus infinity (07 R137). -/
def rnd (a b : Int) : Int := fdiv (2 * a + b) (2 * b)

/-- AXIS of GEOM.KIN (07 R159): 0 FIELD, 1 TRACK, 2 CYCLIC. -/
def State.axis (s : State) : Nat := s.f R.GEOM_KIN 5 4

/-- MODEL of GEOM.KIN (07 R147). -/
def State.kinModel (s : State) : Nat := s.f R.GEOM_KIN 1 0

/-- Pose STATE (07 R142): 0 INVALID, 1 DEAD_RECKONING, 2 VALID. -/
def State.poseSt (s : State) : Nat := s.f R.POSEIN_SRC_STAT 5 4

/-- STALE_MS as a DT. -/
def State.staleDT (s : State) : DT := msDT (s.f R.POSEIN_TIMING 15 0)

/-- The fused pose: LAST_POSE0 to LAST_POSE9 (07 R140). -/
def State.fused (s : State) : List Word := (List.range 10).map (fun k => s.r (R.POSEIN_LAST_POSE k))

/-- Store the fused pose. -/
def State.setFused (s : State) (l : List Word) : State := s.ws (R.POSEIN_LAST_POSE 0) (padWords 10 l)

/-- DT of a pose record. -/
def recDT (l : List Word) : DT := (nth l 0).toNat + 2 ^ 32 * (nth l 1).toNat

/-- FIX of a pose record. -/
def recFix (l : List Word) : Nat := fld (nth l 8) 31 28

/-- HUNC of a pose record, mm. -/
def recHunc (l : List Word) : Nat := fld (nth l 8) 15 0

/-- Fused speed along heading, µm/s. -/
def State.speed (s : State) : Int := sword (s.r (R.POSEIN_LAST_POSE 6))

/-- Force a pose epoch at the next frame boundary with the given cause (07 R154). -/
def State.forceEpoch (s : State) (cause : Nat) : State :=
  { s with pose := { s.pose with causes := (BitVec.ofNat 8 s.pose.causes ||| BitVec.twoPow 8 cause).toNat } }

/-- Enter a pose validity state (07 R142). In INVALID, LAST_POSE keeps the fused state with FIX 0, no valid flag and HUNC
unknown (07 R140). -/
def State.setPoseSt (s : State) (st : Nat) : State :=
  if s.poseSt = st then s
  else
    let s := s.wf R.POSEIN_SRC_STAT 5 4 st
    let s := { s with pose := { s.pose with stateSince := s.dt } }
    let s := if st = 0 ∧ !s.pose.fusedLog.isEmpty then s.w (R.POSEIN_LAST_POSE 8) 0xFFFF#32 else s
    ((s.forceEpoch 3).evNow 0x09 (nw st)).irq (R.POSEIN 0) 0

/-- A field swap or entry to OPERATE: INVALID until the next qualifying measurement, epoch cause RESUME (07 R142). -/
def State.resumePose (s : State) : State := (s.setPoseSt 0).forceEpoch 5

/-- Does a step model point of the trajectory move: advance a body along the exact chord of its arc (07 R151).
Positions in 2^-16 mm, `dt` in µs, speed in µm/s, yaw rate in 2^-32 turn/s. -/
def arcStep (b : Body) (v w : Int) (dt : Int) : Body :=
  let dpsi := rnd (w * dt) 1000000
  let mid := angOf ((b.h : Int) + rnd dpsi 2)
  let len := v * dt * Config.sincQ30 dpsi
  { e := b.e + rnd (len * Config.sinQ30 mid * 65536) (2 ^ 60 * 1000000000),
    n := b.n + rnd (len * Config.cosQ30 mid * 65536) (2 ^ 60 * 1000000000),
    h := angOf ((b.h : Int) + dpsi) }

/-- A rate in rad/s held as a fraction, in 2^-32 turn/s: 2^32 / 2π to ten digits. -/
def radToTurn (num den : Int) : Int := rnd (num * 6835652755764) (den * 10000)

/-- Heading rate of implement 1 (07 R147): hitch angle `g`, speed µm/s, yaw rate, in 2^-32 turn/s; 0 while L lies
outside its range. -/
def implRate (v w : Int) (g : Nat) (h l : Int) : Int :=
  if l < 500 ∨ 30000 < l then 0
  else radToTurn (v * Config.sinQ30 g) (2 ^ 30 * l * 1000) - rnd (w * h * Config.cosQ30 g) (2 ^ 30 * l)

/-- Speed of implement 1's axle (07 R147): v cos γ + ω h sin γ, µm/s. -/
def implSpeed (v w : Int) (g : Nat) (h : Int) : Int :=
  rnd (v * Config.cosQ30 g) (2 ^ 30) + rnd (w * h * Config.sinQ30 g * 6283185307) (2 ^ 62 * 1000000)

/-- Rates of both hitch angles γ1 and γ2 (07 R147). -/
def State.hitchRates (s : State) (v w : Int) (g1 g2 : Nat) : Int × Int :=
  let h1 := - sword (s.r R.GEOM_HITCH1_X)
  let h2 := - sword (s.r R.GEOM_HITCH2_X)
  let w1 := if s.kinModel = 0 then w else implRate v w g1 h1 (sword (s.r R.GEOM_L1))
  let v1 := implSpeed v w g1 h1
  let w2 := if s.kinModel = 2 then implRate v1 w1 g2 h2 (sword (s.r R.GEOM_L2)) else w1
  (w - w1, w1 - w2)

/-- One step of both hitch angles by Heun's method over `dt` µs (07 R148, R151). -/
def State.heun (s : State) (v w : Int) (g1 g2 : Nat) (dt : Int) : Nat × Nat :=
  let k := s.hitchRates v w g1 g2
  let p1 := angOf ((g1 : Int) + rnd (k.1 * dt) 1000000)
  let p2 := angOf ((g2 : Int) + rnd (k.2 * dt) 1000000)
  let q := s.hitchRates v w p1 p2
  (angOf ((g1 : Int) + rnd ((k.1 + q.1) * dt) 2000000), angOf ((g2 : Int) + rnd ((k.2 + q.2) * dt) 2000000))

/-- The bodies behind a vehicle pose with given hitch angles (07 R147): each axle lies its length behind its hitch. -/
def State.bodies (s : State) (b : Body) (g1 g2 : Nat) : List Body :=
  let behind (p : Body) (d : Int) (h : Nat) : Body :=
    { e := p.e - rnd (d * 65536 * Config.sinQ30 h) (2 ^ 30), n := p.n - rnd (d * 65536 * Config.cosQ30 h) (2 ^ 30), h := h }
  let hp1 := behind b (- sword (s.r R.GEOM_HITCH1_X)) b.h
  let b1 := behind { hp1 with h := b.h } (sword (s.r R.GEOM_L1)) (angOf ((b.h : Int) - g1))
  let hp2 := behind b1 (- sword (s.r R.GEOM_HITCH2_X)) b1.h
  let b2 := behind hp2 (sword (s.r R.GEOM_L2)) (angOf ((b1.h : Int) - g2))
  match s.kinModel with
  | 0 => [b]
  | 1 => [b, b1]
  | _ => [b, b1, b2]

/-- Hitch angles in use (07 R148). -/
def State.hitch (s : State) (k : Nat) : Nat := (s.r (if k = 1 then R.GEOM_HITCH_ANGLE1 else R.GEOM_HITCH_ANGLE2)).toNat

/-- A pose record's body. -/
def recBody (l : List Word) : Body :=
  { e := sword (nth l 2) * 65536, n := sword (nth l 3) * 65536, h := (nth l 5).toNat }

/-- The fused body propagated from its instant to a DT by the predictor's step model. -/
def State.fusedAt (s : State) (t : DT) : Body :=
  let l := s.fused
  let us := fdiv ((t : Int) - recDT l) 25600
  arcStep (recBody l) (sword (nth l 6)) (sword (nth l 7)) us

/-! ## Sources and fusion (07 R138 to R146) -/

/-- Rank of a source in SRC_CFG: 0 primary to 2 tertiary. -/
def State.rank (s : State) (src : Nat) : Option Nat :=
  if src = 0 then none
  else if s.f R.POSEIN_SRC_CFG 1 0 = src then some 0
  else if s.f R.POSEIN_SRC_CFG 3 2 = src then some 1
  else if s.f R.POSEIN_SRC_CFG 5 4 = src then some 2
  else none

/-- Has a source delivered a qualifying measurement within STALE_MS? -/
def State.srcFresh (s : State) (src : Nat) : Bool :=
  match s.pose.srcLast.getD src none with
  | some t => decide (s.dt - t ≤ s.staleDT)
  | none => false

/-- Make a source active; a switch from another also forces an epoch, writes its record and raises source 97. -/
def State.activate (s : State) (src : Nat) : State :=
  let was := s.f R.POSEIN_SRC_STAT 1 0
  let s := s.wf R.POSEIN_SRC_STAT 1 0 src
  if was = 0 ∨ was = src then s
  else ((s.forceEpoch 2).evNow 0x0A (nw src)).irq (R.POSEIN 0) 1

/-- The highest-ranked source with a qualifying measurement within STALE_MS. -/
def State.bestFresh (s : State) : Option Nat :=
  [s.f R.POSEIN_SRC_CFG 1 0, s.f R.POSEIN_SRC_CFG 3 2, s.f R.POSEIN_SRC_CFG 5 4].find?
    (fun k => k != 0 && s.srcFresh k)

/-- Choose the active source after a qualifying measurement of `src` (07 R138). -/
def State.chooseSource (s : State) (src : Nat) : State :=
  let act := s.f R.POSEIN_SRC_STAT 1 0
  if act = 0 then s.activate src
  else if act = src then s
  else
    match s.rank src, s.rank act with
    | some r, some ra =>
      if r < ra then
        match s.pose.srcRun.getD src none with
        | some t => if sDT 2 ≤ s.dt - t then s.activate src else s
        | none => s
      else if s.srcFresh act then s
      else
        match s.bestFresh with
        | some k => s.activate k
        | none => s
    | some _, none => s.activate src
    | none, _ => s

/-- Horizontal distance from the origin beyond 10 km, in FIELD (07 R136). -/
def State.recFar (s : State) (l : List Word) : Bool :=
  s.axis == 0 && decide (10 ^ 14 < sword (nth l 2) ^ 2 + sword (nth l 3) ^ 2)

/-- Does a measurement qualify (07 R138)? -/
def State.qualifies (s : State) (l : List Word) : Bool :=
  decide (s.f R.POSEIN_QUAL_MIN 19 16 ≤ recFix l) && decide (recHunc l ≤ s.f R.POSEIN_QUAL_MIN 15 0) &&
    recHunc l != 0xFFFF && !s.recFar l

/-- IMU LIVE. -/
def State.imuLive (s : State) : Bool := s.b R.IMU_STAT 0

/-- May a qualifying measurement make the pose VALID (07 R142)? -/
def State.axisReady (s : State) : Bool :=
  match s.axis with
  | 0 => true
  | 1 => s.pose.odoLast.isSome
  | _ => s.pose.idxOk

/-- Whole root of a sum of squares. -/
def hyp (a b : Int) : Nat := isqrt (a * a + b * b).toNat

/-- Speed of a measurement (07 R146): its own, else by the rules for a record that carries none. -/
def State.measSpeed (s : State) (l : List Word) (hdg : Nat) : Int :=
  if bit (nth l 8) 18 then sword (nth l 6)
  else if s.imuLive then s.speed
  else
    match s.pose.meas.head? with
    | some (t, e, n, _) =>
      let dtu := ((recDT l : Int) - t)
      if dtu ≤ 0 then 0
      else
        let de := sword (nth l 2) - e
        let dn := sword (nth l 3) - n
        let v := rnd ((isqrt ((de * de + dn * dn) * 10 ^ 6).toNat : Int) * 25600000000) dtu
        let along := de * Config.sinQ30 hdg + dn * Config.cosQ30 hdg
        if along < 0 then -v else v
    | none => 0

/-- Yaw rate of a measurement (07 R146). -/
def State.measYaw (s : State) (l : List Word) (hdg : Nat) : Int :=
  if bit (nth l 8) 17 then sword (nth l 7)
  else if s.imuLive then
    rnd (s.pose.gyro.getD 2 0 * sword (s.r R.IMU_GSCALE) - sword (s.r R.IMU_GBIAS_Z)) 256
  else
    match s.pose.meas.head? with
    | some (t, _, _, h) =>
      let dtu := ((recDT l : Int) - t)
      if dtu ≤ 0 then 0 else rnd (angDiff hdg h * 25600000000) dtu
    | none => 0

/-- Heading of a measurement without an IMU (07 R146): HDG_VALID, else the course above 0.5 m/s, else held. -/
def State.measHeading (s : State) (l : List Word) : Nat :=
  if bit (nth l 8) 16 then (nth l 5).toNat
  else
    match s.pose.meas.head? with
    | some (t, e, n, _) =>
      let dtu := ((recDT l : Int) - t)
      let de := sword (nth l 2) - e
      let dn := sword (nth l 3) - n
      if 0 < dtu ∧ dtu * 500 ≤ (hyp de dn : Int) * 25600000000 then (Config.courseOf de dn).toNat
      else (s.r (R.POSEIN_LAST_POSE 5)).toNat
    | none => (s.r (R.POSEIN_LAST_POSE 5)).toNat

/-- The fused state after a measurement that neither starts nor steps the pose: heading, speed and yaw rate by R146,
position and uncertainty as the filter gives them (log 5). -/
def State.filtered (s : State) (l : List Word) : List Word × State :=
  let h := s.measHeading l
  let g (k : Nat) : Word := Config.fused s.freeCtr k
  let unc := setFld (setFld (nth l 8) 15 0 (g 8).toNat) 27 19 0
  ([nth l 0, nth l 1, g 2, g 3, g 4, if s.imuLive then g 5 else nw h, wordOf (s.measSpeed l h), wordOf (s.measYaw l h),
    unc, setFld 0 31 16 (g 9).toNat], { s with freeCtr := s.freeCtr + 1 })

/-- The fused state set to a measurement (07 R142, R143). -/
def State.taken (s : State) (l : List Word) : List Word :=
  let h := s.measHeading l
  [nth l 0, nth l 1, nth l 2, nth l 3, nth l 4, nw h, wordOf (s.measSpeed l h), wordOf (s.measYaw l h), nth l 8, nth l 9]

/-- Remember a fused state for the history and the derived speeds, and share it on the ring (18 R393). -/
def State.pushFused (s : State) (l : List Word) : State :=
  let s := (s.setFused l).hxPose l
  { s with pose := { s.pose with
      fusedLog := l :: s.pose.fusedLog,
      meas := ((recDT l, sword (nth l 2), sword (nth l 3), (nth l 5).toNat) :: s.pose.meas).take 2 } }

/-- A TRACK fix (07 R157): slew out a small error, step a larger one with an epoch and a record. -/
def State.trackFix (s : State) (l : List Word) : State :=
  let behind := rnd (s.speed * ((s.dt : Int) - recDT l)) (25600000000)
  let e := sword (nth l 2) * 1000 - (fdiv s.pose.odoS 65536 - behind)
  if s.pose.fixSeen ∧ e.natAbs ≤ s.f R.GEOM_TRK_SLEW_TOL 15 0 * 1000 then
    { s with pose := { s.pose with odoSlew := e } }
  else
    let step := s.pose.fixSeen
    let s := { s with pose := { s.pose with odoS := s.pose.odoS + e * 65536, odoSlew := 0, fixSeen := true } }
    if step then (s.forceEpoch 6).evGeneric R.GEOM_TRK_SLEW_TOL else s

/-- Fuse a qualifying measurement of the active source (07 R142, R143, R146). -/
def State.fuse (s : State) (l : List Word) : State :=
  let s := { s with pose := { s.pose with lastQual := some s.dt } }
  let s := if s.axis = 1 then s.trackFix l else s
  if s.poseSt = 0 then
    if s.axisReady then
      let m := s.taken l
      (s.pushFused m).setPoseSt 2
    else s
  else
    let p := s.fusedAt (recDT l)
    let de := sword (nth l 2) * 65536 - p.e
    let dn := sword (nth l 3) * 65536 - p.n
    let tol := (s.f R.POSEIN_JUMP_TOL 15 0 : Int) * 65536
    if s.axis = 0 ∧ tol * tol < de * de + dn * dn then
      let s := ((s.forceEpoch 1).evNow 0x0B (nw (rnd (hyp de dn) 65536).toNat)).irq (R.POSEIN 0) 2
      (s.pushFused (s.taken l)).setPoseSt 2
    else
      let f := s.filtered l
      (f.2.pushFused f.1).setPoseSt 2

/-- Pose speed above 2.0 km/h in SERVICE asks for the drain to STANDBY (04 R71). -/
def State.overSpeed (s : State) : Bool := decide (2000000000 < s.speed.natAbs * 3600)

/-- A transition to STANDBY through the drain is asked for (04 R72). -/
def State.requestDrain (s : State) (c : Option Cmd) (toCellar : Bool) : State :=
  if s.f R.SAFE_MODE_STAT 11 8 = 0xF then
    { (s.wf R.SAFE_MODE_STAT 11 8 1) with
      pkg := { s.pkg with drain := some ⟨s.dt, false, c, toCellar⟩ } }
  else s

/-- A measurement of a source: discarded, or counted to its source, the active source chosen, and fused (07 R138). -/
def State.measure (s : State) (src : Nat) (l : List Word) : State :=
  if (s.rank src).isNone then s
  else
    let s := if s.recFar l then s.flt (R.POSEIN 0) 3 else s
    if !s.qualifies l then s
    else
      let run := match s.pose.srcLast.getD src none with
        | some t => if s.dt - t ≤ s.staleDT then (s.pose.srcRun.getD src none) else none
        | none => none
      let s := { s with pose := { s.pose with
        srcLast := s.pose.srcLast.set src (some s.dt),
        srcRun := s.pose.srcRun.set src (some (run.getD s.dt)) } }
      let s := s.chooseSource src
      let s := if s.f R.POSEIN_SRC_STAT 1 0 = src then s.fuse l else s
      if s.mode = 4 ∧ s.overSpeed then s.requestDrain none false else s

/-! ## Odometry (07 R157, R158) -/

/-- One count of the odometry pair: `up` its direction (07 R157, R158). -/
def State.odoCount (s : State) (up : Bool) : State :=
  let up := up != s.b R.GEOM_ODO_CFG 8
  let d : Int := if up then 1 else -1
  if s.axis = 1 then
    let step : Int := d * (s.r R.GEOM_ODO_SCALE).toNat
    -- at most 20 mm of slew per metre travelled
    let lim : Int := (rnd (step.natAbs * 20) 1000)
    let slew := clamp (-lim) lim (s.pose.odoSlew * 65536)
    let s := { s with pose := { s.pose with
      odoS := s.pose.odoS + step + slew, odoSlew := s.pose.odoSlew - fdiv slew 65536, odoLast := some s.dt } }
    if s.poseSt = 1 then s.w (R.POSEIN_LAST_POSE 2) (wordOf (rnd s.pose.odoS 65536000)) else s
  else if s.axis = 2 then
    let n := s.f R.GEOM_COUNTS_PER_TURN 23 0
    let c := s.pose.idxCount + d
    let om := match s.pose.odoLast with
      | some t => if t < s.dt ∧ 0 < n then rnd (d * 2 ^ 24 * 25600000000) (n * (s.dt - t)) else s.pose.omega
      | none => 0
    { s with pose := { s.pose with
      idxCount := c, odoLast := some s.dt, omega := om,
      theta := if n = 0 then s.pose.theta else angOf ((s.r R.GEOM_ANGLE_OFS).toNat + fdiv (c * 2 ^ 32) n) } }
  else s

/-- Shaft angle at a DT: θ_last + Ω × (t − t_last) (07 R158). -/
def State.thetaAt (s : State) (t : DT) : Nat :=
  match s.pose.odoLast with
  | some t0 => angOf ((s.pose.theta : Int) + fdiv (s.pose.omega * 256 * ((t : Int) - t0)) 25600000000)
  | none => s.pose.theta

/-- Along-track position in mm now. -/
def State.trackMm (s : State) : Int := rnd s.pose.odoS 65536000

/-! ## Prediction (07 R151, R153) -/

/-- Yaw rate of the prediction at a time after its start, in half ms (07 R151). -/
def State.yawAt (s : State) (w0 : Int) (halfMs : Nat) : Int :=
  if s.b R.PRED_MODEL 0 then rnd (w0 * Config.decayQ30 halfMs (s.f R.PRED_MODEL 15 8)) (2 ^ 30) else w0

/-- The samples after the first (07 R151): `n` more steps of `us` µs. -/
def State.predSteps (s : State) : Nat → Nat → Body → Nat → Nat → Int → Int → Sample → List Sample
  | 0, _, _, _, _, _, _, _ => []
  | n + 1, k, b, g1, g2, v, w0, prev =>
    let ms := s.f R.PRED_CFG 23 16
    let w := s.yawAt w0 ((2 * k + 1) * ms)
    let us : Int := ms * 1000
    let b' := arcStep b v w us
    let g := s.heun v w g1 g2 us
    let ax : Int :=
      match s.axis with
      | 1 => prev.axis + rnd (v * us) 1000000000
      | 2 => angOf (prev.axis + fdiv (s.pose.omega * 256 * us) 1000000)
      | _ => 0
    let smp : Sample :=
      { t := prev.t + usDT (ms * 1000), body := s.bodies b' g.1 g.2, axis := ax, v := v,
        w := s.yawAt w0 (2 * (k + 1) * ms) }
    smp :: s.predSteps n (k + 1) b' g.1 g.2 v w0 smp

/-- Samples after the first over the horizon. -/
def State.predN (s : State) : Nat := s.f R.PRED_CFG 15 0 / (max 1 (s.f R.PRED_CFG 23 16))

/-- The predicted trajectory from frame boundary `f` (07 R151). -/
def State.predict (s : State) (f : DT) : List Sample :=
  let b := s.fusedAt f
  let v := s.speed
  let w := sword (s.r (R.POSEIN_LAST_POSE 7))
  let ax : Int := match s.axis with | 1 => s.trackMm | 2 => s.thetaAt f | _ => 0
  let s0 : Sample := { t := f, body := s.bodies b (s.hitch 1) (s.hitch 2), axis := ax, v := v, w := w }
  s0 :: s.predSteps s.predN 0 b (s.hitch 1) (s.hitch 2) v w s0

/-- Deviation of one body from its reference, in 2^-16 mm: |Δp| + |Δψ| R_b (07 R153), `r` in mm. -/
def bodyDev (a b : Body) (r : Nat) : Nat :=
  hyp (a.e - b.e) (a.n - b.n) + ((angDiff a.h b.h).natAbs * r * 6283185307 * 65536) / (2 ^ 32 * 10 ^ 9)

/-- Deviation of a sample from the reference at the same time: 2^-16 mm, or 2^-32 turn in CYCLIC (07 R153). -/
def State.sampleDev (s : State) (rb : List Nat) (a b : Sample) : Nat :=
  match s.axis with
  | 0 => ((a.body.zip (b.body.zip rb)).map (fun x => bodyDev x.1 x.2.1 x.2.2)).foldl max 0
  | 1 => (a.axis - b.axis).natAbs * 65536
  | _ => (angDiff a.axis.toNat b.axis.toNat).natAbs

/-- Largest deviation of a trajectory over the times the reference also holds (07 R153). -/
def State.trajDev (s : State) (rb : List Nat) (new ref : List Sample) : Nat :=
  (new.map (fun a => match ref.find? (fun b => b.t == a.t) with
    | some b => s.sampleDev rb a b
    | none => 0)).foldl max 0

/-- Uncertainty bound at `t` ms, rounded up to a whole mm (07 R152). -/
def State.uncAt (s : State) (tms : Nat) : Nat :=
  let lin := s.f R.PRED_UNC_CFG 15 0 * tms
  let quad := s.speed.natAbs * s.f R.PRED_UNC_CFG 31 16 * tms * tms
  -- HUNC + lin / 10^3 + quad / (2 × 10^3 × 10^5 × 10^6), all in mm
  recHunc s.fused + (lin * 200000000000 + quad + 199999999999999) / 200000000000000

/-- The pose epoch increment at a frame boundary (07 R154). -/
def State.bumpEpoch (s : State) : State :=
  if s.pose.causes = 0 then s
  else
    let s := s.inc R.PRED_POSE_EPOCH 31 0 1
    let s := s.w R.PRED_EPOCH_CAUSE (nw s.pose.causes)
    let s := { s with pose := { s.pose with causes := 0 } }
    s.irq (R.PRED 0) 0

/-! ## Pose history (07 R155, R156) -/

/-- Entries the history ring holds at most. -/
def State.histCap (s : State) : Nat := s.f R.HIST_RING_MB 9 0 * 16384

/-- Physical address of the history's slot `i`. -/
def State.histAddr (s : State) (i : Nat) : Nat :=
  0x100000000 + s.f R.HIST_RING_BASE 19 0 * 0x100000 + 64 * i

/-- Start the ring (07 R155): empty, from the first boundary after now. -/
def State.histRestart (s : State) : State :=
  let f := (s.dt / frameDT + 1) * frameDT
  let s := s.w64 R.HIST_NEWEST_DT_LO 0
  let s := s.w64 R.HIST_OLDEST_DT_LO 0
  { s with pose := { s.pose with histN := 0, histHead := 0, histNext := f, histStart := f, histGaps := [] } }

/-- DT of the oldest of `n` entries of the ring before boundary `next`; a Cellar stay has none (07 R160). -/
def histOldest (n next : Nat) : List (DT × DT) → DT
  | [] => next - n * frameDT
  | (start, old) :: rest =>
    let c := (next - start) / frameDT
    if n ≤ c then next - n * frameDT else histOldest (n - c) old rest

/-- Entries of the ring that are newer than the one of boundary `f`. -/
def histIndex (f : DT) : DT → List (DT × DT) → Nat → Option Nat
  | next, [], acc => if f < next then some (acc + (next - f) / frameDT - 1) else none
  | next, (start, old) :: rest, acc =>
    if start ≤ f then (if f < next then some (acc + (next - f) / frameDT - 1) else none)
    else if old ≤ f then none
    else histIndex f old rest (acc + (next - start) / frameDT)

/-- Append the entry of the next boundary (07 R156). -/
def State.histPush (s : State) (l : List Word) : State :=
  let cap := s.histCap
  let s := s.wrWords (s.histAddr s.pose.histHead) l
  let n := min (s.pose.histN + 1) cap
  let f := s.pose.histNext
  let s := { s with pose := { s.pose with
    histN := n, histHead := (s.pose.histHead + 1) % (max cap 1), histNext := f + frameDT } }
  (s.w64 R.HIST_NEWEST_DT_LO f).w64 R.HIST_OLDEST_DT_LO (histOldest n (f + frameDT) s.pose.histGaps)

/-- Entry `k` of the history, 0 the newest. -/
def State.histEntry (s : State) (k : Nat) : List Word :=
  s.rdWords (s.histAddr ((s.pose.histHead + s.histCap - 1 - k) % (max s.histCap 1))) 16

/-- Is an entry's STATE other than INVALID? -/
def entryValid (l : List Word) : Bool := fld (nth l 11) 27 26 != 0

/-- The history's entry for a frame boundary, where it is held, valid and of the loaded field's generation (07 R155,
R156). -/
def State.histAt (s : State) (f : DT) : Option (List Word) :=
  if f % frameDT = 0 then
    match histIndex f s.pose.histNext s.pose.histGaps 0 with
    | some k =>
      if k < s.pose.histN then
        let l := s.histEntry k
        if entryValid l then some l else none
      else none
    | none => none
  else none

/-- A number interpolated between two dated values, rounded to nearest (07 R155). -/
def lerp (t0 t1 t : Nat) (a b : Int) : Int := if t1 ≤ t0 then a else a + rnd ((b - a) * ((t : Int) - t0)) ((t1 : Int) - t0)

/-- The entry for a boundary between two fused states (07 R155, R156). -/
def State.histForm (s : State) (f : DT) (a b : List Word) : List Word × State :=
  let t0 := recDT a
  let t1 := recDT b
  let ip (k : Nat) : Int := lerp t0 t1 f (sword (nth a k)) (sword (nth b k))
  let h := angOf ((nth a 5).toNat + lerp t0 t1 f 0 (angDiff (nth b 5).toNat (nth a 5).toNat))
  let h1 := angOf ((h : Int) - s.hitch 1)
  let h2 := angOf ((h1 : Int) - s.hitch 2)
  let ax : Int := match s.axis with | 1 => ip 2 | 2 => (s.thetaAt f : Int) | _ => 0
  let tilt (k : Nat) : Word := if s.imuLive then Config.fused s.freeCtr k else 0
  let sp : Int := if s.axis = 2 then s.pose.omega else ip 6
  let w11 := nw (recFix b * 2 ^ 28 + s.poseSt * 2 ^ 26 + s.f R.POSEIN_SRC_STAT 1 0 * 2 ^ 24 +
    s.f R.TILEDIR_FIELD_STAT 23 16 * 2 ^ 16 + recHunc b)
  let ws := [nw f, nw (f / 2 ^ 32), wordOf (ip 2), wordOf (ip 3), wordOf (ip 4), nw h, nw h1, nw h2, wordOf sp,
    wordOf (ip 7), wordOf ax, w11, tilt 12, tilt 13, nw (s.hitch 1)]
  (ws ++ [nw ((crc16 0xFFFF (ws.flatMap wordBytes)).toNat * 65536)],
    if s.imuLive then { s with freeCtr := s.freeCtr + 1 } else s)

/-- An INVALID entry for a boundary: it holds no position (07 R155). -/
def State.histInvalid (s : State) (f : DT) : List Word :=
  let ws := [nw f, nw (f / 2 ^ 32), 0, 0, 0, 0, 0, 0, 0, 0, 0, nw (s.f R.TILEDIR_FIELD_STAT 23 16 * 2 ^ 16 + 0xFFFF), 0, 0, 0]
  ws ++ [nw ((crc16 0xFFFF (ws.flatMap wordBytes)).toNat * 65536)]

end Sys2Proof.Machine
end

