-- ==== Sys2Proof/Machine/MemOps.lean ====
section
/-!
DEFINITION. The physical address space, translation, the Pantry and the DMA channels as shared operations (06).
-/
namespace Sys2Proof.Machine

/-! ## Physical address space (06 R112, R114) -/

/-- First address of LPDDR4X. -/
def dramBase : Nat := 0x100000000

/-- Usable LPDDR4X in bytes: 7/8 of what is fitted (06 R114). -/
def State.dramSize (s : State) : Nat := s.f R.LPDDR_CFG 3 0 * 896 * 0x100000

/-- Does a range lie in usable LPDDR4X? -/
def State.inDram (s : State) (a n : Nat) : Bool := decide (dramBase ≤ a) && decide (a + n ≤ dramBase + s.dramSize)

/-- Does a range lie in shared SRAM? -/
def inShared (a n : Nat) : Bool := decide (sharedBase ≤ a) && decide (a + n ≤ sharedBase + 0x100000)

/-- Is a range of the physical space listed in R112? -/
def State.listed (s : State) (a n : Nat) : Bool :=
  decide (a + n ≤ 0xC00000) || (decide (0x10000000 ≤ a) && decide (a + n ≤ 0x11000000)) ||
    (decide (0x20000000 ≤ a) && decide (a + n ≤ 0x28000000)) || s.inDram a n

/-- First address and size of the field store. -/
def State.fsRange (s : State) : Nat × Nat :=
  (dramBase + s.f R.LPDDR_FS_BASE 19 0 * 0x100000, s.f R.LPDDR_FS_SIZE 11 0 * 0x100000)

/-- Stores being built by a FIELD_LOAD, protected like the installed one (08 R168). -/
def State.newStore (s : State) : Nat × Nat :=
  match s.runningJob 2 with
  | some j => if 0 < (s.job j).step then ((s.job j).vals.getD 0 0 |>.toNat, (s.job j).vals.getD 1 0 |>.toNat) else (0, 0)
  | none => (0, 0)

/-- Do two ranges of bytes meet? -/
def meet (a n b m : Nat) : Bool := decide (0 < m) && decide (a < b + m) && decide (b < a + n)

/-- May a context reach a physical range (06 R112, R121)? -/
def State.reach (s : State) (ctx a n : Nat) (wr : Bool) : Bool :=
  if ctx ≤ 3 ∨ ctx = 16 then
    (inShared a n || s.inDram a n) &&
      !(wr && (ctx == 16 || meet a n s.fsRange.1 s.fsRange.2 || meet a n s.newStore.1 s.newStore.2))
  else s.listed a n

/-! ## Translation (06 R117 to R122) -/

/-- A 64-bit table entry. -/
def State.rd64 (s : State) (a : Nat) : Nat := leNat (s.rdBytes a 8)

/-- Address field of a table entry. -/
def pteAddr (e : Nat) : Nat := e / 0x1000 % 0x10000000 * 0x1000

/-- The cached entry that covers an IOVA. -/
def State.tlbHit (s : State) (ctx iova : Nat) : Option TlbEntry :=
  s.mu.tlb.find? (fun e => e.ctx == ctx && decide (e.iova ≤ iova) && decide (iova < e.iova + e.size))

/-- Put an entry into the TLB; when it holds 256, one is evicted (log 5). -/
def State.tlbPut (s : State) (e : TlbEntry) : State :=
  if s.mu.tlb.length < 256 then { s with mu := { s.mu with tlb := s.mu.tlb ++ [e] } }
  else { s with freeCtr := s.freeCtr + 1,
                mu := { s.mu with tlb := s.mu.tlb.set (Config.tlbVictim s.freeCtr % 256) e } }

/-- A fault of the translation unit: class (1 TRANSLATION, 2 PERMISSION) and level code (06 R120). -/
structure XFault where
  cls : Nat
  level : Nat

/-- The entry a walk finds, or its fault (06 R118 to R120). -/
def State.walk (s : State) (ctx iova : Nat) : Except XFault TlbEntry :=
  let base := s.f (R.XLATE_CTX_BASE ctx) 26 0 * 0x2000
  let e1 := s.rd64 (base + 8 * (iova / 0x400000 % 0x400))
  if e1 % 2 = 0 then .error ⟨1, 1⟩
  else
    let t2 := pteAddr e1
    if ctx ≤ 3 ∧ !inShared t2 0x2000 then .error ⟨1, 1⟩
    else
      let i := iova / 0x1000 % 0x400
      let first := s.rd64 (t2 + 8 * (i / 16 * 16))
      let big := first / 8 % 2 = 1
      let e := if big then first else s.rd64 (t2 + 8 * i)
      if e % 2 = 0 then .error ⟨1, 2⟩
      else .ok { ctx := ctx, iova := (if big then iova / 0x10000 * 0x10000 else iova / 0x1000 * 0x1000),
                 size := (if big then 0x10000 else 0x1000), addr := pteAddr e, rd := e / 2 % 2 == 1, wr := e / 4 % 2 == 1 }

/-- Checks 4 and 5 of R120 on an entry: the physical address, or the fault. -/
def State.permit (s : State) (ctx iova n : Nat) (wr : Bool) (e : TlbEntry) : Except XFault Nat :=
  let a := e.addr + (iova - e.iova)
  if (if wr then e.wr else e.rd) then
    if s.reach ctx a n wr then .ok a else .error ⟨2, 4⟩
  else .error ⟨2, 3⟩

/-- Translate an access of `n` bytes that crosses no 4 KB boundary (06 R117, R120, R122). -/
def State.translate (s : State) (ctx iova n : Nat) (wr : Bool) : Except XFault Nat × State :=
  if ctx = 14 ∨ ctx = 15 then (.ok iova, s)
  else if !s.b R.XLATE_CTX_EN ctx ∨ (ctx ≤ 3 ∧ !inShared (s.f (R.XLATE_CTX_BASE ctx) 26 0 * 0x2000) 0x2000) then
    (.error ⟨1, 1⟩, s)
  else
    match s.tlbHit ctx iova with
    | some e => (s.permit ctx iova n wr e, s)
    | none =>
      let s := s.inc R.XLATE_TLB_STAT 31 0 1
      match s.walk ctx iova with
      | .error f => (.error f, s)
      | .ok e => (s.permit ctx iova n wr e, s.tlbPut e)

/-- Log a TRANSLATION or PERMISSION fault (06 R133). -/
def State.xfault (s : State) (ctx iova : Nat) (wr : Bool) (f : XFault) : State :=
  let n := s.f R.XFAULT_LOG_STAT 6 0
  if n < 64 then
    let e := [nw (ctx * 2 ^ 24 + f.cls * 2 ^ 20 + (if wr then 2 ^ 19 else 0) + f.level * 2 ^ 16), nw iova,
      nw s.dt, nw (s.dt / 2 ^ 32)]
    (({ s with mu := { s.mu with xflog := s.mu.xflog ++ [e] } }).wf R.XFAULT_LOG_STAT 6 0 (n + 1)).irq (R.XFAULT 0) 0
  else
    let first := s.f R.XFAULT_LOG_STAT 31 16 = 0
    let s := s.satInc R.XFAULT_LOG_STAT 31 16 1
    if first then s.irq (R.XFAULT 0) 1 else s

/-- A PERMISSION fault of the region check also writes an event record (06 R121, R132). -/
def State.xfaultEv (s : State) (f : XFault) : State := if f.cls = 2 then s.evGeneric R.XFAULT_LOG_STAT else s

/-- Invalidate the TLB entries of a context, or all (06 R122). -/
def State.xlateInv (s : State) (v : Word) : State :=
  let s := s.wf R.XLATE_INV 4 0 (fld v 4 0)
  if bit v 8 then
    { s with mu := { s.mu with tlb := if bit v 31 then [] else s.mu.tlb.filter (fun e => e.ctx != fld v 4 0) } }
  else s

/-! ## The tile directory (08 R171) -/

/-- Physical address of the tile directory. -/
def dirBase : Nat := 0x3F0000

/-- Is a field loaded? -/
def State.fieldLoaded (s : State) : Bool := s.b R.TILEDIR_FIELD_STAT 31

/-- Map bit of a tile inside the window. -/
def State.mapBit (s : State) (t : Tile) : Option Nat :=
  let i := t.x - toSigned 16 (s.f R.TILEDIR_ORIGIN 15 0)
  let j := t.y - toSigned 16 (s.f R.TILEDIR_ORIGIN 31 16)
  let ei : Int := s.f R.TILEDIR_EXTENT 15 0
  let ej : Int := s.f R.TILEDIR_EXTENT 31 16
  if s.fieldLoaded ∧ 0 ≤ i ∧ i < ei ∧ 0 ≤ j ∧ j < ej then some (j * ei + i).toNat else none

/-- Ordinal of a stored tile; none where the tile is not stored. -/
def State.tileOrd (s : State) (t : Tile) : Option Nat :=
  match s.mapBit t with
  | none => none
  | some b =>
    if (s.rd8 (dirBase + b / 8)).getLsbD (b % 8) then
      let row := b / 512
      let below := popCount (b % 512) (leNat (s.rdBytes (dirBase + 64 * row) 64))
      some ((s.rd32 (dirBase + 0x8000 + 4 * row)).toNat + below)
    else none

/-- Field-store address of a tile by its ordinal. -/
def State.tileAddr (s : State) (ord : Nat) : Nat := s.fsRange.1 + ord * 36864

/-! ## The Pantry (06 R123 to R127) -/

/-- Physical address of a Pantry slot. -/
def slotAddr (i : Nat) : Nat := i * 36864

/-- A Pantry slot. -/
def State.slot (s : State) (i : Nat) : PantrySlot := s.mu.slots.getD i PantrySlot.reset

/-- Store a Pantry slot. -/
def State.setSlot (s : State) (i : Nat) (p : PantrySlot) : State := { s with mu := { s.mu with slots := s.mu.slots.set i p } }

/-- The slot that holds or is being filled with a tile. -/
def State.slotOf (s : State) (t : Tile) : Option Nat :=
  (List.range 112).find? (fun i => (s.slot i).st != .free && !(s.slot i).discard && decide ((s.slot i).tile = t))

/-- Is a slot pinned (06 R125)? -/
def PantrySlot.pinned (p : PantrySlot) : Bool := p.probePin || p.retirePin

/-- The slot of a tile that hits: CLEAN, DIRTY or WRITEBACK (06 R124). -/
def State.tileHit (s : State) (t : Tile) : Option Nat :=
  match s.slotOf t with
  | some i => if (s.slot i).st = .filling then none else some i
  | none => none

/-- The slot with the least key among those that satisfy `p`. -/
def State.leastSlot (s : State) (p : PantrySlot → Bool) (key : PantrySlot → Nat) : Option Nat :=
  (List.range 112).foldl (fun (best : Option Nat) i =>
    if p (s.slot i) then
      match best with
      | some b => if key (s.slot i) < key (s.slot b) then some i else best
      | none => some i
    else best) none

/-- A slot for a fill, without write-back: FREE, else the least recently referenced CLEAN slot with no pin (06 R125). -/
def State.freeSlot (s : State) : Option Nat :=
  match s.leastSlot (fun p => decide (p.st = .free)) (fun _ => 0) with
  | some i => some i
  | none => s.leastSlot (fun p => decide (p.st = .clean) && !p.pinned) (·.lastRef)

/-- Could any slot be freed, at once or after a write-back (08 R183)? -/
def State.canFree (s : State) : Bool :=
  (List.range 112).any (fun i =>
    let p := s.slot i
    decide (p.st = .free) || (!p.pinned && decide (p.st ≠ .filling)))

/-- Begin the write-back of a slot: DMA14 queues it (06 R124). -/
def State.beginWb (s : State) (i : Nat) : State :=
  (({ s with mu := { s.mu with wbQ := s.mu.wbQ ++ [i] } }).setSlot i { s.slot i with st := .writeback, redirty := false, cellsSince := 0 })

/-- Start the next fill on an idle DMA15: demand fills go ahead of prefetch fills (06 R125). -/
def State.startFill (s : State) : State :=
  match s.mu.fillNow with
  | some _ => s
  | none =>
    let ready := s.mu.fillQ.filter (fun f => f.slot.isSome)
    match (ready.find? (·.demand)).or ready.head? with
    | some f => { s with mu := { s.mu with
        fillNow := f.slot, fillQ := s.mu.fillQ.filter (fun g => !(decide (g.tile = f.tile))) } }
    | none => s

/-- Give one waiting fill a slot: a slot FREE or freed CLEAN, else the oldest unpinned DIRTY slot goes to WRITEBACK and
the fill waits, else FULL_WAITS counts (06 R125). -/
def State.assignOne (s : State) (f : Fill) : State :=
  match s.freeSlot with
  | some i =>
    let s := s.setSlot i { PantrySlot.reset with st := .filling, tile := f.tile, lastRef := s.mu.refCtr + 1 }
    let s := { s with rast := { s.rast with
      damage := SMap.put (fun _ => 0) s.rast.damage i 0,
      prefetched := if f.demand then s.rast.prefetched.filter (· != i) else i :: s.rast.prefetched.filter (· != i) } }
    let s := if f.demand then s else s.inc R.PANTRY_PF_COUNT 31 16 1
    { s with mu := { s.mu with
        refCtr := s.mu.refCtr + 1,
        fillQ := s.mu.fillQ.map (fun g => if g.tile = f.tile then { g with slot := some i } else g) } }
  | none =>
    match s.leastSlot (fun p => decide (p.st = .dirty) && !p.pinned) (·.dirtySince) with
    | some i => s.beginWb i
    | none => if s.canFree then s else s.satInc R.XFAULT_TILE_STAT 31 16 1

/-- Give every waiting fill a slot where one can be had, demand fills first, then start DMA15. -/
def State.pump (s : State) : State :=
  let waiting := s.mu.fillQ.filter (fun f => f.slot.isNone)
  let order := waiting.filter (·.demand) ++ waiting.filter (fun f => !f.demand)
  (order.foldl State.assignOne s).startFill

/-- Queue a fill for a tile that no slot holds and no fill waits for. -/
def State.queueFill (s : State) (t : Tile) (demand : Bool) : State :=
  if (s.slotOf t).isSome then s
  else if s.mu.fillQ.any (fun f => decide (f.tile = t)) then
    if demand then { s with mu := { s.mu with
      fillQ := s.mu.fillQ.map (fun f => if f.tile = t then { f with demand := true } else f) } } else s
  else
    let s := if demand then s.inc R.XFAULT_TILE_STAT 15 0 1 else s
    { s with mu := { s.mu with fillQ := s.mu.fillQ ++ [⟨t, demand, none⟩] } }

/-- A tile request of the probe or the retire writer: a hit references and pins the slot; a miss raises TILE_ABSENT and
queues a demand fill (06 R124, R125, R132). -/
def State.requestTile (s : State) (t : Tile) (probe : Bool) : State :=
  match s.tileHit t with
  | some i =>
    let n := s.mu.refCtr + 1
    let p := s.slot i
    let s := (s.setSlot i { p with lastRef := n, probePin := p.probePin || probe }).inc R.PANTRY_HITS 31 0 1
    let used := s.rast.prefetched.contains i
    let s := if used then s.inc R.PANTRY_PF_COUNT 15 0 1 else s
    { s with mu := { s.mu with refCtr := n }, rast := { s.rast with prefetched := s.rast.prefetched.filter (· != i) } }
  | none => ((s.inc R.PANTRY_MISSES 31 0 1).queueFill t true).pump

/-- Copy bytes within the physical space. -/
def State.copy (s : State) (dst src n : Nat) : State := s.wrBytes dst (s.rdBytes src n)

/-- Write a slot's coverage layer back to the field store (06 R123). -/
def State.writeBack (s : State) (i : Nat) : State :=
  match s.tileOrd (s.slot i).tile with
  | some o => s.copy (s.tileAddr o) (slotAddr i) 16384
  | none => s

/-- Flush every DIRTY or WRITEBACK slot to the field store (06 R127). -/
def State.flushPantry (s : State) : State :=
  let s := (List.range 112).foldl (fun (s : State) i =>
    let p := s.slot i
    if p.st = .dirty ∨ p.st = .writeback then (s.writeBack i).setSlot i { p with st := .clean, redirty := false, cellsSince := 0 } else s) s
  { s with mu := { s.mu with wbQ := [] } }

/-- Free every slot; a fill in flight goes on and is discarded (06 R127). -/
def State.freePantry (s : State) : State :=
  let s := (List.range 112).foldl (fun (s : State) i =>
    if s.mu.fillNow = some i then s.setSlot i { s.slot i with discard := true } else s.setSlot i PantrySlot.reset) s
  { s with mu := { s.mu with fillQ := [], wbQ := [] },
           rast := { s.rast with absent := [], prefetched := [], damage := [] } }

/-! ## DMA channels (06 R128 to R131) -/

/-- STATE of a channel: 0 IDLE, 1 RUN, 2 STOPPING, 3 FAULTED, 4 ERROR. -/
def State.dmaSt (s : State) (ch : Nat) : Nat := s.f (R.DMA_STAT ch) 3 0

/-- A channel leaves RUN on a fault or an error (06 R130). -/
def State.dmaStop (s : State) (ch st code iova : Nat) : State :=
  let s := s.wf (R.DMA_STAT ch) 3 0 st
  let s := s.wf (R.DMA_STAT ch) 11 8 code
  let s := s.w (R.DMA_FLT_IOVA ch) (nw iova)
  s.irq (R.DMA ch 0) 1

/-- A translation or permission fault of a channel: FAULTED, logged, recorded (06 R130, R132). -/
def State.dmaFault (s : State) (ch iova : Nat) (wr : Bool) (f : XFault) : State :=
  ((s.dmaStop ch 3 f.cls iova).xfault ch iova wr f).xfaultEv f

/-- Is a descriptor well formed (06 R129)? -/
def descOk (d : List Word) : Bool :=
  fld (nth d 2) 31 24 == 0 && fld (nth d 2) 23 0 != 0 && fld (nth d 3) 31 3 == 0 && nth d 7 == 0 &&
    (bit (nth d 3) 1 || fld (nth d 5) 4 0 == 0)

/-- Fetch the descriptor at an IOVA: RUN at PROGRESS 0, or FAULTED, or ERROR with code DESC (06 R129, R130). -/
def State.dmaFetch (s : State) (ch iova : Nat) : State :=
  let s := s.w (R.DMA_CUR_DESC ch) (nw iova)
  let s := s.wf (R.DMA_PROGRESS ch) 23 0 0
  let s := (s.wf (R.DMA_STAT ch) 3 0 1).wf (R.DMA_STAT ch) 11 8 0
  match s.translate ch iova 32 false with
  | (.error f, s) => ({ s with mu := { s.mu with desc := s.mu.desc.set ch [] } }).dmaFault ch iova false f
  | (.ok a, s) =>
    let d := s.rdWords a 8
    let s := { s with mu := { s.mu with desc := s.mu.desc.set ch d } }
    if descOk d then s else s.dmaStop ch 4 4 iova

/-- The descriptor a channel is working on. -/
def State.dmaDesc (s : State) (ch : Nat) : List Word := s.mu.desc.getD ch []

/-- A descriptor ends: STATUS is written, DONE raised where asked, and NEXT fetched or the channel IDLE (06 R130). -/
def State.dmaEnd (s : State) (ch : Nat) : State :=
  let d := s.dmaDesc ch
  let stopping := s.dmaSt ch = 2
  let cur := (s.r (R.DMA_CUR_DESC ch)).toNat
  match s.translate ch (cur + 24) 4 true with
  | (.error f, s) => s.dmaFault ch (cur + 24) true f
  | (.ok a, s) =>
    let s := s.wr32 a (nw (0x80000000 + fld (nth d 2) 23 0))
    let s := s.inc (R.DMA_DONE_COUNT ch) 31 0 1
    let last := bit (nth d 3) 1
    let s := if last ∨ bit (nth d 3) 0 then s.irq (R.DMA ch 0) 0 else s
    if last then (({ s with mu := { s.mu with desc := s.mu.desc.set ch [] } }).wf (R.DMA_STAT ch) 3 0 0)
    else
      let s := s.dmaFetch ch (nth d 5).toNat
      if stopping ∧ s.dmaSt ch = 1 then s.wf (R.DMA_STAT ch) 3 0 0 else s

/-- Bytes the next burst of a channel moves: at most 256, over no 4 KB boundary of either side (06 R128). -/
def burstLen (d : List Word) (prog : Nat) : Nat :=
  let src := ((nth d 0).toNat + prog) % 4096
  let dst := ((nth d 1).toNat + prog) % 4096
  let n := min (min 256 (fld (nth d 2) 23 0 - prog)) (4096 - dst)
  if bit (nth d 3) 2 then n else min n (4096 - src)

/-- The bytes of a FILL burst. -/
def fillBytes (pat : Word) (prog n : Nat) : List Byte :=
  (List.range n).map (fun i => (wordBytes pat).getD ((prog + i) % 4) 0)

/-- Both addresses of a burst: source (none for a FILL) and destination, or the fault with its IOVA and direction. -/
def State.burstAddrs (s : State) (ch : Nat) (d : List Word) (prog n : Nat) :
    Except (XFault × Nat × Bool) (Option Nat × Nat) × State :=
  let dst := ((nth d 1).toNat + prog) % 2 ^ 32
  let src := ((nth d 0).toNat + prog) % 2 ^ 32
  if bit (nth d 3) 2 then
    match s.translate ch dst n true with
    | (.error f, s) => (.error (f, dst, true), s)
    | (.ok b, s) => (.ok (none, b), s)
  else
    match s.translate ch src n false with
    | (.error f, s) => (.error (f, src, false), s)
    | (.ok a, s) =>
      match s.translate ch dst n true with
      | (.error f, s) => (.error (f, dst, true), s)
      | (.ok b, s) => (.ok (some a, b), s)

/-- Must a burst wait for the zero fill of LPDDR4X (06 R114)? -/
def State.dramWait (s : State) (a : Nat) : Bool := decide (dramBase ≤ a) && !s.b R.LPDDR_CFG 4

/-- One burst of a channel in RUN or STOPPING; `ue` an uncorrectable error in what it reads (06 R130, R131). -/
def State.dmaBurst (s : State) (ch : Nat) (ue : Bool) : State :=
  if s.dmaSt ch = 1 ∨ s.dmaSt ch = 2 then
    let d := s.dmaDesc ch
    let prog := s.f (R.DMA_PROGRESS ch) 23 0
    if d = [] then s.dmaFetch ch (s.r (R.DMA_CUR_DESC ch)).toNat
    else
      let n := burstLen d prog
      match s.burstAddrs ch d prog n with
      | (.error (f, iova, wr), s) => s.dmaFault ch iova wr f
      | (.ok (src, dst), s) =>
        if s.dramWait dst || (match src with | some a => s.dramWait a | none => false) then s
        else if ue then (s.dmaStop ch 4 3 ((nth d 0).toNat + prog)).evGeneric (R.DMA_STAT ch)
        else
          let data := match src with
            | some a => s.rdBytes a n
            | none => fillBytes (nth d 4) prog n
          let s := (s.wrBytes dst data).wf (R.DMA_PROGRESS ch) 23 0 (prog + n)
          if prog + n = fld (nth d 2) 23 0 then s.dmaEnd ch
          else if s.dmaSt ch = 2 then s.wf (R.DMA_STAT ch) 3 0 0 else s
  else s

/-- May an origin write a channel's registers (06 R128)? -/
def dmaOwner (o : Origin) (ch : Nat) : Bool := if o.isHost then decide (ch < 4) else decide (4 ≤ ch)

/-- START (06 R130). -/
def State.dmaStart (s : State) (ch : Nat) : State :=
  if s.dmaSt ch = 0 then s.dmaFetch ch (fld (s.r (R.DMA_DESC_PTR ch)) 31 5 * 32) else s.flt (R.DMA ch 0) 0

/-- STOP (06 R130). -/
def State.dmaStopCmd (s : State) (ch : Nat) : State :=
  match s.dmaSt ch with
  | 1 => s.wf (R.DMA_STAT ch) 3 0 2
  | 3 => s.wf (R.DMA_STAT ch) 3 0 0
  | 4 => s.wf (R.DMA_STAT ch) 3 0 0
  | _ => s

/-- RESUME (06 R130). -/
def State.dmaResume (s : State) (ch : Nat) : State :=
  match s.dmaSt ch with
  | 0 => if s.dmaDesc ch = [] then s else (s.wf (R.DMA_STAT ch) 3 0 1).wf (R.DMA_STAT ch) 11 8 0
  | 3 => (s.wf (R.DMA_STAT ch) 3 0 1).wf (R.DMA_STAT ch) 11 8 0
  | 4 => if descOk (s.dmaDesc ch) then (s.wf (R.DMA_STAT ch) 3 0 1).wf (R.DMA_STAT ch) 11 8 0
         else s.dmaFetch ch (s.r (R.DMA_CUR_DESC ch)).toNat
  | _ => s

/-- A write of DESC_PTR (06 R130). -/
def State.dmaPtr (s : State) (ch : Nat) (v : Word) : State :=
  if s.dmaSt ch = 0 then s.w (R.DMA_DESC_PTR ch) (v &&& 0xFFFFFFE0#32) else s.flt (R.DMA ch 0) 0

/-- The action bits of a write to DMA CTRL. -/
def State.dmaCtrl (s : State) (ch : Nat) (v : Word) : State :=
  let s := if bit v 0 then s.dmaStart ch else s
  let s := if bit v 1 then s.dmaStopCmd ch else s
  if bit v 2 then s.dmaResume ch else s

end Sys2Proof.Machine
end

