-- ==== Sys2Proof/Machine/Table.lean ====
section
/-!
DEFINITION. The outlet table (09 R190, R194, R206): its records by word, and the fields of a record in any copy of it.
-/
namespace Sys2Proof.Machine

/-- Reset words of a table set: outlet `id` at 16 × id + w, section `s` at 0x4000 + s, remote record `r` at
0x5000 + 4 × r + w (09 R190, R194, R206; 10 R221; 12 R271). -/
def tblDefault (k : Nat) : Word :=
  if k < 0x4000 then
    match k % 16 with
    | 5 => 0xB2140000#32
    | 13 => 0x10000000#32
    | 14 => 0xB3232000#32
    | _ => 0
  else if 0x5000 ≤ k ∧ (k - 0x5000) % 4 = 2 then 0x64#32
  else 0

/-- A word of a table set. -/
def tword (t : SMap Word) (k : Nat) : Word := SMap.get tblDefault t k

/-- Word `w` of outlet record `id`. -/
def ow (t : SMap Word) (id w : Nat) : Word := tword t (16 * id + w)

/-- KIND: 0 LOCAL, 1 LOCAL_PWM, 2 BOOST, 3 MOTOR, 4 DIO, 5 REMOTE. -/
def oKind (t : SMap Word) (id : Nat) : Nat := fld (ow t id 0) 31 29
def oEn (t : SMap Word) (id : Nat) : Bool := bit (ow t id 0) 28
def oProbe (t : SMap Word) (id : Nat) : Bool := bit (ow t id 0) 27
def oBody (t : SMap Word) (id : Nat) : Nat := fld (ow t id 0) 26 25
def oVote (t : SMap Word) (id : Nat) : Bool := bit (ow t id 0) 24
def oTarget (t : SMap Word) (id : Nat) : Nat := fld (ow t id 0) 23 14
def oSecEn (t : SMap Word) (id : Nat) : Bool := bit (ow t id 0) 13
def oSection (t : SMap Word) (id : Nat) : Nat := fld (ow t id 0) 12 7
def oX (t : SMap Word) (id : Nat) : Int := sword (ow t id 1)
def oY (t : SMap Word) (id : Nat) : Int := sword (ow t id 2)
def oWidth (t : SMap Word) (id : Nat) : Nat := fld (ow t id 3) 31 16
def oLen (t : SMap Word) (id : Nat) : Nat := fld (ow t id 3) 15 0
def oAngle (t : SMap Word) (id : Nat) : Nat := (ow t id 4).toNat
def oCovEn (t : SMap Word) (id : Nat) : Bool := bit (ow t id 5) 31
def oCovOff (t : SMap Word) (id : Nat) : Nat := fld (ow t id 5) 30 24
def oBPolicy (t : SMap Word) (id : Nat) : Bool := bit (ow t id 5) 23
def oCovOn (t : SMap Word) (id : Nat) : Nat := fld (ow t id 5) 22 16
def oHdlOff (t : SMap Word) (id : Nat) : Bool := bit (ow t id 5) 15
def oBFrac (t : SMap Word) (id : Nat) : Nat := fld (ow t id 5) 14 8
def oBndBias (t : SMap Word) (id : Nat) : Nat := fld (ow t id 5) 7 6
def oCovBias (t : SMap Word) (id : Nat) : Nat := fld (ow t id 5) 5 4
def oTransport (t : SMap Word) (id : Nat) : Nat := fld (ow t id 6) 23 0
/-- Configured delay of a direction, µs. -/
def oDelay (t : SMap Word) (id : Nat) (on : Bool) : Nat := fld (ow t id (if on then 7 else 8)) 23 0
def oMinOff (t : SMap Word) (id : Nat) : Nat := fld (ow t id 9) 31 16
def oMinOn (t : SMap Word) (id : Nat) : Nat := fld (ow t id 9) 15 0
/-- Trim of a direction, signed µs. -/
def oTrim (t : SMap Word) (id : Nat) (on : Bool) : Int :=
  toSigned 16 (if on then fld (ow t id 10) 15 0 else fld (ow t id 10) 31 16)
/-- METER_KIND: 0 NONE, 1 ONOFF, 2 DUTY, 3 METER_SPEED, 4 INJECT. -/
def oMeter (t : SMap Word) (id : Nat) : Nat := fld (ow t id 11) 31 29
def oProduct (t : SMap Word) (id : Nat) : Nat := fld (ow t id 11) 28 27
def oUnderOff (t : SMap Word) (id : Nat) : Bool := bit (ow t id 11) 26
def oNozzle (t : SMap Word) (id : Nat) : Nat := fld (ow t id 11) 25 22
/-- Metering width, mm (10 R221). -/
def oAppWidth (t : SMap Word) (id : Nat) : Nat :=
  if fld (ow t id 12) 31 16 = 0 then oWidth t id else fld (ow t id 12) 31 16
def oRateScale (t : SMap Word) (id : Nat) : Nat := fld (ow t id 13) 31 16
def oLearnEn (t : SMap Word) (id : Nat) : Bool := bit (ow t id 14) 31
def oLearnK (t : SMap Word) (id : Nat) : Nat := fld (ow t id 14) 30 28
def oBndPct (t : SMap Word) (id : Nat) : Nat := fld (ow t id 14) 27 20
def oOutPct (t : SMap Word) (id : Nat) : Nat := fld (ow t id 14) 19 13
def oDset (t : SMap Word) (id : Nat) : Nat := fld (ow t id 14) 12 11

/-- Does an outlet actuate (09 R190)? -/
def oAct (t : SMap Word) (id : Nat) : Bool := oEn t id && !oVote t id

/-- Does an outlet drive an outlet channel: LOCAL or LOCAL_PWM? -/
def oLocal (t : SMap Word) (id : Nat) : Bool := decide (oKind t id ≤ 1)

/-- IDs whose record is enabled, ascending. -/
def enabledIds (t : SMap Word) : List Nat :=
  t.filterMap (fun e => if e.1 < 0x4000 ∧ e.1 % 16 = 0 ∧ bit e.2 28 = true then some (e.1 / 16) else none)

/-- IDs that actuate, ascending. -/
def actuating (t : SMap Word) : List Nat := (enabledIds t).filter (oAct t)

/-- Section entry fields (09 R194). -/
def secVote (t : SMap Word) (k : Nat) : Nat := fld (tword t (0x4000 + k)) 31 30
def secHeadEn (t : SMap Word) (k : Nat) : Bool := bit (tword t (0x4000 + k)) 29
def secHead (t : SMap Word) (k : Nat) : Nat := fld (tword t (0x4000 + k)) 28 19

/-- Voters of a section (09 R194). -/
def voters (t : SMap Word) (k : Nat) : List Nat :=
  (enabledIds t).filter (fun id => oSecEn t id && oProbe t id && oSection t id == k)

/-- Outlets that actuate on a section's wish (09 R195). -/
def secMembers (t : SMap Word) (k : Nat) : List Nat :=
  (actuating t).filter (fun id => oSecEn t id && oSection t id == k && (!secHeadEn t k || secHead t k == id))

/-- Remote record fields (09 R206). -/
def remPath (t : SMap Word) (r : Nat) : Nat := fld (tword t (0x5000 + 4 * r)) 31 28
def remReport (t : SMap Word) (r : Nat) : Bool := bit (tword t (0x5000 + 4 * r)) 27
def remAddr (t : SMap Word) (r : Nat) : Nat := fld (tword t (0x5000 + 4 * r)) 15 0
def remLatency (t : SMap Word) (r : Nat) : Nat := fld (tword t (0x5000 + 4 * r + 1)) 23 0
def remChannel (t : SMap Word) (r : Nat) : Nat := fld (tword t (0x5000 + 4 * r + 2)) 31 16
def remTimeout (t : SMap Word) (r : Nat) : Nat := fld (tword t (0x5000 + 4 * r + 2)) 15 0

/-- The active table set. -/
def State.tbl (s : State) : SMap Word := s.look.active

/-- The actuating outlet that names a target, of the kinds listed. -/
def State.outletOf (s : State) (kinds : List Nat) (target : Nat) : Option Nat :=
  (actuating s.tbl).find? (fun id => kinds.contains (oKind s.tbl id) && oTarget s.tbl id == target)

/-- Enabled outlets on an adjacent strip (08 R175): is the right edge inclusive, is the left edge exclusive. -/
def edgeRules (t : SMap Word) (id : Nat) : Bool × Bool :=
  let same (n : Nat) : Bool := n != id && oBody t n == oBody t id && decide (oX t n = oX t id) && oLen t n == oLen t id
  -- edges in half millimetres
  let right (n : Nat) : Int := 2 * oY t n + oWidth t n
  let left (n : Nat) : Int := 2 * oY t n - oWidth t n
  let l := (enabledIds t).filter same
  (l.any (fun n => decide (left n = right id) && decide (id < n)),
   l.any (fun n => decide (right n = left id) && decide (n < id)))

end Sys2Proof.Machine
end

