-- ==== Sys2Proof/Machine/RasterOps.lean ====
section
/-!
DEFINITION. Cells, footprints, the probe and coverage writing (08), and the lost-area counters (09 R214).
-/
namespace Sys2Proof.Machine

/-! ## Lost area and dropped slots (09 R214, 06 R115) -/

/-- The LOST counters (09 R214). -/
inductive LostCause where
  | ovf | pose | media | discard
  deriving DecidableEq, Repr

def LostCause.idx : LostCause → Nat
  | .ovf => 0
  | .pose => 1
  | .media => 2
  | .discard => 3

/-- Register that counts a cause. -/
def LostCause.reg (c : LostCause) : Nat := R.RETIRE_LOST_OVF + 4 * c.idx

/-- Count lost area in 0.001 m²; one event record per cause and second (09 R214). -/
def State.lost (s : State) (c : LostCause) (area : Nat) : State :=
  if area = 0 then s
  else
    let s := s.w c.reg (nw (satAdd 32 (s.r c.reg).toNat area))
    let was := s.fltB (R.RETIRE 0) 0
    let s := s.flt (R.RETIRE 0) 0
    let s := if was then s else s.irq (R.RETIRE 0) 0
    let sec := s.pkg.opTicks / 256
    if s.look.lostSec.getD c.idx none = some sec then s
    else ({ s with look := { s.look with lostSec := s.look.lostSec.set c.idx (some sec) } }).evGeneric c.reg

/-- Side of a cell in mm: CELL of FIELD_STAT (08 R161, R167). -/
def State.cellMm (s : State) : Nat :=
  match s.f R.TILEDIR_FIELD_STAT 1 0 with
  | 0 => 50
  | 1 => 100
  | _ => 200

/-- Area of cells in 0.001 m², rounded up. -/
def State.cellArea (s : State) (n : Nat) : Nat := (n * s.cellMm * s.cellMm + 999) / 1000

/-- Drop a slot for an uncorrectable error: FREE without write-back, its unwritten coverage lost (06 R115). -/
def State.dropSlot (s : State) (i : Nat) : State :=
  let n := (s.slot i).cellsSince
  let s := (s.setSlot i PantrySlot.reset).flt (R.PANTRY 0) 0
  let s := { s with mu := { s.mu with wbQ := s.mu.wbQ.filter (· != i) } }
  (s.evGeneric R.PANTRY_SLOT_SUM).lost .media (s.cellArea n)

/-! ## Cells (08 R161, R162, R166, R171) -/

/-- A cell by its two indices: cx, cy in FIELD; along-track or angle cell and lane in TRACK and CYCLIC. -/
structure Cell where
  u : Int
  v : Int
  deriving DecidableEq, Repr

/-- The tile that holds a cell. -/
def State.cellTile (s : State) (c : Cell) : Tile :=
  if s.axis = 0 then ⟨fdiv c.u 256, fdiv c.v 256⟩ else ⟨fdiv c.u 2048, 0⟩

/-- Index of a cell in the 2-bit layers of its tile. -/
def State.cellK (s : State) (c : Cell) : Nat :=
  if s.axis = 0 then (c.v % 256).toNat * 256 + (c.u % 256).toNat else c.v.toNat * 2048 + (c.u % 2048).toNat

/-- Byte offset of the prescription block of a cell in its layer. -/
def State.cellBlk (s : State) (c : Cell) : Nat :=
  if s.axis = 0 then 4 * ((c.v % 256).toNat / 8 * 32 + (c.u % 256).toNat / 8)
  else 4 * (c.v.toNat / 8 * 256 + (c.u % 2048).toNat / 8)

/-- A 2-bit entry of a layer at an address. -/
def State.rd2 (s : State) (a k : Nat) : Nat := (s.rd8 (a + k / 4)).toNat / 4 ^ (k % 4) % 4

/-- Store a 2-bit entry of a layer. -/
def State.wr2 (s : State) (a k v : Nat) : State :=
  let b := (s.rd8 (a + k / 4)).toNat
  let p := 4 ^ (k % 4)
  s.wr8 (a + k / 4) (BitVec.ofNat 8 (b - b / p % 4 * p + v % 4 * p))

/-- How a tile stands for the probe: not stored, absent, or in a slot (06 R123, 08 R171). -/
inductive TileView where
  | notStored
  | absent
  | at (slot : Nat)
  deriving DecidableEq, Repr

def State.viewTile (s : State) (t : Tile) : TileView :=
  match s.tileOrd t with
  | none => .notStored
  | some _ =>
    match s.tileHit t with
    | some i => .at i
    | none => .absent

/-! ## Footprints (08 R173 to R176) -/

/-- A footprint: its body, centre and size in that body's frame in mm, and the edge rules of R175. -/
structure Foot where
  b : Body
  x : Int
  y : Int
  w : Nat
  l : Nat
  rightIn : Bool
  leftEx : Bool

/-- Centre of a cell, 2^-16 mm: E and N; lateral offset and s in TRACK. -/
def State.cellCentre (s : State) (c : Cell) : Int × Int :=
  let g : Int := s.cellMm
  if s.axis = 0 then ((2 * c.u + 1) * g * 32768, (2 * c.v + 1) * g * 32768)
  else ((2 * (c.v - 16) + 1) * s.f R.LAYERS_LANE_CFG 15 0 * 32768, (2 * c.u + 1) * g * 32768)

/-- A centre in the footprint's body frame, 2^-8 mm (08 R174). -/
def Foot.frame (f : Foot) (e n : Int) : Int × Int :=
  let sn := Config.sinQ30 f.b.h
  let cs := Config.cosQ30 f.b.h
  (rnd ((e - f.b.e) * sn + (n - f.b.n) * cs) (2 ^ 38), rnd ((e - f.b.e) * cs - (n - f.b.n) * sn) (2 ^ 38))

/-- Is a centre owned by the footprint (08 R174, R175)? -/
def Foot.owns (f : Foot) (e n : Int) : Bool :=
  let p := f.frame e n
  let x0 := 256 * f.x - 128 * f.l
  let x1 := 256 * f.x + 128 * f.l
  let y0 := 256 * f.y - 128 * f.w
  let y1 := 256 * f.y + 128 * f.w
  decide (x0 ≤ p.1) && decide (p.1 < x1) &&
    (if f.leftEx then decide (y0 < p.2) else decide (y0 ≤ p.2)) &&
    (if f.rightIn then decide (p.2 ≤ y1) else decide (p.2 < y1))

/-- A point of the footprint's body in the field frame, 2^-46 mm; `x2`, `y2` in half mm (07 R150). -/
def Foot.pointAt (f : Foot) (x2 y2 : Int) : Int × Int :=
  let sn := Config.sinQ30 f.b.h
  let cs := Config.cosQ30 f.b.h
  (f.b.e * 2 ^ 30 + (x2 * sn + y2 * cs) * 32768, f.b.n * 2 ^ 30 + (x2 * cs - y2 * sn) * 32768)

/-- Its four corners. -/
def Foot.corners (f : Foot) : List (Int × Int) :=
  [f.pointAt (2 * f.x - f.l) (2 * f.y - f.w), f.pointAt (2 * f.x - f.l) (2 * f.y + f.w),
    f.pointAt (2 * f.x + f.l) (2 * f.y - f.w), f.pointAt (2 * f.x + f.l) (2 * f.y + f.w)]

/-- Least and largest of a list (0 when empty). -/
def minMax (l : List Int) : Int × Int := (l.foldl min (l.headD 0), l.foldl max (l.headD 0))

/-- Indices whose cell centre, of pitch `g` mm and origin shift `o` cells, lies in a closed range of 2^-46 mm. -/
def idxRange (g : Nat) (o : Int) (r : Int × Int) : List Int :=
  let d : Int := (g : Int) * 2 ^ 46
  let lo := - fdiv (-(r.1 - (g : Int) * 2 ^ 45)) d + o
  let hi := fdiv (r.2 - (g : Int) * 2 ^ 45) d + o
  (List.range (hi - lo + 1).toNat).map (fun (i : Nat) => lo + i)

/-- Candidates: cells whose centre lies in the closed bounding box (08 R173). -/
def State.candidates (s : State) (f : Foot) : List Cell :=
  let es := idxRange (if s.axis = 0 then s.cellMm else s.f R.LAYERS_LANE_CFG 15 0) (if s.axis = 0 then 0 else 16)
    (minMax (f.corners.map (·.1)))
  let ns := idxRange s.cellMm 0 (minMax (f.corners.map (·.2)))
  if s.axis = 0 then es.flatMap (fun e => ns.map (fun n => ⟨e, n⟩))
  else (es.filter (fun e => decide (0 ≤ e) && decide (e ≤ 31))).flatMap (fun e => ns.map (fun n => ⟨n, e⟩))

/-- The cell that contains the outlet point (08 R176). -/
def State.pointCell (s : State) (f : Foot) : Cell :=
  let p := f.pointAt (2 * f.x) (2 * f.y)
  if s.axis = 0 then ⟨fdiv p.1 ((s.cellMm : Int) * 2 ^ 46), fdiv p.2 ((s.cellMm : Int) * 2 ^ 46)⟩
  else ⟨fdiv p.2 ((s.cellMm : Int) * 2 ^ 46),
    clamp 0 31 (fdiv p.1 ((s.f R.LAYERS_LANE_CFG 15 0 : Int) * 2 ^ 46) + 16)⟩

/-- Owned cells, the outlet point's cell, and the cell tests taken. -/
structure Owned where
  cells : List Cell
  point : Cell
  tests : Nat

/-- The cells a footprint owns (08 R174 to R176). -/
def State.owned (s : State) (f : Foot) : Owned :=
  let cand := s.candidates f
  let own := cand.filter (fun c => let p := s.cellCentre c; f.owns p.1 p.2)
  let pc := s.pointCell f
  if own = [] then ⟨[pc], pc, cand.length + 1⟩ else ⟨own, pc, cand.length⟩

/-- The footprint of an outlet at a sample (07 R149). -/
def State.footAt (s : State) (t : SMap Word) (id : Nat) (smp : Sample) : Foot :=
  let er := edgeRules t id
  if s.axis = 1 then
    { b := ⟨0, smp.axis * 65536, 0⟩, x := if s.b R.GEOM_ODO_CFG 9 then - oX t id else oX t id, y := oY t id,
      w := oWidth t id, l := oLen t id, rightIn := er.1, leftEx := er.2 }
  else
    { b := smp.body.getD (oBody t id) ⟨0, 0, 0⟩, x := oX t id, y := oY t id, w := oWidth t id, l := oLen t id,
      rightIn := er.1, leftEx := er.2 }

/-- What an outlet's footprint owns at a sample; in CYCLIC the one angle cell (08 R176). -/
def State.ownedAt (s : State) (t : SMap Word) (id : Nat) (smp : Sample) : Owned :=
  if s.axis = 2 then
    let c : Cell := ⟨((smp.axis - oAngle t id) % 2 ^ 32) / 2 ^ 21, 0⟩
    ⟨[c], c, 1⟩
  else s.owned (s.footAt t id smp)

/-! ## The probe (08 R177 to R185) -/

/-- Does an absent tile take the fallback at a sample: waited long enough, or inside the commit horizon (08 R185)? -/
def State.fallsBack (s : State) (tl : Tile) (near : Bool) : Bool :=
  near || (match s.rast.absent.find? (fun a => decide (a.tile = tl)) with
    | some a => decide (usDT (s.f R.PROBE_CFG 31 16) ≤ s.dt - a.since)
    | none => false)

/-- One cell as the probe reads it: boundary code, covered, and whether its layer is missing or fell back. -/
structure CellVal where
  bnd : Nat
  cov : Bool
  missing : Bool
  fell : Bool

def State.readCell (s : State) (near : Bool) (c : Cell) : CellVal :=
  let tl := s.cellTile c
  match s.viewTile tl with
  | .notStored => ⟨0, false, false, false⟩
  | .at i => ⟨s.rd2 (slotAddr i + 16384) (s.cellK c), decide (0 < s.rd2 (slotAddr i) (s.cellK c)), false, false⟩
  | .absent =>
    if s.fallsBack tl near then ⟨if s.b R.LAYERS_FALLBACK 0 then 1 else 0, s.b R.LAYERS_FALLBACK 1, false, true⟩
    else ⟨0, false, true, false⟩

/-- The default rate of every product (08 R171). -/
def rxDefault : List Nat := [256, 256, 256, 256]

/-- Fallback of the prescription layer (08 R185). -/
def State.rxFallback (s : State) (id : Nat) : List Nat :=
  if s.b R.LAYERS_FALLBACK 2 then SMap.get (fun _ => rxDefault) s.rast.lastRx id else rxDefault

/-- Rate indices of the block that holds the outlet point: with whether missing, fallen back, from a stored tile
(08 R180). -/
def State.readRx (s : State) (id : Nat) (near : Bool) (c : Cell) : List Nat × Bool × Bool × Bool :=
  let tl := s.cellTile c
  match s.viewTile tl with
  | .notStored => (rxDefault, false, false, false)
  | .at i =>
    if (SMap.get (fun _ => 0) s.rast.damage i).testBit (s.cellBlk c / 64) then (s.rxFallback id, false, true, false)
    else ((s.rdBytes (slotAddr i + 32768 + s.cellBlk c) 4).map (·.toNat), false, false, true)
  | .absent => if s.fallsBack tl near then (s.rxFallback id, false, true, false) else (rxDefault, true, false, false)

/-- Is COV_EN in force: forced 0 in CYCLIC (08 R177). -/
def State.covOn (s : State) (t : SMap Word) (id : Nat) : Bool := s.axis != 2 && oCovEn t id

/-- The boundary wish (08 R179). -/
def bndWish (t : SMap Word) (id nBad nTotal : Nat) : Bool :=
  if oBPolicy t id then decide (nBad * 100 ≤ oBFrac t id * nTotal) else nBad == 0

/-- The coverage wish after a sample, from the state before it (08 R178). -/
def covWish (en : Bool) (t : SMap Word) (id nCov nTotal : Nat) (was : Bool) : Bool :=
  if was then !(en && decide (oCovOff t id * nTotal ≤ nCov * 100))
  else !en || decide (nCov * 100 ≤ oCovOn t id * nTotal)

/-- The probe result of an outlet at a sample; `apply` is the coverage state before it (08 R178 to R180). -/
def State.probeAt (s : State) (t : SMap Word) (id : Nat) (smp : Sample) (apply near : Bool) : ProbeRes :=
  let o := s.ownedAt t id smp
  let vals := o.cells.map (s.readCell near)
  let n := vals.length
  let nCov := (vals.filter (·.cov)).length
  let nBad := (vals.filter (fun v => v.bnd == 0 || v.bnd == 3 || (v.bnd == 2 && oHdlOff t id))).length
  let rx := s.readRx id near o.point
  { nTotal := n, nCov := nCov, nBad := nBad, headland := vals.any (fun v => v.bnd == 2),
    bnd := bndWish t id nBad n, cov := covWish (s.covOn t id) t id nCov n apply,
    missing := vals.any (·.missing) || rx.2.1, fellBack := vals.any (·.fell) || rx.2.2.1, rx := rx.1,
    cand := o.tests }

/-- The outlet's wish at a sample (08 R179). -/
def ProbeRes.wish (p : ProbeRes) : Bool := p.bnd && p.cov

/-- µs between samples. -/
def State.stepUs (s : State) : Nat := s.f R.PRED_CFG 23 16 * 1000

/-- The pose `us` µs after a sample by the predictor's step model (07 R151, 08 R181). -/
def State.partStep (s : State) (a : Sample) (k us : Nat) : Sample :=
  let b := a.body.getD 0 ⟨0, 0, 0⟩
  let b1 := a.body.getD 1 b
  let b2 := a.body.getD 2 b1
  let g1 := angOf (angDiff b.h b1.h)
  let g2 := angOf (angDiff b1.h b2.h)
  let w := s.yawAt (sword (s.r (R.POSEIN_LAST_POSE 7))) ((2 * k + 1) * s.f R.PRED_CFG 23 16)
  let b' := arcStep b a.v w us
  let g := s.heun a.v w g1 g2 us
  let ax : Int :=
    match s.axis with
    | 1 => a.axis + rnd (a.v * us) 1000000000
    | 2 => angOf (a.axis + fdiv (s.pose.omega * 256 * us) 1000000)
    | _ => 0
  { t := a.t + usDT us, body := s.bodies b' g.1 g.2, axis := ax, v := a.v, w := w }

/-- What a refinement looks at: 0 boundary wish, 1 coverage wish, 2 wish, 3 rate indices. -/
def ProbeRes.part (p : ProbeRes) (what : Nat) : List Nat :=
  match what with
  | 0 => [if p.bnd then 1 else 0]
  | 1 => [if p.cov then 1 else 0]
  | 2 => [if p.wish then 1 else 0]
  | _ => p.rx

/-- Bisect a change over grid points `lo` and `hi`: the last with the old result, the first with the new, the result
there, and the cell tests taken (08 R181). -/
def State.bisect (s : State) (t : SMap Word) (id : Nat) (a : Sample) (k what : Nat) (old : ProbeRes) (apply near : Bool) :
    Nat → Nat → Nat → ProbeRes → Nat → Nat × Nat × ProbeRes × Nat
  | 0, lo, hi, res, tests => (lo, hi, res, tests)
  | n + 1, lo, hi, res, tests =>
    if hi ≤ lo + 1 then (lo, hi, res, tests)
    else
      let mid := (lo + hi) / 2
      let p := s.probeAt t id (s.partStep a k (mid * s.f R.PROBE_CFG 15 0)) apply near
      if p.part what = old.part what then s.bisect t id a k what old apply near n mid hi res (tests + p.cand)
      else s.bisect t id a k what old apply near n lo mid p (tests + p.cand)

/-- The refined changes between samples `k` and `k + 1` (08 R181), with the cell tests they took. -/
def State.refine (s : State) (t : SMap Word) (id : Nat) (a : Sample) (k : Nat) (r0 r1 : ProbeRes) (near : Bool) :
    List Change × Nat :=
  if r0.wish = r1.wish ∧ r0.rx = r1.rx then ([], 0)
  else
    let us := s.f R.PROBE_CFG 15 0
    let g := s.stepUs / max 1 us
    ([0, 1, 2, 3].filter (fun q => r0.part q != r1.part q)).foldl (fun (acc : List Change × Nat) q =>
      let b := s.bisect t id a k q r0 r0.cov near 20 0 g r1 0
      (acc.1 ++ [⟨q, k, (k * s.stepUs + b.1 * us : Nat), (k * s.stepUs + b.2.1 * us : Nat), b.2.2.1⟩], acc.2 + b.2.2.2))
      ([], 0)

/-- Is a sample inside the commit horizon of the frame (08 R185)? -/
def State.nearSample (s : State) (f : DT) (smp : Sample) : Bool :=
  decide (smp.t ≤ f + usDT (900 + s.f R.COMMIT_CFG 15 0))

/-- All results of one outlet over the samples given, and the cell tests (08 R173, R178). -/
def State.probeRun (s : State) (t : SMap Word) (id : Nat) (f : DT) : List Sample → Nat → Bool → Option (Sample × ProbeRes) →
    OutletProbe × Nat → OutletProbe × Nat
  | [], _, _, _, acc => acc
  | smp :: rest, k, apply, prev, (op, tests) =>
    let near := s.nearSample f smp
    let p := s.probeAt t id smp apply near
    let ch := match prev with
      | some (a, q) => s.refine t id a (k - 1) q p near
      | none => ([], 0)
    s.probeRun t id f rest (k + 1) p.cov (some (smp, p))
      ({ op with res := op.res ++ [p], changes := op.changes ++ ch.1 }, tests + p.cand + ch.2)

/-- The outlets the probe tests (08 R173). -/
def probed (t : SMap Word) : List Nat := (enabledIds t).filter (oProbe t)

/-- State of an outlet after its newest committed edge (09 R196). -/
def State.newestOn (s : State) (id : Nat) : Bool :=
  (SMap.get (fun _ => (⟨[], false, none, false, 0, 0⟩ : OutletQ)) s.look.queues id).newest

/-- The stored tiles a footprint's test at a sample reads. -/
def State.tilesRead (s : State) (t : SMap Word) (id : Nat) (smp : Sample) : List Tile :=
  let f := s.footAt t id smp
  let cells := if s.axis = 2 then (s.ownedAt t id smp).cells else s.pointCell f :: s.candidates f
  ((cells.map s.cellTile).eraseDups).filter (fun tl => (s.tileOrd tl).isSome)

/-- Note a tile's absence from its first TILE_ABSENT on; an episode ends when the tile lands (08 R185). -/
def State.noteAbsent (s : State) (tl : Tile) : State :=
  if s.rast.absent.any (fun a => decide (a.tile = tl)) then s
  else { s with rast := { s.rast with absent := s.rast.absent ++ [⟨tl, s.dt, false⟩] } }

/-- Ask for one tile of a sample: false when no slot can be had for it (08 R183). -/
def State.askTile (acc : State × Bool) (tl : Tile) : State × Bool :=
  let s := acc.1
  if !acc.2 then acc
  else if (s.slotOf tl).isNone && !s.canFree then (s, false)
  else
    let s := if (s.tileHit tl).isNone then s.noteAbsent tl else s
    (s.requestTile tl true, true)

/-- Ask for the tiles of every sample in ascending time; the first sample that cannot have one truncates the probe. -/
def State.askTiles (t : SMap Word) (ids : List Nat) : List Sample → Nat → State → State × Option Nat
  | [], _, s => (s, none)
  | smp :: rest, k, s =>
    let tiles := (ids.flatMap (fun id => s.tilesRead t id smp)).eraseDups
    let r := tiles.foldl State.askTile (s, true)
    if r.2 then State.askTiles t ids rest (k + 1) r.1 else (r.1, some k)

/-- Rate indices last taken from a stored tile (08 R185). -/
def State.keepRx (s : State) (id : Nat) (smp : Sample) : State :=
  let r := s.readRx id true (s.ownedAt s.tbl id smp).point
  if r.2.2.2 then
    { s with rast := { s.rast with lastRx := SMap.put (fun _ => rxDefault) s.rast.lastRx id r.1 } } else s

/-- Begin the fallback episode of an absent tile that some sample took the fallback for (08 R185). -/
def State.startEpisode (s : State) (tl : Tile) : State :=
  let s := { s with rast := { s.rast with
    absent := s.rast.absent.map (fun (a : Absence) => if a.tile = tl then { a with fell := true } else a) } }
  let s := (((s.inc R.PROBE_FB_BND 31 0 1).inc R.PROBE_FB_COV 31 0 1).inc R.PROBE_FB_RX 31 0 1).flt (R.PROBE 0) 1
  (s.irq (R.PROBE 0) 0).evGeneric R.PROBE_FB_BND

/-- Absent tiles that some probed sample fell back on and whose episode is not yet counted. -/
def State.newEpisodes (s : State) (t : SMap Word) (ids : List Nat) (f : DT) (smps : List Sample) : List Tile :=
  (s.rast.absent.filter (fun a => !a.fell && smps.any (fun smp => s.fallsBack a.tile (s.nearSample f smp) &&
    ids.any (fun id => (s.tilesRead t id smp).contains a.tile)))).map (·.tile)

/-- Form the results of every probed outlet over the samples before the truncation (08 R173 to R185). -/
def State.probeResults (s : State) (f : DT) : State :=
  let t := s.tbl
  let ids := probed t
  let smps := match s.rast.trunc with
    | some k => s.pose.traj.take k
    | none => s.pose.traj
  let eps := s.newEpisodes t ids f smps
  let runs := ids.map (fun id => s.probeRun t id f smps 0 (s.newestOn id) none (⟨id, [], []⟩, 0))
  let tests := (runs.map (·.2)).foldl (· + ·) 0
  let s := eps.foldl State.startEpisode s
  let s := match smps.head? with
    | some smp => ids.foldl (fun (s : State) id => s.keepRx id smp) s
    | none => s
  let s := (s.wf R.PROBE_STAT 31 16 (min (tests / 1000) 0xFFFF)).wf R.PROBE_STAT 15 0 (min ((tests + 25599) / 25600) 0xFFFF)
  { s with rast := { s.rast with probes := runs.map (·.1) } }

/-- A word of the diagnostic window (08 R188): counts and wishes of a result. -/
def ProbeRes.diag (p : ProbeRes) : Word :=
  nw (min p.nTotal 255 * 2 ^ 24 + min p.nCov 255 * 2 ^ 16 + min p.nBad 255 * 2 ^ 8 + (if p.headland then 8 else 0) +
    (if p.bnd then 4 else 0) + (if p.cov then 2 else 0) + (if p.missing || p.fellBack then 1 else 0))

/-- The diagnostic records of DIAG_SEL's outlet (08 R188); the default rate shows as index 0. -/
def State.diagOf (s : State) : List (List Word) :=
  match s.rast.probes.find? (fun p => p.id == s.f R.PROBE_DIAG_SEL 9 0) with
  | some p => (p.changes.take 16).map (fun c =>
      [wordOf c.lo, wordOf c.hi, c.res.diag, nw (leNat (c.res.rx.map (BitVec.ofNat 8)))])
  | none => []

/-- The first UNPROBED sample of the frame, with its register, event and fault (08 R183). -/
def State.noteTrunc (s : State) (k : Option Nat) : State :=
  let s := { s with rast := { s.rast with trunc := k } }
  match k with
  | some k => ((s.wf R.PROBE_TRUNC 15 0 (k * s.f R.PRED_CFG 23 16)).satInc R.PROBE_TRUNC 31 16 1 |>.irq (R.PROBE 0) 1).flt (R.PROBE 0) 0
  | none => s.wf R.PROBE_TRUNC 15 0 0xFFFF

/-! ## Prefetch (08 R184) -/

/-- Insert by key, ascending, after equal keys. -/
def insKey {α : Type} (key : α → Nat) (x : α) : List α → List α
  | [] => [x]
  | y :: t => if key x < key y then x :: y :: t else y :: insKey key x t

/-- Sort by key, ascending, equal keys in their order. -/
def sortKey {α : Type} (key : α → Nat) (l : List α) : List α := l.foldl (fun acc x => insKey key x acc) []

/-- Samples of the extension of the last sample along its heading at its speed, one a STEP_MS. -/
def State.extension (s : State) (a : Sample) : List Sample :=
  (List.range (s.f R.PANTRY_PF_CFG 31 16 * 1000 / max 1 s.stepUs)).map (fun (i : Nat) =>
    let us : Int := (i + 1) * s.stepUs
    let mv (b : Body) : Body := arcStep b a.v 0 us
    { a with body := a.body.map mv, axis := if s.axis = 1 then a.axis + rnd (a.v * us) 1000000000 else a.axis })

/-- The eight tiles that border a tile. -/
def neighbours (t : Tile) : List Tile :=
  [(-1, -1), (0, -1), (1, -1), (-1, 0), (1, 0), (-1, 1), (0, 1), (1, 1)].map (fun (p : Int × Int) => ⟨t.x + p.1, t.y + p.2⟩)

/-- Distance of a tile's centre from the vehicle, in mm: along and across in FIELD, along the axis otherwise. -/
def State.tileDist (s : State) (a : Sample) (t : Tile) : Nat :=
  let side : Int := (if s.axis = 0 then 256 else 2048) * (s.cellMm : Int)
  let b := a.body.getD 0 ⟨0, 0, 0⟩
  if s.axis = 0 then hyp (t.x * side + side / 2 - fdiv b.e 65536) (t.y * side + side / 2 - fdiv b.n 65536)
  else (t.x * side + side / 2 - a.axis).natAbs

/-- Queue the prefetch fills of a frame (08 R184). -/
def State.prefetch (s : State) : State :=
  let t := s.tbl
  let ids := probed t
  match s.pose.traj.getLast?, s.pose.traj.head? with
  | some last, some first =>
    let ext := (s.extension last).flatMap (fun smp => ids.flatMap (fun id => s.tilesRead t id smp))
    let seen := (s.pose.traj.flatMap (fun smp => ids.flatMap (fun id => s.tilesRead t id smp))).eraseDups
    let brd := (seen.flatMap neighbours).filter (fun tl => (s.tileOrd tl).isSome)
    let absent := ((ext ++ brd).eraseDups).filter (fun tl => (s.slotOf tl).isNone)
    let pick := (sortKey (s.tileDist first) absent).take (s.f R.PANTRY_PF_CFG 5 0)
    (pick.foldl (fun (s : State) tl => s.queueFill tl false) s).pump
  | _, _ => s

/-! ## Coverage writing (08 R163, 09 R211, R212) -/

/-- Count one coverage increment of a cell in a slot (08 R163, R188). -/
def State.coverCell (s : State) (i : Nat) (c : Cell) : State :=
  let v := s.rd2 (slotAddr i) (s.cellK c)
  if v = 3 then s
  else
    let s := s.wr2 (slotAddr i) (s.cellK c) (v + 1)
    s.inc (R.LAYERS_COV1_CELLS + 4 * v) 31 0 1

/-- A retire write touches a slot: CLEAN goes DIRTY, WRITEBACK takes REDIRTY (06 R124). -/
def State.dirtySlot (s : State) (i cells : Nat) : State :=
  let p := s.slot i
  let n := s.mu.refCtr + 1
  let p := { p with lastRef := n, cellsSince := p.cellsSince + cells }
  let p := match p.st with
    | .clean => { p with st := .dirty, dirtySince := s.dt }
    | .writeback => { p with redirty := true }
    | _ => p
  { (s.setSlot i p) with mu := { (s.setSlot i p).mu with refCtr := n } }

/-- The footprint of a retire record at sub-step `i` of `m` (09 R211, R212). -/
def State.recFoot (s : State) (w : List Word) (i m : Nat) : Foot :=
  let ip (a b : Int) : Int := if m = 0 then a * 65536 else a * 65536 + rnd ((b - a) * 65536 * i) m
  let h0 := fld (nth w 5) 31 16
  let dh := toSigned 16 ((fld (nth w 5) 15 0 + 65536 - h0) % 65536)
  let h := angOf ((h0 : Int) * 65536 + (if m = 0 then 0 else rnd (dh * 65536 * i) m))
  let p := ip (sword (nth w 1)) (sword (nth w 3))
  let q := ip (sword (nth w 2)) (sword (nth w 4))
  { b := if s.axis = 1 then ⟨q, p, 0⟩ else ⟨p, q, h⟩, x := 0, y := 0, w := fld (nth w 6) 31 16, l := fld (nth w 6) 15 0,
    rightIn := bit (nth w 7) 15, leftEx := bit (nth w 7) 14 }

/-- Largest move of a corner between neighbouring sub-steps, in 2^-46 mm. -/
def State.cornerMove (s : State) (w : List Word) (m : Nat) : Nat :=
  ((List.range m).flatMap (fun i =>
    ((s.recFoot w i m).corners.zip (s.recFoot w (i + 1) m).corners).map (fun q => hyp (q.1.1 - q.2.1) (q.1.2 - q.2.2)))).foldl max 0

/-- Least number of sub-steps for which no corner moves more than min(LENGTH, c) / 2, tried from `m` on (09 R212). -/
def State.subSteps (s : State) (w : List Word) : Nat → Nat → Nat
  | 0, m => m
  | n + 1, m =>
    if s.cornerMove w m ≤ min (fld (nth w 6) 15 0) s.cellMm * 2 ^ 45 ∨ fld (nth w 6) 15 0 = 0 then m else s.subSteps w n (m + 1)

/-- The cells a retire record writes (09 R212): owned at some sub-step, without those of sub-step 0 unless FIRST. -/
def State.sweep (s : State) (w : List Word) : List Cell :=
  let m := s.subSteps w 4096 1
  let at_ (i : Nat) : List Cell :=
    let f := s.recFoot w i m
    (s.candidates f).filter (fun c => let p := s.cellCentre c; f.owns p.1 p.2)
  let all := ((List.range (m + 1)).flatMap at_).eraseDups
  if bit (nth w 0) 31 then all else all.filter (fun c => !(at_ 0).contains c)

/-- Write a retire record whose stored tiles are all in slots (09 R212, R213); cells of tiles not stored are discarded. -/
def State.writeSweep (s : State) (w : List Word) : State :=
  let cells := s.sweep w
  let tiles := (cells.map s.cellTile).eraseDups
  let s := tiles.foldl (fun (s : State) tl =>
    match s.tileHit tl with
    | some i =>
      let mine := cells.filter (fun c => decide (s.cellTile c = tl))
      (mine.foldl (fun (s : State) c => s.coverCell i c) s).dirtySlot i mine.length
    | none => s) s
  s.inc R.RETIRE_RECORDS 31 0 1

/-- Stored tiles a record's sweep touches. -/
def State.sweepTiles (s : State) (w : List Word) : List Tile :=
  (((s.sweep w).map s.cellTile).eraseDups).filter (fun tl => (s.tileOrd tl).isSome)

/-- May a record be written: every stored tile in a slot CLEAN, DIRTY or WRITEBACK (09 R213)? -/
def State.sweepReady (s : State) (w : List Word) : Bool := (s.sweepTiles w).all (fun tl => (s.tileHit tl).isSome)

end Sys2Proof.Machine
end

