-- ==== Sys2Proof/Machine/MeterOps.lean ====
section
/-!
DEFINITION. Metering arithmetic, the rate log and the totals (10) as shared operations.
-/
namespace Sys2Proof.Machine

/-! ## Lookups -/

/-- Entry of a product's active rate table; entry 256 is the default rate (10 R220). -/
def State.rate (s : State) (p entry : Nat) : Nat := (SMap.get (fun _ => (0 : Word)) s.meter.active (257 * p + entry)).toNat

/-- Word of a nozzle table. -/
def State.nozzleW (s : State) (n w : Nat) : Word := SMap.get (fun _ => 0) s.meter.nozzle (16 * n + w)

/-- F[i] of a nozzle table (10 R227, R238). -/
def State.nozzleF (s : State) (n i : Nat) : Nat :=
  let w := s.nozzleW n (2 + i / 2)
  if i % 2 = 0 then fld w 15 0 else fld w 31 16

/-- PULSE[j] and QTY[j] of an injector table. -/
def State.injPulse (s : State) (b j : Nat) : Nat := fld (SMap.get (fun _ => 0) s.meter.injector (16 * b + 2 * j)) 23 0
def State.injQty (s : State) (b j : Nat) : Nat := (SMap.get (fun _ => (0 : Word)) s.meter.injector (16 * b + 2 * j + 1)).toNat

/-- Is an outlet metered (10 R221)? -/
def State.isMetered (s : State) (t : SMap Word) (id : Nat) : Bool :=
  decide (1 ≤ oMeter t id) && decide (oMeter t id ≤ 4) && s.b (R.METER_PCFG (oProduct t id)) 31

/-- Metered outlets of the active table. -/
def State.meteredIds (s : State) : List Nat := (enabledIds s.tbl).filter (s.isMetered s.tbl)

/-- Published output of an outlet. -/
def State.meterOut (s : State) (id : Nat) : Option MeterOut := (s.meter.out.find? (fun e => e.1 == id)).map (·.2)

/-! ## Pressure and nozzles (10 R227, R228) -/

/-- Pressure of a product in 2^-16 kPa; none while it is not used or invalid (10 R227). -/
def State.pressure (s : State) (p : Nat) : Option Int :=
  let cfg := s.r (R.METER_PCFG p)
  let code := s.r (R.AING_AIN_CODE (fld cfg 22 19))
  if bit cfg 18 && bit code 31 then
    let v := ((fld code 15 0 : Int) - s.f (R.METER_PZERO p) 15 0) * sword (s.r (R.METER_PSPAN p))
    if 0 < v then some v else none
  else none

/-- Flow at full duty of a nozzle, Q16.16 per minute (10 R227). -/
def State.fullFlow (s : State) (p n : Nat) : Nat :=
  let q := (s.nozzleW n 1).toNat
  match s.pressure p with
  | some v => isqrt (q * q * v.toNat / (max 1 (fld (s.nozzleW n 0) 15 0) * 65536))
  | none => q

/-- Duty for a fraction of the full flow, and whether it is above the table (10 R227 step 4). -/
def State.nozzleDuty (s : State) (n f : Nat) : Nat × Bool :=
  if s.nozzleF n 16 ≤ f then (0xFFFF, true)
  else
    match (List.range 16).find? (fun i => decide (s.nozzleF n i ≤ f) && decide (f < s.nozzleF n (i + 1))) with
    | some i =>
      (4096 * i + (rnd (4096 * ((f : Int) - s.nozzleF n i)) ((s.nozzleF n (i + 1) : Int) - s.nozzleF n i)).toNat, false)
    | none => (0, false)

/-- Output of a DUTY outlet: duty, SUSPENDED, OVER, UNDER (10 R227, R228). -/
def State.dutyOut (s : State) (t : SMap Word) (id q : Nat) (v : Nat) (was : Bool) : Nat × Bool × Bool × Bool :=
  let n := oNozzle t id
  let full := s.fullFlow (oProduct t id) n
  let f := if full = 0 then 0 else (rnd (q * 32768 : Int) full).toNat
  let d := s.nozzleDuty n f
  let mn := fld (s.nozzleW n 0) 31 16
  if d.2 then (0xFFFF, false, true, false)
  else if d.1 < mn ∨ v = 0 then if oUnderOff t id then (d.1, true, false, true) else (mn, false, false, true)
  else if was = true ∧ d.1 < mn + 1024 then (d.1, true, false, true)
  else (d.1, false, false, false)

/-- Shot length of an INJECT outlet in µs, OVER, UNDER (10 R228); 0 where no peak is made. -/
def State.shotLen (s : State) (t : SMap Word) (id qty : Nat) : Nat × Bool × Bool :=
  let b := oTarget t id
  if qty < s.injQty b 0 then (if oUnderOff t id then 0 else s.injPulse b 0, false, true)
  else if s.injQty b 7 < qty then (s.injPulse b 7, true, false)
  else
    match (List.range 7).find? (fun j => decide (s.injQty b j ≤ qty) && decide (qty ≤ s.injQty b (j + 1))) with
    | some j =>
      let dq : Int := (s.injQty b (j + 1) : Int) - s.injQty b j
      (((s.injPulse b j : Int) + (if dq = 0 then 0 else rnd (((s.injPulse b (j + 1) : Int) - s.injPulse b j) *
        ((qty : Int) - s.injQty b j)) dq)).toNat, false, false)
    | none => (s.injPulse b 7, false, false)

/-- Shot quantity R × QTY_SCALE, Q16.16 (10 R228). -/
def State.shotQty (s : State) (p rate : Nat) : Nat := (rnd (rate * s.f (R.METER_QTY_SCALE p) 15 0 : Int) 256).toNat

/-! ## Rate, speed, conversion (10 R222 to R225) -/

/-- Rate indices the probe reports at `us` µs after F, and LEAD_CLIP (10 R222). -/
def rxAt (op : OutletProbe) (stepUs us : Nat) : Option ProbeRes × List Nat × Bool :=
  let n := op.res.length
  let k := us / max 1 stepUs
  if n ≤ k + 1 ∧ (n - 1) * stepUs < us then
    match op.res.getLast? with
    | some r => (some r, r.rx, true)
    | none => (none, rxDefault, true)
  else
    match op.res[k]? with
    | none => (none, rxDefault, true)
    | some r =>
      match (op.changes.filter (fun c => c.what == 3 && c.k == k && decide (c.hi ≤ (us : Int)))).getLast? with
      | some c => (some r, c.res.rx, false)
      | none => (some r, r.rx, false)

/-- Speed and yaw rate of body `b` at a sample (07 R147). -/
def State.bodyRates (s : State) (smp : Sample) (b : Nat) : Int × Int :=
  let b0 := smp.body.getD 0 ⟨0, 0, 0⟩
  let b1 := smp.body.getD 1 b0
  let b2 := smp.body.getD 2 b1
  let g1 := angOf (angDiff b0.h b1.h)
  let g2 := angOf (angDiff b1.h b2.h)
  let d := s.hitchRates smp.v smp.w g1 g2
  let v1 := implSpeed smp.v smp.w g1 (- sword (s.r R.GEOM_HITCH1_X))
  let w1 := smp.w - d.1
  match b with
  | 0 => (smp.v, smp.w)
  | 1 => (v1, w1)
  | _ => (implSpeed v1 w1 g2 (- sword (s.r R.GEOM_HITCH2_X)), w1 - d.2)

/-- A value between two samples, `us` µs after the first. -/
def mixAt (us stepUs : Nat) (a b : Int) : Int := if stepUs = 0 then a else a + rnd ((b - a) * us) stepUs

/-- Speed and yaw rate of an outlet's body at F + L (10 R223). -/
def State.ratesAt (s : State) (b us : Nat) : Int × Int :=
  let st := s.stepUs
  let k := us / max 1 st
  match s.pose.traj[k]?, s.pose.traj[k + 1]? with
  | some a, some c =>
    let p := s.bodyRates a b
    let q := s.bodyRates c b
    (mixAt (us - k * st) st p.1 q.1, mixAt (us - k * st) st p.2 q.2)
  | some a, none => s.bodyRates a b
  | none, _ =>
    match s.pose.traj.getLast? with
    | some a => s.bodyRates a b
    | none => (0, 0)

/-- Outlet speed v_o, µm/s, and LOW_SPEED (10 R223). -/
def State.outletSpeed (s : State) (t : SMap Word) (id us : Nat) : Nat × Bool :=
  let r := s.ratesAt (oBody t id) us
  let v : Int :=
    match s.axis with
    | 0 => if s.b R.METER_CFG 31 then r.1 - rnd (r.2 * oY t id * 6283185307) (2 ^ 32 * 1000000) else r.1
    | 1 => r.1.natAbs
    | _ => 0
  let v := if v < 0 then 0 else v
  if v < (s.f R.METER_CFG 15 0 : Int) * 1000 then (0, true) else (v.toNat, false)

/-- Flow Q in Q16.16 units per minute before saturation (10 R224). -/
def flowOf (rate v w : Nat) : Nat := (rnd (rate * v * w * 96 : Int) (10 ^ 12)).toNat

/-- Lead of an outlet, µs (10 R222). -/
def State.lead (s : State) (t : SMap Word) (id : Nat) : Nat := oTransport t id + s.f (R.METER_RATE_LEAD (oProduct t id)) 23 0

/-- Rate index in force at F + L, FALLBACK, LEAD_CLIP; none where the planner keeps what it had (10 R222). -/
def State.rateIdx (s : State) (t : SMap Word) (id : Nat) : Option (Nat × Bool × Bool) :=
  let p := oProduct t id
  let last := (s.rxFallback id).getD p 256
  if !oProbe t id then some (last, true, false)
  else
    match s.rast.probes.find? (fun q => q.id == id) with
    | none => some (last, true, false)
    | some op =>
      let r := rxAt op s.stepUs (s.lead t id)
      match r.1 with
      | none => some (last, true, r.2.2)
      | some q =>
        if q.missing then none
        else
          let i := r.2.1.getD p 256
          some (i, decide (i = 256) || q.fellBack, r.2.2)

/-- What metering forms for an outlet in a frame (10 R222 to R228). -/
def State.meterOne (s : State) (t : SMap Word) (id : Nat) : Option MeterOut :=
  match s.rateIdx t id with
  | none => s.meterOut id
  | some (i, fb, clip) =>
    let p := oProduct t id
    let raw := (rnd (s.rate p i * oRateScale t id : Int) 4096).toNat
    let rate := min raw (2 ^ 32 - 1)
    let sp := s.outletSpeed t id (s.lead t id)
    let qRaw := flowOf rate sp.1 (oAppWidth t id)
    let q := min qRaw (2 ^ 32 - 1)
    let was := match s.meterOut id with | some o => o.susp | none => false
    let o : MeterOut := { v := sp.1, rate := rate, out := q, idx := i, fallback := fb, clip := clip, low := sp.2,
                          susp := false, ovr := false, under := false, lead := s.lead t id, q := 0,
                          rateSat := decide (2 ^ 32 ≤ raw), flowSat := decide (2 ^ 32 ≤ qRaw) }
    some (match oMeter t id with
    | 1 => { o with q := q }
    | 2 =>
      let d := s.dutyOut t id q sp.1 was
      { o with q := q, out := d.1, susp := d.2.1, ovr := d.2.2.1, under := d.2.2.2 }
    | 3 => { o with out := min (rnd (q * 65536 : Int) (max 1 (s.r (R.METER_UNITS_PER_REV p)).toNat)).toNat (2 ^ 32 - 1) }
    | _ =>
      let d := s.shotLen t id (s.shotQty p rate)
      { o with out := d.1, ovr := d.2.1, under := d.2.2, flowSat := false })

/-- Planned or committed state of an outlet at a DT (10 R226). -/
def State.onAt (s : State) (id : Nat) (t : DT) : Bool :=
  let q := SMap.get (fun _ => (⟨[], false, none, false, 0, 0⟩ : OutletQ)) s.look.queues id
  let pl := s.look.planned.filter (fun p => p.id == id && decide (p.te ≤ (t : Int)))
  match pl.getLast? with
  | some p => p.on
  | none =>
    match (q.edges.filter (fun e => decide (e.exec ≤ t))).getLast? with
    | some e => e.on
    | none => if q.edges = [] then q.newest else !((q.edges.headD ⟨false, 0, 0, 0, 0, 0, 0, 0, false⟩).on)

/-- Form the targets of a frame (10 R229 step 3). -/
def State.meterForm (s : State) : State :=
  let t := s.tbl
  { s with meter := { s.meter with next := s.meteredIds.filterMap (fun id => (s.meterOne t id).map (fun o => (id, o))) } }

/-! ## Publication (10 R229 step 5, R231, R237) -/

/-- Log a changed rate (10 R231). -/
def State.logRate (s : State) (f : DT) (id : Nat) (o : MeterOut) : State :=
  let l := SMap.get (fun _ => []) s.meter.logs id
  let same := match l.getLast? with | some e => e.rate == o.rate | none => false
  if same then
    match l.getLast? with
    | some e =>
      if o.ovr || o.under then
        { s with meter := { s.meter with
            logs := SMap.put (fun _ => []) s.meter.logs id (l.dropLast ++ [{ e with off := true }]) } } else s
    | none => s
  else
    let e : RateEntry := ⟨f + usDT (900 + o.lead), o.rate, o.ovr || o.under⟩
    let l := (l ++ [e])
    { s with meter := { s.meter with logs := SMap.put (fun _ => []) s.meter.logs id (l.drop (l.length - 16)) } }

/-- One saturation event per product and minute (10 R237): `k` 0 RATE_SAT, 1 FLOW_SAT. -/
def State.satEvent (s : State) (p k : Nat) : State :=
  let m := s.pkg.opTicks / 15360
  let s := s.flt (R.METER 0) k
  if s.meter.satMin.getD (2 * p + k) none = some m then s
  else ({ s with meter := { s.meter with satMin := s.meter.satMin.set (2 * p + k) (some m) } }).evGeneric (R.METER_PSTAT p)

/-- Publish a product's flow target, flags and pressure (10 R226, R227, R238). -/
def State.publishProduct (s : State) (f : DT) (p : Nat) : State :=
  let t := s.tbl
  let mine := s.meter.next.filter (fun e => oProduct t e.1 == p)
  let on := mine.filter (fun e => (oMeter t e.1 == 1 || oMeter t e.1 == 2) && s.onAt e.1 (f + usDT e.2.lead))
  let sum := (on.map (fun e => e.2.q)).foldl (· + ·) 0
  let rs := mine.any (fun e => e.2.rateSat)
  let fs := decide (2 ^ 32 ≤ sum) || mine.any (fun e => e.2.flowSat)
  let duty := mine.any (fun e => oMeter t e.1 == 2)
  let pl := duty && (s.pressure p).isNone
  let was := s.b (R.METER_PSTAT p) 3
  let s := s.w (R.METER_FLOW_TGT p) (nw (min sum (2 ^ 32 - 1)))
  let s := match s.pressure p with
    | some v => s.w (R.METER_PRESS p) (wordOf (rnd v 256))
    | none => s
  let s := s.wf (R.METER_PSTAT p) 31 16 on.length
  let s := ((s.wb (R.METER_PSTAT p) 0 rs).wb (R.METER_PSTAT p) 1 fs).wb (R.METER_PSTAT p) 3 pl
  let s := if rs then s.satEvent p 0 else s
  let s := if fs then s.satEvent p 1 else s
  let s := if pl then s.flt (R.METER 0) 2 else s
  if pl && !was then s.evFlt (R.METER 0) 2 else s

/-- Publish the frame's targets at F + 900 µs (10 R229 step 5). -/
def State.meterPublish (s : State) (f : DT) : State :=
  let s := (List.range 4).foldl (fun (s : State) p => if s.b (R.METER_PCFG p) 31 then s.publishProduct f p else s) s
  let s := s.meter.next.foldl (fun (s : State) e => s.logRate f e.1 e.2) s
  let under := (s.meter.next.filter (fun e => e.2.under)).length
  let ovr := (s.meter.next.filter (fun e => e.2.ovr)).length
  let s := if s.f R.METER_STAT 31 16 = 0 ∧ 0 < under then s.irq (R.METER 0) 0 else s
  let s := if s.f R.METER_STAT 15 0 = 0 ∧ 0 < ovr then s.irq (R.METER 0) 1 else s
  let s := s.w R.METER_STAT (nw (min under 0xFFFF * 65536 + min ovr 0xFFFF))
  { s with meter := { s.meter with out := s.meter.next } }

/-! ## Totals (10 R232 to R235) -/

/-- An empty totals record. -/
def Totals.zero : Totals :=
  { applied := 0, appRes := 0, metered := 0, metRes := 0, area := 0, areaRes := 0, offRate := 0, offRes := 0, resetAt := 0 }

/-- A totals record: product × 65 + (0 the field, 1 + section). -/
def State.totalsOf (s : State) (k : Nat) : Totals := SMap.get (fun _ => Totals.zero) s.meter.totals k

def State.setTotals (s : State) (k : Nat) (x : Totals) : State :=
  { s with meter := { s.meter with totals := SMap.put (fun _ => Totals.zero) s.meter.totals k x } }

/-- One step of an integrator (10 R233): total in `u` units of 2^-40, its residue, an increment in 2^-40. -/
def integrate (u : Int) (width total : Nat) (res x : Int) : Nat × Int :=
  let t := x + res
  let inc := rnd t u
  (min ((total : Int) + inc).toNat (2 ^ width - 1), t - inc * u)

/-- Add an applied quantity (2^-40 unit) and an area (2^-40 of 0.001 m²) to a record (10 R232). -/
def Totals.add (x : Totals) (q area : Int) (off : Bool) : Totals :=
  let a := integrate (2 ^ 24) 64 x.applied x.appRes q
  let b := integrate (2 ^ 40) 64 x.area x.areaRes area
  let o := integrate (2 ^ 40) 32 x.offRate x.offRes area
  let x := { x with applied := a.1, appRes := a.2, area := b.1, areaRes := b.2 }
  if off then { x with offRate := o.1, offRes := o.2 } else x

/-- Add to the field record and, for a section's member, the section record. -/
def State.addTotals (s : State) (t : SMap Word) (id : Nat) (q area : Int) (off : Bool) : State :=
  let p := oProduct t id
  let s := s.setTotals (65 * p) ((s.totalsOf (65 * p)).add q area off)
  if oSecEn t id then
    let k := 65 * p + 1 + oSection t id
    s.setTotals k ((s.totalsOf k).add q area off)
  else s

/-- The log entries of an outlet that bear on a span, as (start, rate, off) with the first clipped to the span's start;
and whether the oldest entry stood for an earlier span (10 R231, R232). -/
def State.spanRates (s : State) (t : SMap Word) (id : Nat) (a b : DT) : List (DT × Nat × Bool) × Bool :=
  let l := SMap.get (fun _ => []) s.meter.logs id
  let dflt := (min (rnd (s.rate (oProduct t id) 256 * oRateScale t id : Int) 4096).toNat (2 ^ 32 - 1))
  let before := (l.filter (fun e => decide (e.tg ≤ a))).getLast?
  let inside := (l.filter (fun e => decide (a < e.tg) && decide (e.tg < b))).map (fun e => (e.tg, e.rate, e.off))
  match before with
  | some e => ((a, e.rate, e.off) :: inside, false)
  | none =>
    match l.head? with
    | some e => ((a, e.rate, e.off) :: inside, decide (16 ≤ l.length))
    | none => ([(a, dflt, false)], true)

/-- Sum of rate × time over the sub-spans of a segment. -/
def rateTime (b : DT) : List (DT × Nat × Bool) → Nat
  | [] => 0
  | (t0, r, _) :: rest =>
    let t1 := match rest with | (t, _, _) :: _ => t | [] => b
    r * (t1 - t0) + rateTime b rest

/-- Total a retire record as it is formed: distance in µm over the segment's DTs (10 R232). -/
def State.totalRecord (s : State) (t : SMap Word) (id : Nat) (a b : DT) (d : Nat) : State :=
  if s.isMetered t id then
    let sp := s.spanRates t id a b
    let s := if sp.2 then s.inc R.METER_LOG_OVF 31 0 1 else s
    let w := oAppWidth t id
    let q : Int := if b ≤ a then 0 else rnd ((rateTime b sp.1 : Int) * w * d * 2 ^ 28) (10 ^ 13 * ((b : Int) - a))
    let area : Int := rnd ((w : Int) * d * 2 ^ 40) (10 ^ 6)
    s.addTotals t id q area (sp.1.any (fun e => e.2.2))
  else s

/-- In CYCLIC, each confirmed INJECT on edge adds its shot quantity (10 R232). -/
def State.totalShot (s : State) (t : SMap Word) (id : Nat) : State :=
  if s.axis = 2 ∧ oMeter t id = 4 ∧ s.isMetered t id = true then
    match s.meterOut id with
    | some o => if o.under && oUnderOff t id then s
                else s.addTotals t id ((s.shotQty (oProduct t id) o.rate : Int) * 2 ^ 24) 0 false
    | none => s
  else s

/-- Flow-meter pulses of a frame (10 R234): METERED grows by pulses / PPU. -/
def State.meterFlow (s : State) (p pulses : Nat) : State :=
  let k := 65 * p
  let x := s.totalsOf k
  let q := rnd ((pulses : Int) * 2 ^ 56) (max 1 (s.r (R.METER_PPU p)).toNat)
  let a := integrate (2 ^ 24) 64 x.metered x.metRes q
  s.setTotals k { x with metered := a.1, metRes := a.2 }

/-- Save all totals and residues (10 R235). -/
def State.checkpointTotals (s : State) : State :=
  ({ s with meter := { s.meter with ckpt := s.meter.totals } }).w R.TOTALS_CKPT (nw (s.pkg.opTicks / 256))

/-- The retention block of totals is lost: the checkpoint is restored (10 R235). -/
def State.restoreTotals (s : State) : State :=
  (({ s with meter := { s.meter with totals := s.meter.ckpt } }).wf R.TOTALS_STAT 1 0 3).flt (R.TOTALS 0) 0

/-- Clear the records a TOTALS_RESET selects (10 R235): product mask, field records, section records. -/
def State.resetTotals (s : State) (mask : Nat) (field sec : Bool) : State :=
  (List.range 260).foldl (fun (s : State) k =>
    if mask.testBit (k / 65) && (if k % 65 = 0 then field else sec) then
      s.setTotals k { Totals.zero with resetAt := s.pkg.opTicks / 256 } else s) s

end Sys2Proof.Machine
end

