-- ==== Sys2Proof/Machine/LookOps.lean ====
section
/-!
DEFINITION. Edge queues, commits and confirmations, and the retire writer (09) as shared operations.
-/
namespace Sys2Proof.Machine

/-! ## Queues and counters (09 R203, R204, R216) -/

/-- The queue of an outlet with nothing in it. -/
def OutletQ.zero : OutletQ := { edges := [], newest := false, newestExec := none, confirmed := false, missed := 0, late := 0 }

/-- An outlet's side of the pipeline. -/
def State.q (s : State) (id : Nat) : OutletQ := SMap.get (fun _ => OutletQ.zero) s.look.queues id

def State.setQ (s : State) (id : Nat) (x : OutletQ) : State :=
  { s with look := { s.look with queues := SMap.put (fun _ => OutletQ.zero) s.look.queues id x } }

/-- Count an edge that SAFE, a protection or a refusal prevents, or that no bus can send (09 R204). -/
def State.missed (s : State) (id : Nat) : State :=
  let q := s.q id
  ((s.setQ id { q with missed := satAdd 16 q.missed 1 }).inc R.COMMIT_MISSED 31 0 1).irq (R.COMMIT 0) 1

/-- Squash planned edges (09 R199 to R201, 04 R72). -/
def State.squashAll (s : State) : State :=
  ({ s with look := { s.look with planned := [] } }).inc R.COMMIT_SQUASHED 31 0 s.look.planned.length

/-- TABLE_GEN (09 R193). -/
def State.tableGen (s : State) : Nat := s.f R.OUTLETWIN_SW_STAT 31 16

/-- µs of lateness, rounded up. -/
def lateUs (d : DT) : Nat := (d + 25599) / 25600

/-- Count a LATE edge of an outlet (09 R203, R216). -/
def State.countLate (s : State) (id : Nat) (by_ : DT) : State :=
  let q := s.q id
  let s := s.setQ id { q with late := satAdd 16 q.late 1 }
  let s := (s.inc R.COMMIT_LATE 31 0 1).irq (R.COMMIT 0) 0
  s.wf R.COMMIT_LATE_MAX 23 0 (max (s.f R.COMMIT_LATE_MAX 23 0) (min (lateUs by_) (2 ^ 24 - 1)))

/-- Edges waiting in the dispatch queue (09 R207). -/
def State.dispatchDepth (s : State) : Nat :=
  (s.look.queues.map (fun e => (e.2.edges.filter (fun g => g.kind == 5)).length)).foldl (· + ·) 0

/-- Put an edge into its outlet's queue: COMMITTED + 1 (09 R203, R216). -/
def State.enqueue (s : State) (id : Nat) (e : Edge) : State :=
  let q := s.q id
  let s := s.setQ id { q with edges := q.edges ++ [e], newest := e.on, newestExec := some e.exec }
  let s := s.inc R.COMMIT_COMMITTED 31 0 1
  if e.kind = 5 then
    let n := s.dispatchDepth
    (s.wf R.REMOTE_DEPTH 8 0 (min n 256)).wf R.REMOTE_DEPTH 24 16 (max (s.f R.REMOTE_DEPTH 24 16) (min n 256))
  else s

/-- Edges in all queues (09 R217). -/
def State.queuedEdges (s : State) : Nat := (s.look.queues.map (fun e => e.2.edges.length)).foldl (· + ·) 0

/-- An edge of the present epoch and generation. -/
def State.mkEdge (s : State) (t : SMap Word) (id : Nat) (on : Bool) (src : Nat) (te exec : DT) : Edge :=
  { on := on, src := src, epoch := (s.r R.PRED_POSE_EPOCH).toNat, gen := s.tableGen, exec := exec, te := te,
    kind := oKind t id, target := oTarget t id, landed := false }

/-- An off edge of DRAIN, LOSS or SWITCH at the later of a DT and 1 µs after the outlet's last queued edge. -/
def State.offEdge (s : State) (t : SMap Word) (id src : Nat) (at_ : DT) : State :=
  let last := match (s.q id).edges.getLast? with
    | some e => e.exec + usDT 1
    | none => 0
  let x := max at_ last
  s.enqueue id (s.mkEdge t id false src x x)

/-- Take an outlet's oldest edge from its queue. -/
def State.popEdge (s : State) (id : Nat) : State :=
  let q := s.q id
  let s := s.setQ id { q with edges := q.edges.drop 1 }
  s.wf R.REMOTE_DEPTH 8 0 (min s.dispatchDepth 256)

/-- The planner's record of an outlet's state becomes off (11 R258). -/
def State.forgetOn (s : State) (id : Nat) : State := s.setQ id { s.q id with newest := false }

/-! ## The backlog (09 R213, R214) -/

/-- Entries the backlog holds. -/
def State.backlogCount (s : State) : Nat :=
  (s.look.opens.filter (fun o => !o.dropped)).length + s.look.segs.length

/-- Follow the backlog's fill in its register; HIGH_MARK raises source 157 (09 R213, R217). -/
def State.noteBacklog (s : State) : State :=
  let n := s.backlogCount
  let was := s.f R.RETIRE_BACKLOG 12 0
  let hm := s.f R.RETIRE_CFG 28 16
  let s := s.w R.RETIRE_BACKLOG (nw (max n (s.f R.RETIRE_BACKLOG 28 16) * 65536 + n))
  if was < hm ∧ hm ≤ n then s.irq (R.RETIRE 0) 1 else s

/-- Area of a width in mm over a distance in µm, in 0.001 m², rounded up (09 R214). -/
def areaOf (w um : Nat) : Nat := (w * um + 999999) / 1000000

/-- Distance in µm at a speed in µm/s over a span of DT. -/
def travel (v : Nat) (d : DT) : Nat := v * d / 25600000000

/-- A confirmed open begins an on-period (09 R210, R213). In CYCLIC no records are formed. -/
def State.openPeriod (s : State) (id gen : Nat) (t : DT) (est : Bool) : State :=
  if s.axis = 2 ∨ s.look.opens.any (fun o => o.id == id && o.close.isNone) = true then s
  else
    let full := decide (4096 ≤ s.backlogCount)
    let o : OnPeriod := { id := id, openDt := t, estOpen := est, gen := gen, fieldGen := s.f R.TILEDIR_FIELD_STAT 23 16,
                          segStart := t, reversed := false, first := true, close := none, dropped := full,
                          lastV := s.speed.natAbs }
    ({ s with look := { s.look with opens := s.look.opens ++ [o] } }).noteBacklog

/-- A confirmed close ends the on-period; one whose OPEN entry was dropped counts its area (09 R213). -/
def State.closePeriod (s : State) (t : SMap Word) (id : Nat) (at_ : DT) (est : Bool) : State :=
  match s.look.opens.find? (fun o => o.id == id && o.close.isNone) with
  | none => s
  | some o =>
    if o.dropped then
      let s := { s with look := { s.look with opens := s.look.opens.filter (fun x => !(decide (x = o))) } }
      s.lost .ovf (areaOf (oWidth t id) (travel s.speed.natAbs (at_ - o.openDt)))
    else
      let x := { o with close := some (max at_ o.segStart, est) }
      { s with look := { s.look with opens := s.look.opens.map (fun y => if y = o then x else y) } }

/-- The table set of a generation: the active one, the one held, else the active one. -/
def State.genTbl (s : State) (gen : Nat) : SMap Word :=
  if gen = s.tableGen then s.look.active
  else if s.b R.OUTLETWIN_SW_STAT 1 ∧ gen = s.look.oldGen then s.look.old
  else s.look.active

/-- Does anything still need the held generation (09 R193)? -/
def State.oldNeeded (s : State) : Bool :=
  s.look.opens.any (fun o => o.gen == s.look.oldGen) ||
    s.look.queues.any (fun e => e.2.edges.any (fun g => g.gen == s.look.oldGen)) ||
    s.look.awaiting.any (fun a => a.gen == s.look.oldGen) ||
    s.drive.chans.any (fun c => match c.own with | some o => o.gen == s.look.oldGen | none => false) ||
    s.drive.boost.any (fun c => match c.own with | some o => o.gen == s.look.oldGen | none => false)

/-- Release the held geometry once nothing needs it (09 R193). -/
def State.releaseOld (s : State) : State :=
  if s.b R.OUTLETWIN_SW_STAT 1 && !s.oldNeeded then
    ({ s with look := { s.look with old := [], oldGen := 0 } }).wb R.OUTLETWIN_SW_STAT 1 false
  else s

/-- A confirmation (01 R15, 09 R216): of an outlet's open or close, at a DT, ESTIMATED or not, of an edge or of a
pull-in that is none. -/
def State.confirm (s : State) (id gen : Nat) (on : Bool) (t : DT) (est edge : Bool) : State :=
  let tb := s.genTbl gen
  let s := if edge then s.inc R.COMMIT_CONFIRMED 31 0 1 else s
  let s := if est then s.inc R.COMMIT_ESTIMATED 31 0 1 else s
  let s := s.setQ id { s.q id with confirmed := on }
  if on then
    let s := if edge then s.totalShot tb id else s
    s.openPeriod id gen t est
  else s.closePeriod tb id t est

/-! ## Retire records (09 R210 to R215) -/

/-- Pose between two history entries at a DT, heading along the shorter arc (09 R210). -/
def State.entryPose (s : State) (a b : List Word) (t : DT) : Sample :=
  let ta := (nth a 0).toNat + 2 ^ 32 * (nth a 1).toNat
  let tb := (nth b 0).toNat + 2 ^ 32 * (nth b 1).toNat
  let ip (k : Nat) : Int := lerp ta tb t (sword (nth a k) * 65536) (sword (nth b k) * 65536)
  let an (k : Nat) : Nat := angOf ((nth a k).toNat + lerp ta tb t 0 (angDiff (nth b k).toNat (nth a k).toNat))
  let g1 := angOf (angDiff (an 5) (an 6))
  let g2 := angOf (angDiff (an 6) (an 7))
  { t := t, body := s.bodies ⟨ip 2, ip 3, an 5⟩ g1 g2, axis := rnd (ip 10) 65536,
    v := lerp ta tb t (sword (nth a 8)) (sword (nth b 8)), w := lerp ta tb t (sword (nth a 9)) (sword (nth b 9)) }

/-- Frame boundary at or before a DT. -/
def frameOf (t : DT) : DT := t / frameDT * frameDT

/-- Frame boundary at or after a DT. -/
def frameUp (t : DT) : DT := (t + frameDT - 1) / frameDT * frameDT

/-- The pose at a DT from the history; none where an entry is missing or INVALID. -/
def State.poseAtDT (s : State) (t : DT) : Option Sample :=
  match s.histAt (frameOf t), s.histAt (frameUp t) with
  | some a, some b => some (s.entryPose a b t)
  | _, _ => none

/-- What a segment's look through the history finds: its end (and whether a reversal), a gap, or nothing yet. -/
inductive SegEnd where
  | ends (at_ : Sample) (reversal : Bool)
  | gap (at_ : DT)
  | wait

/-- First DT after `t0` at which a magnitude that goes from `a` to `b` over `d` reaches `lim`. -/
def crossAt (t0 : DT) (d a b lim : Nat) : DT := if b ≤ a then t0 + d else t0 + ((lim - a) * d + (b - a) - 1) / (b - a)

/-- The segment ends at a DT. -/
def State.endAt (s : State) (t : DT) (rev : Bool) : SegEnd :=
  match s.poseAtDT t with
  | some c => .ends c rev
  | none => .wait

/-- Follow a segment from pose `p` on, boundary by boundary (09 R210). -/
def State.segScan (s : State) (bd h0 : Nat) (neg : Option Bool) (lim : DT) : Nat → Sample → SegEnd
  | 0, _ => .wait
  | n + 1, p =>
    let f1 := frameOf p.t + frameDT
    if s.pose.histNext ≤ f1 then .wait
    else
      match s.histAt f1 with
      | none => .gap p.t
      | some _ =>
        let t1 := min f1 lim
        match s.poseAtDT t1 with
        | none => .gap p.t
        | some c =>
          let hd (x : Sample) : Nat := (angDiff (x.body.getD bd ⟨0, 0, 0⟩).h h0).natAbs
          let v0 := (s.bodyRates p bd).1
          let v1 := (s.bodyRates c bd).1
          let turn := if 2 ^ 22 ≤ hd c then some (crossAt p.t (t1 - p.t) (hd p) (hd c) (2 ^ 22)) else none
          let ng := match neg with | some x => some x | none => if v0 = 0 then none else some (decide (v0 < 0))
          let rev := match ng with
            | some x => if v1 ≠ 0 ∧ decide (v1 < 0) ≠ x then some (crossAt p.t (t1 - p.t) 0 (v0 - v1).natAbs v0.natAbs) else none
            | none => none
          match turn, rev with
          | some a, some b => if b ≤ a then s.endAt b true else s.endAt a false
          | some a, none => s.endAt a false
          | none, some b => s.endAt b true
          | none, none => if t1 = lim then .ends c false else s.segScan bd h0 ng lim n c

/-- Footprints an on-period of an outlet covers: its own, or the VOTE_ONLY members' where it is a section's head
(09 R210); with the flag HEAD. -/
def footIds (t : SMap Word) (id : Nat) : List (Nat × Bool) :=
  if oSecEn t id && secHeadEn t (oSection t id) && secHead t (oSection t id) == id then
    ((enabledIds t).filter (fun m => oVote t m && oSecEn t m && oSection t m == oSection t id)).map (fun m => (m, true)) ++
      (if oWidth t id = 0 then [] else [(id, false)])
  else [(id, false)]

/-- Footprint centre of an outlet at a pose, mm (09 R211). -/
def State.centreAt (s : State) (t : SMap Word) (id : Nat) (p : Sample) : Int × Int :=
  let f := s.footAt t id p
  if s.axis = 1 then (p.axis + f.x, f.y)
  else
    let q := f.pointAt (2 * f.x) (2 * f.y)
    (rnd q.1 (2 ^ 46), rnd q.2 (2 ^ 46))

/-- A retire record (09 R211). -/
def State.retireRec (s : State) (t : SMap Word) (m : Nat) (head : Bool) (o : OnPeriod) (a b : Sample) (last : Option Bool) :
    List Word :=
  let p := s.centreAt t m a
  let q := s.centreAt t m b
  let hd (x : Sample) : Nat :=
    if s.axis = 1 then 0 else ofSigned 16 (rnd ((x.body.getD (oBody t m) ⟨0, 0, 0⟩).h : Int) 65536)
  let er := edgeRules t m
  let w0 := (if o.first then 2 ^ 31 else 0) + (if last.isSome then 2 ^ 30 else 0) +
    (if o.first && o.estOpen then 2 ^ 29 else 0) + (if last = some true then 2 ^ 28 else 0) +
    (if o.reversed then 2 ^ 27 else 0) + (if head then 2 ^ 26 else 0) + m * 2 ^ 16 + o.gen % 256 * 256 + o.fieldGen
  let ws := [nw w0, wordOf p.1, wordOf p.2, wordOf q.1, wordOf q.2, nw (hd a * 65536 + hd b),
    nw (oWidth t m * 65536 + oLen t m)]
  ws ++ [nw ((crc16 0xFFFF (ws.flatMap wordBytes)).toNat * 65536 + (if er.1 then 2 ^ 15 else 0) +
    (if er.2 then 2 ^ 14 else 0) + s.look.recSeq % 2 ^ 14)]

/-- Distance between a record's centres, µm, rounded to nearest (09 R214, 10 R232). -/
def recUm (w : List Word) : Nat :=
  let de := sword (nth w 3) - sword (nth w 1)
  let dn := sword (nth w 4) - sword (nth w 2)
  (isqrt ((de * de + dn * dn) * 4000000).toNat + 1) / 2

/-- Send a record on HX0 and HX1 as soon as it is formed (09 R215). -/
def State.hxRetire (s : State) (w : List Word) : State := if s.b R.RETIRE_CFG 0 then s.hxSend 2 w else s

/-- Is a record's field the loaded one, with its store present? -/
def State.recHere (s : State) (fieldGen : Nat) : Bool :=
  s.fieldLoaded && s.f R.TILEDIR_FIELD_STAT 23 16 == fieldGen

/-- A formed record: written at once, or held as a SEG entry until its tiles are in slots; a full backlog drops it
(09 R213). A record of an on-period that began with no field loaded has no stored tile (08 R171). -/
def State.takeRecord (s : State) (w : List Word) (fieldGen : Nat) : State :=
  if fieldGen = 0 then s.inc R.RETIRE_RECORDS 31 0 1
  else if s.recHere fieldGen && s.sweepReady w then s.writeSweep w
  else if 4096 ≤ s.backlogCount then s.lost .ovf (areaOf (fld (nth w 6) 31 16) (recUm w))
  else
    let s := ({ s with look := { s.look with segs := s.look.segs ++ [Seg.mk w fieldGen] } }).noteBacklog
    if s.recHere fieldGen then
      (s.sweepTiles w).foldl (fun (s : State) tl => if (s.tileHit tl).isSome then s else s.requestTile tl false) s
    else s

/-- Form, total, send and take the record of one footprint (09 R210, R215, 10 R232). -/
def State.formOne (s : State) (t : SMap Word) (o : OnPeriod) (a b : Sample) (last : Option Bool) (m : Nat × Bool) : State :=
  let w := s.retireRec t m.1 m.2 o a b last
  let s := { s with look := { s.look with recSeq := (s.look.recSeq + 1) % 2 ^ 14 } }
  let s := s.totalRecord t m.1 a.t b.t (recUm w)
  (s.hxRetire w).takeRecord w o.fieldGen

/-- Replace the OPEN entry of an on-period, or drop it. -/
def State.setOpen (s : State) (o : OnPeriod) (n : Option OnPeriod) : State :=
  ({ s with look := { s.look with opens := match n with
      | some x => s.look.opens.map (fun y => if y = o then x else y)
      | none => s.look.opens.filter (fun y => !(decide (y = o))) } }).noteBacklog

/-- A segment found: its records, and what is left of the on-period (09 R210). -/
def State.endSeg (s : State) (t : SMap Word) (o : OnPeriod) (a b : Sample) (rev : Bool) : State :=
  let last := match o.close with
    | some (c, e) => if c = b.t then some e else none
    | none => none
  let s := (footIds t o.id).foldl (fun (s : State) m => s.formOne t o a b last m) s
  match last with
  | some _ => (s.setOpen o none).releaseOld
  | none => s.setOpen o (some { o with segStart := b.t, first := rev, reversed := o.reversed || rev,
                                       openDt := if rev then b.t else o.openDt, lastV := b.v.natAbs })

/-- A gap of the history ends at the first valid boundary, or at the close; its area counts under LOST_POSE. -/
def State.endGap (s : State) (t : SMap Word) (o : OnPeriod) : State :=
  let n := (s.pose.histNext - frameOf o.segStart) / frameDT
  let g := ((List.range n).map (fun i => frameOf o.segStart + (i + 1) * frameDT)).find? (fun f => (s.histAt f).isSome)
  let lim := o.close.map (·.1)
  let to_ := match g, lim with
    | some x, some c => some (min x c)
    | some x, none => some x
    | none, some c => if c < s.pose.histNext then some c else none
    | none, none => none
  match to_ with
  | none => s
  | some e =>
    let w := ((footIds t o.id).map (fun m => oWidth t m.1)).foldl (· + ·) 0
    let s := s.lost .pose (areaOf w (travel o.lastV (e - o.segStart)))
    if lim = some e then (s.setOpen o none).releaseOld
    else s.setOpen o (some { o with segStart := e, first := false })

/-- Form the next segment of an on-period, where the history reaches (09 R210). -/
def State.formSeg (s : State) (o : OnPeriod) : State :=
  let t := s.genTbl o.gen
  let seg := o.segStart + msDT (s.f R.RETIRE_CFG 15 8)
  let lim := match o.close with | some (c, _) => min c seg | none => seg
  if lim ≤ o.segStart then
    -- a close that is no later than what is formed ends the on-period there
    (s.setOpen o none).releaseOld
  else if s.pose.histNext ≤ frameUp o.segStart then s
  else
    match s.poseAtDT o.segStart with
    | none => s.endGap t o
    | some a =>
      let bd := oBody t o.id
      match s.segScan bd (a.body.getD bd ⟨0, 0, 0⟩).h none lim 400 a with
      | .wait => s
      | .ends b rev => if b.t = o.segStart then s.endGap t o else s.endSeg t o a b rev
      | .gap at_ =>
        if at_ = o.segStart then s.endGap t o
        else
          match s.poseAtDT at_ with
          | some b => s.endSeg t o a b false
          | none => s.endGap t o

/-- Discard the backlog entries that satisfy a test, counting their area (09 R214, 08 R169, R170). -/
def State.discardBacklog (s : State) (p : Nat → Bool) : State :=
  let segs := s.look.segs.filter (fun g => p g.fieldGen)
  let opens := s.look.opens.filter (fun o => p o.fieldGen && !o.dropped)
  let s := segs.foldl (fun (s : State) g =>
    (s.lost .discard (areaOf (fld (nth g.words 6) 31 16) (recUm g.words))).evGeneric R.RETIRE_LOST_DISCARD) s
  let s := opens.foldl (fun (s : State) o =>
    let e := match o.close with | some (c, _) => c | none => s.dt
    (s.lost .discard (areaOf (oWidth (s.genTbl o.gen) o.id) (travel o.lastV (e - o.segStart)))).evGeneric
      R.RETIRE_LOST_DISCARD) s
  ({ s with look := { s.look with
      segs := s.look.segs.filter (fun g => !p g.fieldGen),
      opens := s.look.opens.filter (fun o => !(p o.fieldGen && !o.dropped)) } }).noteBacklog

end Sys2Proof.Machine
end

