-- ==== Sys2Proof/Machine/MotionOps.lean ====
section
/-!
DEFINITION. Learned delays, results and confirmations of motion detection (12) as shared operations.
-/
namespace Sys2Proof.Machine

/-! ## Learned delays (12 R271, R272) -/

/-- The learned state of an outlet. -/
def State.learnOf (s : State) (id : Nat) : Learn := SMap.get (fun _ => Learn.reset) s.motion.learn id

/-- Store the learned state of an outlet. -/
def State.setLearn (s : State) (id : Nat) (x : Learn) : State :=
  { s with motion := { s.motion with learn := SMap.put (fun _ => Learn.reset) s.motion.learn id x } }

/-- The learner's bounds for a configured delay (12 R271). -/
def learnBounds (c pct : Nat) : Nat × Nat := (c * (100 - min pct 100) / 100, (c * (100 + pct) + 99) / 100)

/-- Bounds of an outlet's direction. -/
def oBounds (t : SMap Word) (id : Nat) (on : Bool) : Nat × Nat := learnBounds (oDelay t id on) (oBndPct t id)

/-- "Unlearned" (12 R272). -/
def unlearned : Nat := 0xFFFFFFFF

/-- L of a direction and band. -/
def Learn.val (x : Learn) (on : Bool) (band : Nat) : Nat := x.l.getD (2 * band + (if on then 0 else 1)) unlearned

/-- The published delay of an outlet, direction and band, µs (12 R273). -/
def State.published (s : State) (t : SMap Word) (id : Nat) (on : Bool) (band : Nat) : Nat :=
  let l := (s.learnOf id).val on band
  if l = unlearned then oDelay t id on else (l + 128) / 256

/-- Band edge `k` (1 to 3) in 10 mV (12 R278). -/
def State.bandEdge (s : State) (k : Nat) : Nat := s.f R.MOTION_BANDS (8 * k - 1) (8 * k - 8) * 10

/-- Band of a field voltage in 10 mV (12 R272). -/
def State.bandOf (s : State) (v : Nat) : Nat :=
  if v < s.bandEdge 1 then 0 else if v < s.bandEdge 2 then 1 else if v < s.bandEdge 3 then 2 else 3

/-- The band in use follows the average only beyond the crossed edge by more than BAND_HYST (12 R272). -/
def State.bandStep (s : State) (avg : Nat) : Nat → Nat → Nat
  | 0, b => b
  | n + 1, b =>
    let h := s.f R.MOTION_LEARN_CFG 7 0
    if b < 3 ∧ s.bandEdge (b + 1) + h < avg then s.bandStep avg n (b + 1)
    else if 0 < b ∧ avg + h < s.bandEdge b then s.bandStep avg n (b - 1)
    else b

/-- Region of an outlet channel (11 R262). -/
def regionOf (ch : Nat) : Nat := ch / 48

/-- A region outside its registers. -/
def State.region (s : State) (g : Nat) : Region := s.drive.regions.getD g Region.reset

def State.setRegion (s : State) (g : Nat) (x : Region) : State :=
  { s with drive := { s.drive with regions := s.drive.regions.set g x } }

/-- FIELD_x of a region, 10 mV. -/
def State.field (s : State) (g : Nat) : Nat := s.f (R.REGION_VOLT g) 15 0

/-- The band in use of an outlet: that of its channel's region (12 R272). -/
def State.bandInUse (s : State) (t : SMap Word) (id : Nat) : Nat := (s.region (regionOf (oTarget t id))).band

/-- The delay the planner and the reports use: published for LOCAL and LOCAL_PWM, configured for the others (12 R273). -/
def State.planDelay (s : State) (t : SMap Word) (id : Nat) (on : Bool) : Nat :=
  if oLocal t id then s.published t id on (s.bandInUse t id) else oDelay t id on

/-! ## Suspect valves (12 R275) -/

/-- One direction of the learner's state. -/
def Learn.dir (x : Learn) (on : Bool) : LearnDir := if on then x.on else x.off

def Learn.setDir (x : Learn) (on : Bool) (d : LearnDir) : Learn := if on then { x with on := d } else { x with off := d }

/-- Word 5 of the learner's records. -/
def learnWord (id : Nat) (on : Bool) (cause : Nat) : Word := nw (id * 65536 + (if on then 0 else 256) + cause)

/-- A direction becomes VALVE_SUSPECT: cause 1 BOUNDS, 2 NO_RESULT; the 8 in-bound results that clear it count from here
(12 R275). -/
def State.suspect (s : State) (id : Nat) (on : Bool) (cause : Nat) : State :=
  let x := s.learnOf id
  let d := x.dir on
  let s := s.setLearn id (x.setDir on { d with suspect := true, cause := cause, inb := 0 })
  if d.suspect then s else (s.evNow 0x0E (learnWord id on cause)).irq (R.MOTION 0) 0

/-- A window of a learned direction ended without a result; sixteen in a row make it suspect (12 R275). -/
def State.noResult (s : State) (t : SMap Word) (id : Nat) (on : Bool) : State :=
  let s := s.satInc R.MOTION_RES_STAT 15 0 1
  if oDelay t id on = 0 ∨ oLearnEn t id = false then s
  else
    let x := s.learnOf id
    let d := x.dir on
    let s := s.setLearn id (x.setDir on { d with nores := satAdd 8 d.nores 1 })
    if d.nores + 1 = 16 then s.suspect id on 2 else s

/-- Outlets with any suspect direction: SUSPECT_CNT (12 R278). -/
def State.suspectCount (s : State) : Nat := (s.motion.learn.filter (fun e => e.2.on.suspect || e.2.off.suspect)).length

/-! ## Results (12 R269, R270) -/

/-- Words of a result as the result window shows them. -/
def MotRes.words (m : MotRes) : List Word :=
  [nw ((if m.close then 2 ^ 31 else 0) + (if m.low then 2 ^ 30 else 0) + (if m.chop then 2 ^ 29 else 0) + m.band * 2 ^ 24 + m.ch),
   nw (m.delay % 2 ^ 24), nw (ticks m.dt), nw (m.field * 65536 + min m.peak 0xFFFF)]

/-- The bridge a channel's results cross: FB0 for regions A and B, FB1 for C and D. -/
def bridgeOf (ch : Nat) : Nat := if ch < 96 then 0 else 1

/-- A confirmation of an owner's opening or closing at a DT. -/
def State.confirmOwn (s : State) (o : Owner) (on : Bool) (t : DT) (est : Bool) : State := s.confirm o.id o.gen on t est o.edge

/-- Confirm what results of a channel that have not landed confirm, so that a later confirmation of the channel finds them
(log 12). -/
def State.settleFifo (s : State) (ch : Nat) : State :=
  let q := s.motion.fifo.getD (bridgeOf ch) []
  let mine := q.filter (fun m => m.ch == ch && m.confirms)
  let s := mine.foldl (fun (s : State) m =>
    match m.own with
    | some o => s.confirmOwn o (!m.close) m.dt false
    | none => s) s
  { s with motion := { s.motion with
      fifo := s.motion.fifo.set (bridgeOf ch) (q.map (fun m => if m.ch = ch then { m with confirms := false } else m)) } }

/-- An ESTIMATED confirmation of a channel (12 R270). -/
def State.estimate (s : State) (ch : Nat) (o : Owner) (on : Bool) (t : DT) : State :=
  (s.settleFifo ch).confirmOwn o on t true

/-- Issue a result into the bridge's FIFO; a full FIFO drops it, and the actuation is confirmed at `est` (12 R269). -/
def State.issueResult (s : State) (m : MotRes) (est : DT) : State :=
  let k := bridgeOf m.ch
  let q := s.motion.fifo.getD k []
  if q.length < 64 then { s with motion := { s.motion with fifo := s.motion.fifo.set k (q ++ [m]) } }
  else
    let s := (s.satInc R.MOTION_RES_STAT 31 16 1).flt (R.MOTION 0) 0
    match m.own with
    | some o => if m.confirms then s.estimate m.ch o (!m.close) est else s
    | none => s

/-- A result resets the run of windows without one; a CHOP result counts as neither (12 R275). -/
def Learn.sawResult (x : Learn) (on chop : Bool) : Learn := if chop then x else x.setDir on { x.dir on with nores := 0 }

/-- A result lands on the logic die: the result window takes it, its on-period's open or close is confirmed, and the
learner folds it at the next frame boundary (12 R269, R273). -/
def State.landResult (s : State) (m : MotRes) : State :=
  let n := s.motion.seq
  let keep := s.motion.results.drop (s.motion.results.length - 255)
  let s := { s with motion := { s.motion with
    seq := n + 1, results := keep ++ [(n, m.words)], landed := s.motion.landed ++ [(n, m)] } }
  match m.own with
  | some o =>
    let s := s.setLearn o.id ((s.learnOf o.id).sawResult (!m.close) m.chop)
    if m.confirms then s.confirmOwn o (!m.close) m.dt false else s
  | none => s

/-! ## The learner (12 R273) -/

/-- What folding a result did: the new state of the outlet, whether it was out of bounds, an outlier, learned, a reseed. -/
structure Folded where
  st : Learn
  oob : Bool
  outlier : Bool
  learned : Bool
  reseed : Bool
  /-- the direction reached three out-of-bound results in a row -/
  bounds : Bool

/-- Store L of a direction and band. -/
def Learn.put (x : Learn) (on : Bool) (band v : Nat) : Learn := { x with l := x.l.set (2 * band + (if on then 0 else 1)) v }

/-- Fold an in-bound result `d` in Q24.8 into a band (12 R273). -/
def foldIn (x : Learn) (on : Bool) (band d k outPct : Nat) (low : Bool) : Folded :=
  let dir := x.dir on
  let l := x.val on band
  if l = unlearned then ⟨x.put on band d, false, false, true, false, false⟩
  else
    let gap := ((d : Int) - l).natAbs
    -- |d − l| > max(l × OUT_PCT / 100, 200 µs), without rounding
    if max (l * outPct) (200 * 256 * 100) < gap * 100 then
      let other := dir.run.any (fun r => decide (r < l) != decide (d < l))
      let run := (if other then [] else dir.run) ++ [d]
      let x := { x with rejects := satAdd 16 x.rejects 1 }
      if 4 ≤ run.length then
        let m := (run.foldl (· + ·) 0 + run.length / 2) / run.length
        let x := (x.put on band m).setDir on { dir with run := [] }
        ⟨{ x with reseeds := satAdd 16 x.reseeds 1 }, false, true, true, true, false⟩
      else ⟨x.setDir on { dir with run := run }, false, true, false, false, false⟩
    else
      let a := if low then k + 1 else k
      let v := ((l : Int) + fdiv (2 * ((d : Int) - l) + 2 ^ a) (2 ^ (a + 1))).toNat
      ⟨(x.put on band v).setDir on { dir with run := [] }, false, false, true, false, false⟩

/-- Fold one result of an outlet (12 R273). -/
def foldOne (t : SMap Word) (id : Nat) (x : Learn) (m : MotRes) : Folded :=
  let on := !m.close
  let b := oBounds t id on
  let dir := x.dir on
  if m.delay < b.1 ∨ b.2 < m.delay then
    let n := dir.oob + 1
    ⟨x.setDir on { dir with oob := n, inb := 0 }, true, false, false, false, n == 3⟩
  else
    let n := dir.inb + 1
    let dir := { dir with oob := 0, inb := n }
    let dir := if n = 8 then { dir with suspect := false, cause := 0 } else dir
    foldIn (x.setDir on dir) on m.band (m.delay * 256) (oLearnK t id) (oOutPct t id) m.low

/-- Set flags of a result in the window: OUTLIER, OUT_OF_BOUNDS, LEARNED. -/
def State.markResult (s : State) (n : Nat) (f : Folded) : State :=
  let v := nw ((if f.outlier then 2 ^ 28 else 0) + (if f.oob then 2 ^ 27 else 0) + (if f.learned then 2 ^ 26 else 0))
  { s with motion := { s.motion with results := s.motion.results.map (fun (e : Nat × List Word) =>
      if e.1 = n then (e.1, e.2.set 0 (nth e.2 0 ||| v)) else e) } }

/-- Fold a landed result: it is learned for the outlet of its actuation while LEARN_EN is 1, the direction has a
configured delay, and the outlet still is what it was under the result's generation (12 R271, R273, R274). -/
def State.learnOne (s : State) (n : Nat) (m : MotRes) : State :=
  let t := s.tbl
  match m.own with
  | none => s
  | some o =>
    let on := !m.close
    let same := oKind t o.id == oKind (s.genTbl o.gen) o.id && oTarget t o.id == oTarget (s.genTbl o.gen) o.id
    if !oLearnEn t o.id || oDelay t o.id on == 0 || !same || !oLocal t o.id then s
    else
      let f := foldOne t o.id (s.learnOf o.id) m
      let s := (s.setLearn o.id f.st).markResult n f
      let s := if f.bounds then s.suspect o.id on 1 else s
      let s := if f.reseed then
          (s.evNamed 0x0F (learnWord o.id on 0) (nw ((f.st.val on m.band + 128) / 256))).irq (R.MOTION 0) 1 else s
      if m.close && f.learned then s.lifeBin (128 + o.id) (min 15 (m.delay / 5000)) else s

/-- Reset learned state of an outlet in the bands of a mask; all bands also clear runs, counters and suspect state
(12 R274). -/
def State.unlearn (s : State) (id mask : Nat) : State :=
  let x := s.learnOf id
  let l := (List.range 8).map (fun i => if mask.testBit (i / 2) then unlearned else x.l.getD i unlearned)
  s.setLearn id { x with l := l, on := LearnDir.reset, off := LearnDir.reset }

/-- The learner at a frame boundary: LEARN_RESET commands act first, then the landed results fold in DT order
(12 R273, R274). -/
def State.learnFrame (s : State) : State :=
  let s := s.motion.resetReq.foldl (fun (s : State) c =>
    let id := c.num 8 2
    let ids := if id = 0xFFFF then s.motion.learn.map (·.1) else [id]
    (ids.foldl (fun (s : State) i => s.unlearn i (c.byte 10)) s).ok c 0 0) s
  let l := sortKey (fun (e : Nat × MotRes) => e.2.dt) s.motion.landed
  let s := { s with motion := { s.motion with resetReq := [], landed := [] } }
  l.foldl (fun (s : State) e => s.learnOne e.1 e.2) s

end Sys2Proof.Machine
end

