-- ==== Sys2Proof/Machine/DriveOps.lean ====
section
/-!
DEFINITION. The outlet channels and regions of the field die (11) as shared operations.
-/
namespace Sys2Proof.Machine

/-! ## Reading a channel (11 R240 to R245) -/

/-- STATE codes of an outlet channel (11 R240). -/
def cOff : Nat := 0
def cPull : Nat := 1
def cHold : Nat := 2
def cDecay : Nat := 3
def cSense : Nat := 4
def cFault : Nat := 5

/-- A channel outside its registers. -/
def State.chan (s : State) (n : Nat) : Chan := s.drive.chans.getD n Chan.reset

def State.setChan (s : State) (n : Nat) (c : Chan) : State := { s with drive := { s.drive with chans := s.drive.chans.set n c } }

/-- U_STATE.STATE of a channel. -/
def State.chSt (s : State) (n : Nat) : Nat := s.f (R.OUTC_U n 0x04) 7 0

/-- Is a channel's pair bit set (11 R245)? -/
def State.pairBit (s : State) (n : Nat) : Bool := s.b (R.OUTC_CL_CFG (n / 8)) (n % 8 / 2)

/-- Is a channel the odd one, or the leading one, of a pair? -/
def State.pairOdd (s : State) (n : Nat) : Bool := n % 2 == 1 && s.pairBit n
def State.pairLead (s : State) (n : Nat) : Bool := n % 2 == 0 && s.pairBit n

/-- The channel that leads a channel's pair; the channel itself where it is in none (11 R245). -/
def State.leadChan (s : State) (n : Nat) : Nat := if s.pairOdd n then n - 1 else n

/-- U_STATE with its SAFE bit, for channels that are safe in the states listed. -/
def unitState (safe : List Nat) (st : Nat) : Word := nw ((if safe.contains st then 2 ^ 31 else 0) + st)

/-- Enter a state; the odd channel of a pair reports it too (11 R240, R245). -/
def State.setChSt (s : State) (n st : Nat) : State :=
  let s := s.w (R.OUTC_U n 0x04) (unitState [cOff, cFault] st)
  let s := if s.pairLead n then s.w (R.OUTC_U (n + 1) 0x04) (unitState [cOff, cFault] st) else s
  s.setChan n { s.chan n with since := s.dt }

def State.want (s : State) (n : Nat) : Bool := s.b (R.OUTC_CH_STAT n) 31
def State.setWant (s : State) (n : Nat) (b : Bool) : State := s.wb (R.OUTC_CH_STAT n) 31 b
def State.waiting (s : State) (n : Nat) : Bool := s.b (R.OUTC_CH_STAT n) 30

/-- STATE of a region: 0 OPEN, 1 CLOSING, 2 LIVE, 3 LOCKOUT (11 R247). -/
def State.regSt (s : State) (g : Nat) : Nat := s.f (R.REGION_STAT g) 31 28

def State.setRegSt (s : State) (g st : Nat) : State :=
  (s.wf (R.REGION_STAT g) 31 28 st).setRegion g { s.region g with since := s.dt }

/-- Does an active trip act on a region (11 R253)? -/
def State.regTripped (s : State) (g : Nat) : Bool :=
  (List.range 8).any (fun t => s.b (R.TRIP_TRIP_STAT t) 31 && s.b (R.TRIP_TRIP_MAP t) (8 + g))

/-- Is the field die in its independent safe state (01 R17)? -/
def State.fieldSafe (s : State) : Bool := s.b R.DIE_FLDSAFE_CAUSE 31

/-- Does something prevent a channel's edges: region OPEN or in LOCKOUT, trip, cluster over temperature, field die safe,
FAULT (11 R243, R247, R252, R253, R255)? A region in CLOSING does not. -/
def State.chBlocked (s : State) (n : Nat) : Bool :=
  s.regSt (regionOf n) == 0 || s.regSt (regionOf n) == 3 || s.regTripped (regionOf n) ||
    s.drive.clHot.getD (n / 8) false || s.fieldSafe || s.chSt n == cFault

/-- The outlet an owner names works as a pulse train (11 R244). -/
def State.isPwm (s : State) (o : Owner) : Bool := oKind (s.genTbl o.gen) o.id == 1

/-- Channels of a region. -/
def chansOf (g : Nat) : List Nat := (List.range 48).map (· + 48 * g)

/-! ## Faults (11 R254) -/

/-- Latch a unit fault with its event bit; one record per episode (11 R254). -/
def State.chFault (s : State) (n k : Nat) : State :=
  let fr := R.OUTC_U n 0
  let s := (s.uflt fr k).uirq fr k
  let c := s.chan n
  if c.episodes.testBit k then s
  else (s.setChan n { c with episodes := c.episodes ||| 2 ^ k }).evUnit (R.OUTC (n / 8) 0) k n

/-- An episode of a fault ends. -/
def State.endEpisode (s : State) (n k : Nat) : State :=
  let c := s.chan n
  if c.episodes.testBit k then s.setChan n { c with episodes := c.episodes - 2 ^ k } else s

/-! ## Budgets (11 R249 to R251) -/

/-- Pull-ins a channel counts for. -/
def State.pullCost (s : State) (n : Nat) : Nat := if s.pairLead n then 2 else 1

/-- Pull-ins in use among channels. -/
def State.pullsIn (s : State) (l : List Nat) : Nat :=
  (l.map (fun n => if s.chSt n == cPull && !s.pairOdd n then s.pullCost n else 0)).foldl (· + ·) 0

/-- Is the region limited: THERMAL or HOLD_LIMIT (11 R250, R251)? -/
def State.regLimited (s : State) (g : Nat) : Bool := s.b (R.REGION_STAT g) 25 || s.b (R.REGION_STAT g) 26

/-- Does a cost fit below a limit: a pair also when none is in use? -/
def fits (cost used lim : Nat) : Bool := decide (used + cost ≤ lim) || used == 0

/-- Has the cluster room for a channel's pull-in? -/
def State.clusterRoom (s : State) (n : Nat) : Bool :=
  let lim := if s.regLimited (regionOf n) then 1 else s.f (R.REGION_CFG (regionOf n)) 11 8
  fits (s.pullCost n) (s.pullsIn ((List.range 8).map (· + n / 8 * 8))) lim

/-- Has the region room for a channel's pull-in? -/
def State.regionRoom (s : State) (n : Nat) : Bool :=
  let g := regionOf n
  let m := s.f (R.REGION_CFG g) 21 16
  fits (s.pullCost n) (s.pullsIn (chansOf g)) (if s.regLimited g then max 1 (m / 2) else m)

/-- Is a channel held at HOLD_FLOOR (11 R250, R251)? -/
def State.setTrim (s : State) (n : Nat) : State :=
  s.wb (R.OUTC_CH_STAT n) 29 (s.chSt n == cHold && s.regLimited (regionOf n))

/-- Follow the hold trim of a region's channels. -/
def State.trimRegion (s : State) (g : Nat) : State := (chansOf g).foldl (fun (s : State) n => s.setTrim n) s

/-! ## Confirmations of a channel (12 R270) -/

/-- Band of a channel's field voltage now. -/
def State.bandNow (s : State) (n : Nat) : Nat := s.bandOf (s.field (regionOf n))

/-- Off-delay or on-delay published for a band, as a DT. -/
def State.delayDT (s : State) (o : Owner) (on : Bool) (band : Nat) : DT := usDT (s.published (s.genTbl o.gen) o.id on band)

/-- Does an opening in progress open the on-period: a LOCAL actuation, or the first pulse of a train? -/
def Chan.opens (c : Chan) : Bool := match c.train with | some t => t.first | none => true

/-- The opening of an actuation is known: the owner's edge needs no confirmation more, a train's next pulses do not open
the on-period again. -/
def Chan.opened (c : Chan) : Chan :=
  { c with opening := none, own := c.own.map (fun o => { o with edge := false }),
           train := c.train.map (fun t => { t with first := false }) }

/-- An opening in progress ends without a result: confirmed ESTIMATED where it opens the on-period (12 R270). -/
def State.missOpening (s : State) (n : Nat) (count : Bool) : State :=
  let c := s.chan n
  match c.opening, c.own with
  | some (t, _, d), some o =>
    let s := if count then s.noResult (s.genTbl o.gen) o.id true else s
    let s := if c.opens then s.estimate n o true (t + usDT d) else s
    s.setChan n (if c.opens then (s.chan n).opened else { s.chan n with opening := none })
  | _, _ => s.setChan n { c with opening := none }

/-- A close in progress ends without a result: confirmed ESTIMATED, or kept as the newest pulse's closing (12 R270). -/
def State.missClosing (s : State) (n : Nat) : State :=
  let c := s.chan n
  match c.closing with
  | none => s
  | some k =>
    let t := k.decay + usDT k.est
    let s := match c.closeOwn with
      | some o => s.estimate n o false t
      | none => s
    let c := s.chan n
    s.setChan n { c with closing := none, closeOwn := none, train := c.train.map (fun x => { x with lastClose := some (t, true) }) }

/-- The on-period of a train that is between pulses, or has none left, closes with the newest pulse's closing. -/
def State.closeTrain (s : State) (n : Nat) (edge : Bool) : State :=
  let c := s.chan n
  match c.train, c.own with
  | some t, some o =>
    match t.lastClose with
    | some (x, est) => if t.first then s else (s.settleFifo n).confirm o.id o.gen false x est edge
    | none => s
  | _, _ => s

/-! ## Entering and leaving states (11 R241 to R243) -/

/-- Energy a close dissipates, in nJ: all of ½ L I² with fast decay, a tenth with slow; the coil of a pair carries the sum
(11 R245, R250). -/
def State.closeEnergy (s : State) (n : Nat) (fast : Bool) : State :=
  let i := s.f (R.OUTC_CH_STAT n) 23 12 + (if s.pairLead n then s.f (R.OUTC_CH_STAT (n + 1)) 23 12 else 0)
  let e := s.f (R.OUTC_CH_HOLD n) 15 0 * i * i / 2000
  let x := s.region (regionOf n)
  s.setRegion (regionOf n) { x with energy := x.energy + (if fast then e else e / 10) }

/-- A request leaves the wait queue. -/
def State.unwait (s : State) (n : Nat) : State :=
  ({ s with drive := { s.drive with waits := s.drive.waits.filter (fun r => r.ch != n) } }).wb (R.OUTC_CH_STAT n) 30 false

/-- A pull-in starts (11 R241, R243): a close in progress gets no result, a SENSE window is aborted; an OUT_FORCE that
waits for the state completes. -/
def State.startPull (s : State) (n : Nat) : State :=
  let s := if s.chSt n = cSense then s.satInc R.MOTION_SMP_STAT 15 0 1 else s
  let s := ((s.missClosing n).unwait n).setChSt n cPull
  let c := s.chan n
  let band := s.bandNow n
  let d := match c.own with
    | some o => s.published (s.genTbl o.gen) o.id true band
    | none => 0
  let c := { c with peaked := false, opening := some (s.dt, band, d), lastPull := some s.dt,
                    train := c.train.map (fun (t : Train) => { t with start := s.dt }),
                    forceEnd := if 0 < c.forcePulse then some (s.dt + msDT c.forcePulse) else c.forceEnd, forcePulse := 0 }
  let s := s.setChan n { c with force := none }
  let s := match c.own with
    | some o => s.life (o.id / 8) (o.id % 8) 1
    | none => s
  match c.force with
  | some k => s.ok k 0 0
  | none => s

/-- Requests that wait in a region, in order: requested DT, then channel (11 R249). -/
def State.waitsOf (s : State) (g : Nat) : List Req :=
  sortKey (fun (r : Req) => r.dt * 256 + r.ch) (s.drive.waits.filter (fun r => regionOf r.ch == g))

/-- Admit waiting requests of a region while there is room (11 R249). -/
def State.admitPull (s : State) (g : Nat) : Nat → State
  | 0 => s
  | n + 1 =>
    match (s.waitsOf g).find? (fun r => s.clusterRoom r.ch && s.regionRoom r.ch) with
    | some r => (s.startPull r.ch).admitPull g n
    | none => s

/-- A pull-in is requested: it starts when admitted, else it waits (11 R249). -/
def State.requestPull (s : State) (n src : Nat) : State :=
  if s.waiting n then s
  else if s.clusterRoom n && s.regionRoom n then s.startPull n
  else ({ s with drive := { s.drive with waits := s.drive.waits ++ [Req.mk s.dt n src] } }).wb (R.OUTC_CH_STAT n) 30 true

/-- A channel that was in PULL_IN has left it: waiting requests are admitted. -/
def State.leftPull (s : State) (n st : Nat) : State := if st = cPull then s.admitPull (regionOf n) 48 else s

/-- The closing window's bookkeeping at DECAY entry (12 R266). A channel that no outlet drives has no published off-delay:
there it is a free value (log 38). -/
def State.closingOf (s : State) (n : Nat) : Closing × State :=
  let band := s.bandNow n
  match (s.chan n).own with
  | some w =>
    let t := s.genTbl w.gen
    ({ decay := s.dt, d := s.published t w.id false (s.bandInUse t w.id), band := band,
       est := s.published t w.id false band, sense := none, span := none, low := false }, s)
  | none =>
    let f := s.freeBits 24
    ({ decay := s.dt, d := f.1, band := band, est := f.1, sense := none, span := none, low := false }, f.2)

/-- DECAY begins with the configured decay, and with it the closing window's bookkeeping; `o` is the owner whose close
this is, none for a pulse inside a train (11 R242, R243, 12 R266). -/
def State.enterDecay (s : State) (n : Nat) (o : Option Owner) : State :=
  let was := s.chSt n
  let s := s.missOpening n true
  let s := s.closeEnergy n (s.f (R.OUTC_CH_CFG n) 29 28 == 0)
  let k := s.closingOf n
  let s := k.2.setChSt n cDecay
  let s := s.setChan n { s.chan n with closing := some k.1, closeOwn := o, forceEnd := none }
  (s.setTrim n).leftPull n was

/-- A protection action switches a channel off with fast decay and no window (11 R242, R243): what it was doing is
confirmed ESTIMATED; WANT and a pulse train are kept. -/
def State.cutOff (s : State) (n st : Nat) : State :=
  let was := s.chSt n
  let live := was == cPull || was == cHold
  let s := if live then (s.missOpening n false).closeEnergy n true else s
  let c := s.chan n
  let s :=
    if live then
      match c.own with
      | some o => s.estimate n { o with edge := false } false (s.dt + s.delayDT o false (s.bandNow n))
      | none => s
    else if c.closing.isSome && c.closeOwn.isNone && c.train.isSome then
      (s.setChan n { c with closeOwn := c.own.map (fun o => { o with edge := false }) }).missClosing n
    else if c.closing.isSome then s.missClosing n
    else s.closeTrain n false
  let s := if was = cSense then s.satInc R.MOTION_SMP_STAT 15 0 1 else s
  let c := s.chan n
  let s := s.setChan n { c with closing := none, closeOwn := none, opening := none, forceEnd := none,
                                train := c.train.map (fun t => { t with first := true, lastClose := none }) }
  (s.setChSt n st).setTrim n

/-- A request that waits is prevented: an on edge not yet confirmed counts MISSED (09 R204). -/
def State.dropWait (s : State) (n : Nat) : State :=
  if s.waiting n then
    let s := s.unwait n
    let c := s.chan n
    match c.own with
    | some o =>
      let s := if o.edge && c.opening.isNone then s.missed o.id else s
      s.setChan n { s.chan n with own := some { o with edge := false } }
    | none => s
  else s

/-- An OUT_FORCE that can no longer act completes (11 R260). -/
def State.dropForce (s : State) (n status detail : Nat) : State :=
  match (s.chan n).force with
  | some k => (s.setChan n { s.chan n with force := none, forcePulse := 0 }).reply k status 0 detail 0 0
  | none => s

/-- Switch off every channel of a list for a protection action; a latched one stays in FAULT until CH_UNLATCH (11 R243,
R254). -/
def State.cutAll (s : State) (l : List Nat) : State :=
  l.foldl (fun (s : State) n =>
    let s := s.dropWait n
    if s.pairOdd n then s
    else if s.chSt n = cOff then (if (s.chan n).train.isSome then s.cutOff n cOff else s)
    else if s.b (R.OUTC_CH_STAT n) 24 then s
    else (s.cutOff n cOff).dropForce n 0x12 0) s

/-! ## Edges at a channel (11 R243, R244, R247) -/

/-- Period of a channel's pulse train, DT (11 R244). -/
def State.pwmPeriod (s : State) (n : Nat) : DT := 25600000000 / max 1 (s.f (R.OUTC_CH_TIME n) 15 8)

/-- On-time of a pulse with the duty in use: duty × period to the nearest µs (11 R244). -/
def State.pulseOn (s : State) (n : Nat) : Nat :=
  let p := 1000000 / max 1 (s.f (R.OUTC_CH_TIME n) 15 8)
  (s.f (R.OUTC_CH_MEAS n) 15 0 * p + 32768) / 65536

/-- A pulse of the outlet takes the duty metering has published (11 R244, 10 R229). -/
def State.takeDuty (s : State) (n id : Nat) : State :=
  match s.meterOut id with
  | some o => if oMeter s.tbl id = 2 then s.wf (R.OUTC_CH_MEAS n) 15 0 o.out else s
  | none => s

/-- Is a pulse train suspended by metering (10 R228)? -/
def State.metSusp (s : State) (id : Nat) : Bool := match s.meterOut id with | some o => o.susp | none => false

/-- A pulse train starts now with its first pulse (11 R244). -/
def State.startTrain (s : State) (n : Nat) (o : Owner) (src : Nat) : State :=
  let s := s.takeDuty n o.id
  let susp := s.metSusp o.id
  let s := s.setChan n { s.chan n with train := some { next := s.dt + s.pwmPeriod n, tOn := s.pulseOn n, start := s.dt,
                                                       susp := susp, first := true, lastClose := none } }
  if susp then s else s.requestPull n src

/-- A channel with WANT = on is pulled in by a recovery, a closing or an unlatch (11 R243, R247, R252). -/
def State.repull (s : State) (n src : Nat) : State :=
  if !s.want n || s.pairOdd n || s.chBlocked n || s.chSt n != cOff then s
  else
    match (s.chan n).own with
    | some o =>
      if s.isPwm o then
        match (s.chan n).train with
        | some t => if t.susp then s else s.requestPull n src
        | none => s.startTrain n o src
      else s.requestPull n src
    | none => s.requestPull n src

/-- An on edge executes at a channel (11 R243, R247). -/
def State.onEdge (s : State) (n : Nat) (o : Owner) : State :=
  let s := s.setWant n true
  if s.chBlocked n then
    let c := s.chan n
    (s.setChan n { c with own := some { o with edge := false } }).missed o.id
  else if s.regSt (regionOf n) = 1 then
    s.setChan n { s.chan n with own := some { o with edge := false }, held := some o }
  else if s.chSt n = cPull ∨ s.chSt n = cHold then
    if (s.chan n).opening.isSome then s.setChan n { s.chan n with own := some o }
    else (s.estimate n o true s.dt).setChan n { s.chan n with own := some { o with edge := false } }
  else
    let s := s.setChan n { s.chan n with own := some o }
    if s.isPwm o then s.startTrain n o 0 else s.requestPull n 0

/-- An off edge at a channel whose on edge never opened it: both are confirmed ESTIMATED at the off edge's DT, an on-period
of zero length (11 R243, R247). -/
def State.zeroPeriod (s : State) (n : Nat) (on off : Owner) : State :=
  let s := if on.edge then s.estimate n on true s.dt else s
  s.estimate n off false s.dt

/-- The channel forgets its actuation. -/
def State.clearOwn (s : State) (n : Nat) : State := s.setChan n { s.chan n with own := none, train := none, held := none }

/-- An off edge executes at a channel in OFF, DECAY or SENSE. -/
def State.offIdle (s : State) (n : Nat) (o : Owner) : State :=
  let c := s.chan n
  let on := c.own.getD { o with edge := false }
  if s.waiting n then
    let s := (s.unwait n).missClosing n
    (s.zeroPeriod n on o).clearOwn n
  else
    match c.train with
    | some t =>
      if t.first then (s.zeroPeriod n on o).clearOwn n
      else if c.closing.isSome then (s.setChan n { c with closeOwn := some o, train := none })
      else if t.lastClose.isSome then (s.closeTrain n true).clearOwn n
      else (s.estimate n o false s.dt).clearOwn n
    | none =>
      if c.closing.isSome ∧ c.closeOwn.isSome then s.setChan n { c with closeOwn := some o }
      else (s.zeroPeriod n on o).clearOwn n

/-- An off edge executes at a channel (11 R243, R247). -/
def State.offEdgeAt (s : State) (n : Nat) (o : Owner) : State :=
  let s := s.setWant n false
  if s.chBlocked n then (s.missed o.id).clearOwn n
  else if s.regSt (regionOf n) = 1 then
    match (s.chan n).held with
    | some h => (s.zeroPeriod n h o).clearOwn n
    | none => (s.estimate n o false s.dt).clearOwn n
  else if s.chSt n = cPull ∨ s.chSt n = cHold then
    let s := s.enterDecay n (some o)
    s.setChan n { s.chan n with train := none }
  else s.offIdle n o

/-- The owner of a queued edge. -/
def Edge.owner (e : Edge) (id : Nat) : Owner := { id := id, gen := e.gen, edge := true }

/-- The oldest edge of an outlet executes at its channel (11 R246). -/
def State.runLocal (s : State) (id : Nat) (e : Edge) : State :=
  let s := s.popEdge id
  let n := if s.pairOdd e.target then e.target - 1 else e.target
  if e.on then s.onEdge n (e.owner id) else (s.offEdgeAt n (e.owner id)).releaseOld

/-! ## Regions (11 R247 to R252) -/

/-- A close request; a region that is not used stays OPEN (11 R247). -/
def State.requestClose (s : State) (g : Nat) : State :=
  if s.regSt g = 0 ∧ s.b (R.REGION_CFG g) 31 = true then s.setRegSt g 1 else s

/-- On edges that executed while the region was CLOSING and are unconfirmed count MISSED (11 R247). -/
def State.missHeld (s : State) (g : Nat) : State :=
  (chansOf g).foldl (fun (s : State) n =>
    match (s.chan n).held with
    | some o => (s.setChan n { s.chan n with held := none }).missed o.id
    | none => s) s

/-- The region opens: every channel not yet OFF goes off with fast decay and no window (11 R247). -/
def State.openRegion (s : State) (g : Nat) : State :=
  if s.regSt g = 0 then s
  else
    let s := (s.missHeld g).setRegSt g 0
    let s := s.cutAll (chansOf g)
    ((s.wb (R.REGION_STAT g) 27 false).wb (R.REGION_STAT g) 26 false).trimRegion g

/-- Pull in every channel of a list with WANT = on, in ascending number (11 R247, R252). -/
def State.repullAll (s : State) (l : List Nat) : State := l.foldl (fun (s : State) n => s.repull n 3) s

/-- The region goes LIVE from CLOSING: held on edges are confirmed by the openings that follow (11 R247). -/
def State.goLive (s : State) (g : Nat) : State :=
  let s := s.setRegSt g 2
  let s := (chansOf g).foldl (fun (s : State) n =>
    match (s.chan n).held with
    | some o => s.setChan n { s.chan n with held := none, own := some o }
    | none => s) s
  let s := s.repullAll (chansOf g)
  match (s.region g).cmd with
  | some c => (s.setRegion g { s.region g with cmd := none }).ok c 0 0
  | none => s

/-- Follow WARN and HOLD_LIMIT with their hysteresis, in LIVE and LOCKOUT (11 R251). -/
def State.sagFlags (s : State) (g : Nat) : State :=
  let v := s.field g
  let lim (hi lo : Nat) : Nat := s.f (R.REGION_SAG g) hi lo * 10
  let hy := s.f (R.REGION_SAG g) 7 4 * 10
  let w := s.b (R.REGION_STAT g) 27
  let h := s.b (R.REGION_STAT g) 26
  let s :=
    if !w && decide (v < lim 31 24) then
      (((s.wb (R.REGION_STAT g) 27 true).satInc (R.REGION_SAGS g) 15 0 1).irq (R.REGION g 0) 0).life (1152 + g) 1 1
    else if w && decide (lim 31 24 + hy < v) then s.wb (R.REGION_STAT g) 27 false else s
  let s :=
    if !h && decide (v < lim 23 16) then
      ((s.wb (R.REGION_STAT g) 26 true).irq (R.REGION g 0) 1).life (1152 + g) 2 1
    else if h && decide (lim 23 16 + hy < v) then s.wb (R.REGION_STAT g) 26 false else s
  let s := s.trimRegion g
  if h && !s.b (R.REGION_STAT g) 26 then s.admitPull g 48 else s

/-- Note a region's measured field voltage. -/
def State.setField (s : State) (g v : Nat) : State := s.wf (R.REGION_VOLT g) 15 0 v

/-- Voltage above which a closing or locked-out region recovers, 10 mV (11 R247). -/
def State.liveAbove (s : State) (g : Nat) : Nat := s.f (R.REGION_SAG g) 15 8 * 10 + s.f (R.REGION_SAG g) 3 0 * 25

/-- The channels of a cluster. -/
def clusterChans (cl : Nat) : List Nat := (List.range 8).map (· + 8 * cl)

end Sys2Proof.Machine
end

