-- ==== Sys2Proof/Machine/BoostOps.lean ====
section
/-!
DEFINITION. SAFE entry at the outlet channels, the boost banks, and the confirmations formed from configured delays (11,
01 R15) as shared operations.
-/
namespace Sys2Proof.Machine

/-- SAFE entry at a channel (11 R243): a coil that is on decays as configured with its window; a request that waits counts
MISSED; WANT becomes off. -/
def State.safeChan (s : State) (n : Nat) : State :=
  if s.pairOdd n then s
  else
    let s := s.setWant n false
    let own := (s.chan n).own.map (fun (o : Owner) => { o with edge := false })
    let st := s.chSt n
    if st = cPull ∨ st = cHold then
      let s := s.enterDecay n own
      s.setChan n { s.chan n with train := none }
    else if st = cOff then (((s.dropWait n).closeTrain n false).clearOwn n).dropForce n 0x12 0
    else if st = cFault then s.clearOwn n
    else
      let s := (s.dropWait n).dropForce n 0x12 0
      let c := s.chan n
      let co := if c.closing.isSome && c.closeOwn.isNone && c.train.isSome then own else c.closeOwn
      s.setChan n { c with closeOwn := co, train := none }

/-! ## Confirmations from configured delays (01 R15) -/

/-- An executed edge awaits its confirmation at execution plus the configured delay (01 R15). -/
def State.await (s : State) (o : Owner) (on : Bool) (kind : Nat) : State :=
  let d := oDelay (s.genTbl o.gen) o.id on
  { s with look := { s.look with
      awaiting := s.look.awaiting ++ [Awaiting.mk o.id on s.dt (s.dt + usDT d) o.gen kind 0] } }

/-- Confirm what an outlet awaits, oldest first, without waiting for its time. -/
def State.flushAwait (s : State) (id : Nat) : State :=
  let mine := s.look.awaiting.filter (fun a => a.id == id)
  let s := { s with look := { s.look with awaiting := s.look.awaiting.filter (fun a => a.id != id) } }
  mine.foldl (fun (s : State) a => s.confirm a.id a.gen a.on a.due true true) s

/-! ## Boost channels (11 R256 to R259) -/

/-- STATE codes of a boost channel (11 R257). -/
def bOff : Nat := 0
def bPeak : Nat := 1
def bHold : Nat := 2
def bDecay : Nat := 3
def bWait : Nat := 4
def bFault : Nat := 5

def State.bst (s : State) (b : Nat) : Boost := s.drive.boost.getD b Boost.reset
def State.setBst (s : State) (b : Nat) (x : Boost) : State := { s with drive := { s.drive with boost := s.drive.boost.set b x } }
def State.bstSt (s : State) (b : Nat) : Nat := s.f (R.BANK_U b 0x04) 7 0

def State.setBstSt (s : State) (b st : Nat) : State :=
  (s.w (R.BANK_U b 0x04) (unitState [bOff, bFault] st)).setBst b { s.bst b with since := s.dt }

/-- Channels of a bank. -/
def bankChans (k : Nat) : List Nat := (List.range 4).map (· + 4 * k)

/-- Region whose field rail a bank holds on: A for BANK0, C for BANK1 (11 R256). -/
def bankRegion (k : Nat) : Nat := 2 * k

/-- A bank's peak ends now: its recharge time runs (11 R258). -/
def State.peakEnds (s : State) (b : Nat) : State :=
  { s with drive := { s.drive with bankEnd := s.drive.bankEnd.set (b / 4) (some s.dt) } }

/-- May a shot start PEAK (11 R258)? -/
def State.canPeak (s : State) (b : Nat) : Bool :=
  !(bankChans (b / 4)).any (fun c => s.bstSt c == bPeak) &&
    (match s.drive.bankEnd.getD (b / 4) none with
     | some t => decide (t + usDT (100 * s.f (R.BANK_BK_CFG (b / 4)) 23 16) ≤ s.dt)
     | none => true) &&
    decide (s.f R.DRVCTL_VBST_CFG 23 16 * 100 ≤ s.f R.DRVCTL_VBST_STAT 15 0)

/-- Requests of a bank that wait, in order: requested DT, then number (11 R258). -/
def State.bstWaits (s : State) (k : Nat) : List Nat :=
  sortKey (fun b => (s.bst b).waitSince.getD 0) ((bankChans k).filter (fun b => s.bstSt b == bWait))

/-- Complete an OUT_FORCE that waits for a boost channel. -/
def State.bstForceDone (s : State) (b status : Nat) : State :=
  match (s.bst b).force with
  | some c => (s.setBst b { s.bst b with force := none }).reply c status 0 0 0 0
  | none => s

/-- PEAK starts now (11 R257): the opening is confirmed at this DT plus the on-delay; an INJECT shot has its length. -/
def State.startPeak (s : State) (b : Nat) : State :=
  let x := s.bst b
  let wait := match x.waitSince with | some t => s.dt - t | none => 0
  let s := if x.waitSince.isSome then
      (s.wf (R.BANK_BST_STAT b) 31 16 (min (wait / 25600) 0xFFFF)).uirq (R.BANK_U b 0) 3
    else s
  let s := (s.setBstSt b bPeak).life 1172 (2 * (b / 4)) 1
  let shot := match x.own with
    | some o =>
      if oMeter (s.genTbl o.gen) o.id = 4 then (s.meterOut o.id).map (fun m => s.dt + usDT m.out) else none
    | none => none
  let s := s.setBst b { s.bst b with waitSince := none, shotEnd := shot,
                                     own := x.own.map (fun (o : Owner) => { o with edge := false }),
                                     forceEnd := if 0 < x.forcePulse then some (s.dt + msDT x.forcePulse) else none, forcePulse := 0 }
  let s := match x.own with
    | some o =>
      if o.edge then s.await o true 2
      else s.confirm o.id o.gen true (s.dt + usDT (oDelay (s.genTbl o.gen) o.id true)) true false
    | none => s
  s.bstForceDone b 0x00

/-- A shot ends: DECAY through the FET's clamp (11 R257). -/
def State.bstDecay (s : State) (b : Nat) : State :=
  let s := if s.bstSt b = bPeak then s.peakEnds b else s
  (s.setBstSt b bDecay).setBst b { s.bst b with since := s.dt, shotEnd := none, forceEnd := none }

/-- A protection, lockout or SAFE ends what a boost channel does: its close is confirmed ESTIMATED (01 R15). -/
def State.bstStop (s : State) (b st : Nat) : State :=
  let s := if s.bstSt b = bPeak then s.peakEnds b else s
  let s := match (s.bst b).own with
    | some o =>
      let s := s.flushAwait o.id
      s.confirm o.id o.gen false (s.dt + usDT (oDelay (s.genTbl o.gen) o.id false)) true false
    | none => s
  (s.setBstSt b st).setBst b { s.bst b with since := s.dt, shotEnd := none, forceEnd := none, own := none }

/-- A waiting request is prevented: its on edge counts MISSED (09 R204). -/
def State.bstDropWait (s : State) (b : Nat) : State :=
  if s.bstSt b = bWait then
    let x := s.bst b
    let s := match x.own with
      | some o => if o.edge then s.missed o.id else s
      | none => s
    ((s.setBstSt b bOff).setBst b { s.bst b with own := none, waitSince := none, forcePulse := 0 }).bstForceDone b 0x12
  else s

/-- Both banks go OFF: over-voltage, the field die's safe state, SAFE (11 R259, 01 R17, 04 R82). -/
def State.banksOff (s : State) (st : Nat) : State :=
  (List.range 8).foldl (fun (s : State) b =>
    let s := s.bstDropWait b
    if s.bstSt b = bPeak ∨ s.bstSt b = bHold then s.bstStop b st else s) s

/-- A bank refuses a request: on edge and next queued off edge count MISSED, the planner's record becomes off (11 R258). -/
def State.bstRefuse (s : State) (b : Nat) : State :=
  let x := s.bst b
  let s := match x.own with
    | some o =>
      let s := if o.edge then s.missed o.id else s
      let q := s.q o.id
      let s := match q.edges.find? (fun (e : Edge) => !e.on) with
        | some e => (s.setQ o.id { q with edges := q.edges.filter (fun g => !decide (g = e)) }).missed o.id
        | none => s
      s.forgetOn o.id
    | none => s
  let s := (s.setBstSt b bOff).setBst b { s.bst b with own := none, waitSince := none, forcePulse := 0 }
  let s := ((s.satInc (R.BANK_BK_STAT (b / 4)) 15 0 1).life 1172 (2 * (b / 4) + 1) 1).evNow 0x0D (nw b)
  let s := ((s.irq (R.BANK (b / 4) 0) 0).uirq (R.BANK_U b 0) 2).uflt (R.BANK_U b 0) 2
  s.bstForceDone b 0x12

/-- Is a boost channel kept from shooting: FAULT, converter stopped, field die safe (11 R258, R259)? -/
def State.bstBlocked (s : State) (b : Nat) : Bool := s.bstSt b == bFault || s.drive.vbstOff || s.fieldSafe

/-- A shot is requested: PEAK at once, WAIT, or refused (11 R258). -/
def State.bstRequest (s : State) (b : Nat) : State :=
  if s.canPeak b && (s.bstWaits (b / 4)).isEmpty then s.startPeak b
  else if s.f (R.BANK_BK_CFG (b / 4)) 31 24 = 0 then s.bstRefuse b
  else (s.setBstSt b bWait).setBst b { s.bst b with since := s.dt, waitSince := some s.dt }

/-- Does metering suppress the shot (10 R228)? -/
def State.shotSuppressed (s : State) (o : Owner) : Bool :=
  oMeter (s.genTbl o.gen) o.id == 4 && (match s.meterOut o.id with | some m => m.under && oUnderOff (s.genTbl o.gen) o.id | none => false)

/-- The oldest edge of a BOOST outlet executes (11 R257, R258). -/
def State.runBoost (s : State) (id : Nat) (e : Edge) : State :=
  let s := s.popEdge id
  let b := e.target % 8
  let o := e.owner id
  if s.bstBlocked b then s.missed id
  else if e.on then
    let s := s.setBst b { s.bst b with own := some o }
    if s.shotSuppressed o then s else s.bstRequest b
  else if s.bstSt b = bPeak ∨ s.bstSt b = bHold then
    let s := (s.bstDecay b).await o false 2
    s.setBst b { s.bst b with own := none }
  else
    -- the shot's length ended it before, or it never started: then both edges are confirmed here
    let x := s.bst b
    let s := if s.bstSt b = bWait then (s.setBstSt b bOff) else s
    let s := s.setBst b { s.bst b with own := none, waitSince := none }
    match x.own with
    | some w => if w.edge then (s.confirm id w.gen true s.dt true true).confirm id o.gen false s.dt true true
                else s.await o false 2
    | none => s.await o false 2

end Sys2Proof.Machine
end

