-- ==== Sys2Proof/Machine/DriveCmds.lean ====
section
/-!
DEFINITION. The meanings of the outlet-channel and region events and commands (11).
-/
namespace Sys2Proof.Machine

/-! ## Channel events (11 R241 to R244)

An event at either channel of a pair is the pair's: it acts on the even channel, which leads (11 R245). -/

/-- PULLIN_PEAK_REACHED (11 R241): the channel chops at I_PEAK from here on; a normal pull-in ends a WEAK_PULLIN episode. -/
def execPullinPeakReached (ch : Fin 192) (s : State) : Host.Outcome State Fault Refusal :=
  let n := s.leadChan ch.val
  let weak := decide (s.dt < (s.chan n).since + usDT (100 * s.f (R.OUTC_CH_TIME n) 23 16))
  done (if s.chSt n = cPull then
      let s := s.setChan n { s.chan n with peaked := true }
      if weak then s.endEpisode n 6 else s
    else s)

/-- PULLIN_END (11 R241): at the later of T_PULL and the peak, at most 20 ms after entry. -/
def execPullinEnd (ch : Fin 192) (s : State) : Host.Outcome State Fault Refusal :=
  let n := s.leadChan ch.val
  let c := s.chan n
  let ovr := (c.peaked && decide (c.since + usDT (100 * s.f (R.OUTC_CH_TIME n) 31 24) ≤ s.dt)) ||
    decide (c.since + msDT 20 ≤ s.dt)
  done (if s.chSt n = cPull ∧ ovr = true then ((s.setChSt n cHold).setTrim n).admitPull (regionOf n) 48 else s)

/-- WEAK_PULLIN (11 R241, R254). -/
def execWeakPullin (ch : Fin 192) (s : State) : Host.Outcome State Fault Refusal :=
  let n := s.leadChan ch.val
  done (if s.chSt n = cPull ∧ (s.chan n).peaked = false ∧
      (s.chan n).since + usDT (100 * s.f (R.OUTC_CH_TIME n) 23 16) ≤ s.dt then s.chFault n 6 else s)

/-- A region's forced pull-in (11 R249): one event record per region and second. -/
def State.countForced (s : State) (g : Nat) : State :=
  let s := ((s.satInc (R.REGION_BUDGET g) 15 0 1).irq (R.REGION g 0) 5).life (1152 + g) 4 1
  let sec := s.pkg.opTicks / 256
  if (s.region g).forcedSec = some sec then s
  else (s.setRegion g { s.region g with forcedSec := some sec }).evIrq (R.REGION g 0) 5

/-- STAGGER_MAX_EXPIRE (11 R249): a request of an edge, a retry or a pulse starts regardless of the budget. -/
def execStaggerMaxExpire (ch : Fin 192) (s : State) : Host.Outcome State Fault Refusal :=
  let n := s.leadChan ch.val
  done (match s.drive.waits.find? (fun r => r.ch == n) with
    | some r =>
      if r.src ≤ 2 ∧ r.dt + usDT (s.f R.DRVCTL_CFG 31 16) ≤ s.dt then (s.countForced (regionOf n)).startPull n else s
    | none => s)

/-- The channel goes OFF; an actuation that is over is forgotten. -/
def State.goOff (s : State) (n : Nat) : State :=
  let s := s.setChSt n cOff
  let c := s.chan n
  if !s.want n && !s.waiting n && c.train.isNone then (s.setChan n { c with own := none }).releaseOld else s

/-- DECAY_CURRENT_LOW (11 R242): SENSE with a closing window, or OFF. -/
def execDecayCurrentLow (ch : Fin 192) (s : State) : Host.Outcome State Fault Refusal :=
  let n := s.leadChan ch.val
  done (if s.chSt n = cDecay then
      match (s.chan n).closing with
      | some k =>
        if s.b (R.OUTC_CH_CFG n) 27 then
          let s := s.setChSt n cSense
          s.setChan n { s.chan n with closing := some { k with sense := some s.dt } }
        else (s.missClosing n).goOff n
      | none => s.goOff n
    else s)

/-- An overcurrent (11 R243): FAULT with fast decay; latched once RETRY_N exceeds RETRIES. -/
def State.overcurrent (s : State) (n : Nat) : State :=
  let was := s.chSt n
  let s := ((s.chFault n 0).satInc (R.OUTC_CH_CNT n) 31 16 1).satInc (R.OUTC_CH_STAT n) 27 25 1
  let s := s.cutOff n cFault
  let s := if s.f (R.OUTC_CH_CFG n) 26 24 < s.f (R.OUTC_CH_STAT n) 27 25 then
      (s.wb (R.OUTC_CH_STAT n) 24 true).chFault n 1 else s
  s.leftPull n was

/-- OUTLET_OVERCURRENT (11 R243, R254). -/
def execOutletOvercurrent (ch : Fin 192) (s : State) : Host.Outcome State Fault Refusal :=
  let n := s.leadChan ch.val
  done (if s.chSt n = cPull ∨ s.chSt n = cHold then s.overcurrent n else s)

/-- OUTLET_RETRY_EXPIRE (11 R243). -/
def execOutletRetryExpire (ch : Fin 192) (s : State) : Host.Outcome State Fault Refusal :=
  let n := s.leadChan ch.val
  done (if s.chSt n = cFault ∧ s.b (R.OUTC_CH_STAT n) 24 = false ∧
      (s.chan n).since + msDT (10 * s.f (R.OUTC_CH_CFG n) 23 16) ≤ s.dt then (s.goOff n).repull n 1 else s)

/-- RETRY_COUNT_RESET (11 R243). -/
def execRetryCountReset (ch : Fin 192) (s : State) : Host.Outcome State Fault Refusal :=
  let n := s.leadChan ch.val
  done (if s.chSt n = cHold ∧ (s.chan n).since + sDT 1 ≤ s.dt then
      ((s.wf (R.OUTC_CH_STAT n) 27 25 0).endEpisode n 0).endEpisode n 1 else s)

/-- Metering suspends a train at a pulse start: its on-period closes with the newest pulse (10 R228). -/
def State.suspendTrain (s : State) (n : Nat) (o : Owner) : State :=
  let c := s.chan n
  let s :=
    if s.chSt n = cPull ∨ s.chSt n = cHold then s.enterDecay n (some { o with edge := false })
    else if c.closing.isSome then
      (if c.closeOwn.isNone then s.setChan n { c with closeOwn := some { o with edge := false } } else s)
    else s.closeTrain n false
  let s := if s.waiting n then s.unwait n else s
  let c := s.chan n
  s.setChan n { c with train := c.train.map (fun (t : Train) => { t with susp := true, first := true, lastClose := none }) }

/-- A pulse period begins (11 R244). -/
def State.pulseStart (s : State) (n : Nat) (t : Train) (o : Owner) : State :=
  let s := s.takeDuty n o.id
  let t1 := { t with next := t.next + s.pwmPeriod n, tOn := s.pulseOn n, start := s.dt }
  let s := s.setChan n { s.chan n with train := some t1 }
  if s.chBlocked n || s.regSt (regionOf n) != 2 then s
  else if s.metSusp o.id then (if t.susp then s else s.suspendTrain n o)
  else
    let s := s.setChan n { s.chan n with train := some { t1 with susp := false } }
    if s.chSt n = cPull ∨ s.chSt n = cHold then s else s.requestPull n 2

/-- PWM_NOZZLE_PULSE_START (11 R244). -/
def execPwmNozzlePulseStart (ch : Fin 192) (s : State) : Host.Outcome State Fault Refusal :=
  let n := s.leadChan ch.val
  let c := s.chan n
  done (match c.train, c.own with
    | some t, some o => if t.next ≤ s.dt then s.pulseStart n t o else s
    | _, _ => s)

/-- PWM_NOZZLE_PULSE_DECAY (11 R244): not within 500 µs of the period, where the channel stays in HOLD. -/
def execPwmNozzlePulseDecay (ch : Fin 192) (s : State) : Host.Outcome State Fault Refusal :=
  let n := s.leadChan ch.val
  done (match (s.chan n).train with
    | some t =>
      if (s.chSt n = cPull ∨ s.chSt n = cHold) ∧ t.start + usDT t.tOn ≤ s.dt ∧ usDT (t.tOn + 500) < s.pwmPeriod n then
        s.enterDecay n none
      else s
    | none => s)

/-! ## Region events (11 R247 to R252) -/

/-- REGION_FIELD_LIVE (11 R247): within 10 ms of the close request. -/
def execRegionFieldLive (reg : Fin 4) (v : BitVec 16) (s : State) : Host.Outcome State Fault Refusal :=
  let g := reg.val
  let s := s.setField g v.toNat
  done (if s.regSt g = 1 ∧ s.liveAbove g < v.toNat then s.goLive g else s)

/-- REGION_CLOSE_TIMEOUT (11 R247, R260). -/
def execRegionCloseTimeout (reg : Fin 4) (s : State) : Host.Outcome State Fault Refusal :=
  let g := reg.val
  done (if s.regSt g = 1 ∧ (s.region g).since + msDT 10 ≤ s.dt then
      let s := (chansOf g).foldl (fun (s : State) n =>
        if (s.chan n).force.isSome then (s.setWant n false).dropForce n 0x20 0x50 else s) s
      let s := (s.openRegion g).fltEv (R.REGION g 0) 0
      match (s.region g).cmd with
      | some c => (s.setRegion g { s.region g with cmd := none }).reply c 0x20 0 0x50 0 0
      | none => s
    else s)

/-- REGION_SWITCH_STUCK (11 R247). -/
def execRegionSwitchStuck (reg : Fin 4) (v : BitVec 16) (s : State) : Host.Outcome State Fault Refusal :=
  let g := reg.val
  let s := s.setField g v.toNat
  done (if s.regSt g = 0 ∧ s.b (R.REGION_CFG g) 31 = true ∧ 300 < v.toNat ∧ (s.region g).since + msDT 10 ≤ s.dt then
      s.fltEv (R.REGION g 0) 1 else s)

/-- A region enters LOCKOUT (11 R252): its channels and the bank that holds on its rail go off (11 R256). -/
def State.lockout (s : State) (g : Nat) : State :=
  let s := (s.setRegSt g 3).cutAll (chansOf g)
  let s := ((s.satInc (R.REGION_SAGS g) 31 16 1).irqEv (R.REGION g 0) 2).life (1152 + g) 0 1
  if g % 2 = 0 then
    (bankChans (g / 2)).foldl (fun (s : State) b => if s.bstSt b = bHold then s.bstStop b bOff else s) s
  else s

/-- REGION_LOCKOUT_ENTRY (11 R247, R252). -/
def execRegionLockoutEntry (reg : Fin 4) (v : BitVec 16) (s : State) : Host.Outcome State Fault Refusal :=
  let g := reg.val
  let s := s.setField g v.toNat
  done (if s.regSt g = 2 ∧ v.toNat < s.f (R.REGION_SAG g) 15 8 * 10 then s.lockout g else s)

/-- REGION_RECOVER (11 R252). -/
def execRegionRecover (reg : Fin 4) (v : BitVec 16) (s : State) : Host.Outcome State Fault Refusal :=
  let g := reg.val
  let s := s.setField g v.toNat
  done (if s.regSt g = 3 ∧ s.liveAbove g < v.toNat then ((s.setRegSt g 2).irq (R.REGION g 0) 3).repullAll (chansOf g) else s)

/-- REGION_SAG_THRESHOLD (11 R251). -/
def execRegionSagThreshold (reg : Fin 4) (v : BitVec 16) (s : State) : Host.Outcome State Fault Refusal :=
  let s := s.setField reg.val v.toNat
  done (if s.regSt reg.val = 2 ∨ s.regSt reg.val = 3 then s.sagFlags reg.val else s)

/-- Power of the conducting switches of a region, µW (11 R250). -/
def State.switchPower (s : State) (g : Nat) : Nat :=
  let sq := ((chansOf g).map (fun n =>
    if s.chSt n = cPull ∨ s.chSt n = cHold then s.f (R.OUTC_CH_STAT n) 23 12 * s.f (R.OUTC_CH_STAT n) 23 12 else 0)).foldl (· + ·) 0
  sq * s.f R.DRVCTL_CFG 11 0 / 1000

/-- The dissipation estimate's 1 ms step (11 R250): an exponential average with time constant TAU_MS. -/
def State.thermalStep (s : State) (g : Nat) : State :=
  let x := s.region g
  let p := s.switchPower g + x.energy
  let tau := max 1 (s.f (R.REGION_THERM g) 15 0)
  let p1 := ((x.p : Int) + rdiv ((p : Int) - x.p) tau).toNat
  let cool := decide (p1 * 10 < s.f (R.REGION_THERM g) 31 16 * 1000 * 9)
  let since := if cool then some (x.coolSince.getD s.dt) else none
  (s.setRegion g { x with p := p1, energy := 0, coolSince := since }).wf (R.REGION_VOLT g) 31 16 (min (p1 / 1000) 0xFFFF)

/-- THERMAL is set above BUDGET_MW and clears after 1 s below 90 % of it (11 R250). -/
def State.thermalFlag (s : State) (g : Nat) : State :=
  let x := s.region g
  let on := s.b (R.REGION_STAT g) 25
  if !on && decide (s.f (R.REGION_THERM g) 31 16 * 1000 < x.p) then
    let s := ((s.wb (R.REGION_STAT g) 25 true).satInc (R.REGION_BUDGET g) 31 16 1).life (1152 + g) 3 1
    (s.irqEv (R.REGION g 0) 4).trimRegion g
  else if on && (match x.coolSince with | some t => decide (t + sDT 1 ≤ s.dt) | none => false) then
    ((s.wb (R.REGION_STAT g) 25 false).trimRegion g).admitPull g 48
  else s

/-- The 10 ms average of FIELD_x, and the band in use (12 R272). -/
def State.bandUpdate (s : State) (g v : Nat) : State :=
  let x := s.region g
  let l := (x.volts ++ [v]).drop ((x.volts.length + 1) - 10)
  let avg := l.foldl (· + ·) 0 / max 1 l.length
  s.setRegion g { x with volts := l, band := s.bandStep avg 3 x.band }

/-- REGION_THERMAL_ESTIMATE (11 R250): the millisecond's measured field voltage and channel currents. -/
def execRegionThermalEstimate (reg : Fin 4) (v : BitVec 16) (cur : List (BitVec 12)) (s : State) :
    Host.Outcome State Fault Refusal :=
  let g := reg.val
  let s := (s.setField g v.toNat).bandUpdate g v.toNat
  let s := (chansOf g).foldl (fun (s : State) n => s.wf (R.OUTC_CH_STAT n) 23 12 ((cur.getD (n - 48 * g) 0).toNat)) s
  done ((s.thermalStep g).thermalFlag g)

/-! ## Protection (11 R254, R255) -/

/-- OPEN_ON_CHECK (11 R254): the current 1 ms after PULL_IN entry. -/
def execOpenOnCheck (ch : Fin 192) (cur : BitVec 12) (s : State) : Host.Outcome State Fault Refusal :=
  let n := s.leadChan ch.val
  let due : Bool := match (s.chan n).lastPull with
    | some t => decide (t + msDT 1 ≤ s.dt)
    | none => false
  done (if (s.chSt n = cPull ∨ s.chSt n = cHold) ∧ due = true then
      (if cur.toNat < 50 then s.chFault n 2 else s.endEpisode n 2) else s)

/-- A region opens for SHORT_GND where SG_OPEN is set (11 R247, R254). -/
def State.sgOpen (s : State) (g : Nat) : State :=
  if s.b (R.REGION_CFG g) 30 ∧ s.regSt g ≠ 0 then
    let s := (s.openRegion g).fltEv (R.REGION g 0) 2
    match (s.region g).cmd with
    | some c => (s.setRegion g { s.region g with held := true, cmd := none }).reply c 0x12 0 0 0 0
    | none => s.setRegion g { s.region g with held := true }
  else s

/-- A test that passes (11 R254). -/
def State.offstatePass (s : State) (n : Nat) : State :=
  let s := ((s.endEpisode n 3).endEpisode n 4)
  let c := s.chan n
  let k := c.crossOk + 1
  let s := s.setChan n { c with sgRun := 0, crossOk := k }
  if k = 10 then (s.endEpisode n 5).wf (R.OUTC_CH_DIAG n) 31 24 0xFF else s

/-- OFFSTATE_TEST (11 R254): OUT with the pull-up and with the pull-down, 10 mV. A test that reads low both times where it
cannot mean SHORT_GND, with FIELD_x at or below LOCKOUT or with a partner, gives no verdict (log 39). -/
def execOffstateTest (ch : Fin 192) (up down : BitVec 16) (s : State) : Host.Outcome State Fault Refusal :=
  let n := ch.val
  let g := regionOf n
  done (if s.chSt n = cOff then
      let s := s.wf (R.OUTC_CH_MEAS n) 31 16 down.toNat
      if 250 < up.toNat ∧ down.toNat < 100 then (s.setChan n { s.chan n with sgRun := 0, crossOk := 0 }).chFault n 3
      else if up.toNat < 100 ∧ down.toNat < 100 then
        let short := decide (s.f (R.REGION_SAG g) 15 8 * 10 < s.field g) && s.f (R.OUTC_CH_DIAG n) 31 24 == 0xFF
        let k := if short then (s.chan n).sgRun + 1 else 0
        let s := s.setChan n { s.chan n with sgRun := k, crossOk := 0 }
        if 2 ≤ k then (s.chFault n 4).sgOpen g else s
      else s.offstatePass n
    else s)

/-- CROSS_SUSPECT (11 R254): an OFF channel falls below 1.0 V within 100 µs of another channel's pull-in. -/
def execCrossSuspect (ch : Fin 192) (s : State) : Host.Outcome State Fault Refusal :=
  let n := ch.val
  let near (m : Nat) : Bool := m != n && (match (s.chan m).lastPull with | some t => decide (s.dt ≤ t + usDT 100) | none => false)
  done (if s.chSt n = cOff then
      match (chansOf (regionOf n)).find? near with
      | some m => ((s.setChan n { s.chan n with crossOk := 0 }).wf (R.OUTC_CH_DIAG n) 31 24 m).chFault n 5
      | none => s
    else s)

/-- Store a cluster's temperature and whether it is over temperature. -/
def State.setClTemp (s : State) (cl : Nat) (t : BitVec 16) (hot : Bool) : State :=
  let s := s.wf (R.OUTC_CL_TEMP cl) 15 0 t.toNat
  { s with drive := { s.drive with clHot := s.drive.clHot.set cl hot } }

/-- CLUSTER_OVERTEMP (11 R255): 160 °C held for 100 µs. -/
def execClusterOvertemp (cl : Fin 24) (t : BitVec 16) (s : State) : Host.Outcome State Fault Refusal :=
  let k := cl.val
  done (if 160 * 16 ≤ t.toInt ∧ s.drive.clHot.getD k false = false then
      ((((s.setClTemp k t true).cutAll (clusterChans k)).irqEv (R.OUTC k 0) 0).flt (R.OUTC k 0) 0)
    else s.setClTemp k t (s.drive.clHot.getD k false))

/-- CLUSTER_TEMP_RECOVER (11 R255): below 140 °C. -/
def execClusterTempRecover (cl : Fin 24) (t : BitVec 16) (s : State) : Host.Outcome State Fault Refusal :=
  let k := cl.val
  done (if t.toInt < 140 * 16 ∧ s.drive.clHot.getD k false = true then
      (s.setClTemp k t false).repullAll (clusterChans k)
    else s.setClTemp k t (s.drive.clHot.getD k false))

/-! ## Boost events (11 R256 to R259) -/

/-- The peak of a channel is over: HOLD; a bank whose rail is in LOCKOUT holds nothing (11 R256, R257). -/
def State.peakDone (s : State) (b : Nat) : State :=
  let s := (s.peakEnds b).setBstSt b bHold
  if s.regSt (bankRegion (b / 4)) = 3 then s.bstStop b bOff else s

/-- BOOST_PEAK_REACHED (11 R257). -/
def execBoostPeakReached (b : Fin 8) (s : State) : Host.Outcome State Fault Refusal :=
  done (if s.bstSt b.val = bPeak then s.peakDone b.val else s)

/-- A boost unit fault: the fault and event bits and a record. -/
def State.bstFault (s : State) (b k : Nat) : State :=
  ((s.uflt (R.BANK_U b 0) k).uirq (R.BANK_U b 0) k).evUnit (R.BANK (b / 4) 0) k b

/-- BOOST_TPK_MAX (11 R257). -/
def execBoostTpkMax (b : Fin 8) (s : State) : Host.Outcome State Fault Refusal :=
  done (if s.bstSt b.val = bPeak ∧ (s.bst b.val).since + usDT (s.f (R.BANK_BST_TIME b.val) 15 0) ≤ s.dt then
      (s.bstFault b.val 1).peakDone b.val else s)

/-- BOOST_SHOT_END (11 R257). -/
def execBoostShotEnd (b : Fin 8) (s : State) : Host.Outcome State Fault Refusal :=
  done (match (s.bst b.val).shotEnd with
    | some t => if t ≤ s.dt ∧ (s.bstSt b.val = bPeak ∨ s.bstSt b.val = bHold) then s.bstDecay b.val else s
    | none => s)

/-- BOOST_CURRENT_LOW (11 R257). -/
def execBoostCurrentLow (b : Fin 8) (s : State) : Host.Outcome State Fault Refusal :=
  done (if s.bstSt b.val = bDecay then s.setBstSt b.val bOff else s)

/-- Note the measured VBST. -/
def State.setVbst (s : State) (v : BitVec 16) : State := s.wf R.DRVCTL_VBST_STAT 15 0 v.toNat

/-- BOOST_WAIT_START (11 R258): the first waiting request of the bank, once it may start. -/
def execBoostWaitStart (b : Fin 8) (vbst : BitVec 16) (s : State) : Host.Outcome State Fault Refusal :=
  let s := s.setVbst vbst
  done (if (s.bstWaits (b.val / 4)).head? = some b.val ∧ s.canPeak b.val = true then s.startPeak b.val else s)

/-- BOOST_DEFER_EXPIRE (11 R258). -/
def execBoostDeferExpire (b : Fin 8) (s : State) : Host.Outcome State Fault Refusal :=
  done (match (s.bst b.val).waitSince with
    | some t =>
      if s.bstSt b.val = bWait ∧ t + usDT (100 * s.f (R.BANK_BK_CFG (b.val / 4)) 31 24) ≤ s.dt then s.bstRefuse b.val else s
    | none => s)

/-- BOOST_OVERCURRENT (11 R259): latched; the bank's other channels continue. -/
def execBoostOvercurrent (b : Fin 8) (s : State) : Host.Outcome State Fault Refusal :=
  done (if s.bstSt b.val = bPeak ∨ s.bstSt b.val = bHold then
      ((s.bstStop b.val bFault).bstFault b.val 0).flt (R.BANK (b.val / 4) 0) 0 else s)

/-- VBST_OVERVOLTAGE (11 R259): above 66 V. -/
def execVbstOvervoltage (v : BitVec 16) (s : State) : Host.Outcome State Fault Refusal :=
  let s := s.setVbst v
  done (if 6600 < v.toNat ∧ s.drive.vbstOff = false then
      let s := ({ s with drive := { s.drive with vbstOff := true } }).banksOff bOff
      (s.fltEv (R.DRVCTL 0) 0).life 1172 4 1
    else s)

/-- VBST_LOW (11 R259): below VBST_MIN for 10 ms while a request waits. -/
def execVbstLow (v : BitVec 16) (s : State) : Host.Outcome State Fault Refusal :=
  let s := s.setVbst v
  done (if v.toNat < s.f R.DRVCTL_VBST_CFG 23 16 * 100 ∧ (List.range 8).any (fun b => s.bstSt b == bWait) = true then
      s.flt (R.DRVCTL 0) 1 else s)

/-- VBST_RECOVER (11 R259): below VBST_SET the converter restarts. -/
def execVbstRecover (v : BitVec 16) (s : State) : Host.Outcome State Fault Refusal :=
  let s := s.setVbst v
  done (if v.toNat < s.f R.DRVCTL_VBST_CFG 31 24 * 100 then { s with drive := { s.drive with vbstOff := false } } else s)

/-! ## Commands (11 R260) -/

/-- OUT_FORCE on or pulse at an outlet channel. -/
def State.forceOn (s : State) (c : Cmd) (n pulse : Nat) : State :=
  let g := regionOf n
  let own := (s.outletOf [0] n).map (fun id => Owner.mk id s.tableGen false)
  let s := if s.regSt g = 0 then s.requestClose g else s
  let s := s.setWant n true
  let x := { s.chan n with own := own, force := some c, forcePulse := pulse }
  if s.regSt g = 1 then s.setChan n x
  else if s.chSt n = cPull ∨ s.chSt n = cHold then
    (s.setChan n { s.chan n with forceEnd := if 0 < pulse then some (s.dt + msDT pulse) else none }).ok c 0 0
  else (s.setChan n x).requestPull n 4

/-- OUT_FORCE off, or the end of its pulse, at an outlet channel. -/
def State.forceOff (s : State) (n : Nat) : State :=
  let s := (s.setWant n false).dropForce n 0x12 0
  let s := if s.waiting n then s.unwait n else s
  if s.chSt n = cPull ∨ s.chSt n = cHold then
    s.enterDecay n ((s.chan n).own.map (fun (o : Owner) => { o with edge := false }))
  else s

/-- OUT_FORCE on or pulse at a boost channel. -/
def State.bstForceOn (s : State) (c : Cmd) (b pulse : Nat) : State :=
  if s.bstSt b = bPeak ∨ s.bstSt b = bHold then
    (s.setBst b { s.bst b with forceEnd := if 0 < pulse then some (s.dt + msDT pulse) else none }).ok c 0 0
  else
    let own := (s.outletOf [2] b).map (fun id => Owner.mk id s.tableGen false)
    (s.setBst b { s.bst b with own := own, force := some c, forcePulse := pulse }).bstRequest b

/-- OUT_FORCE off, or the end of its pulse, at a boost channel. -/
def State.bstForceOff (s : State) (b : Nat) : State :=
  let s := s.bstDropWait b
  if s.bstSt b = bPeak ∨ s.bstSt b = bHold then s.bstStop b bDecay else s

/-- Does the state of the object forbid an OUT_FORCE: a protection holds it off, or its region cannot close? -/
def State.forceConflict (s : State) (u act : Nat) : Bool :=
  s.mode != 4 || (act != 0 &&
    (if u < 192 then
      (s.pairOdd u || (s.chBlocked u && s.regSt (regionOf u) != 0)) || s.chSt u == cFault ||
        s.regTripped (regionOf u) || s.drive.clHot.getD (u / 8) false || s.fieldSafe ||
        (s.regSt (regionOf u) == 0 && (!s.b (R.REGION_CFG (regionOf u)) 31 || (s.region (regionOf u)).held)) ||
        (s.chan u).force.isSome
     else s.bstBlocked (u - 192) || (s.bst (u - 192)).force.isSome))

/-- Arguments of OUT_FORCE that are out of range. -/
def forceWrong (c : Cmd) : List Nat :=
  let u := c.byte 8
  let p := c.num 12 4
  (if u ≤ 191 ∨ (0xC0 ≤ u ∧ u < 0xC8) then [] else [8]) ++ (if c.byte 9 ≤ 2 then [] else [9]) ++
    (if c.byte 9 = 2 then (if 1 ≤ p ∧ p ≤ 10000 then [] else [12]) else (if p = 0 then [] else [12]))

/-- OUT_FORCE (11 R260). -/
def execOutForce (c : Cmd) (s : State) : Host.Outcome State Fault Refusal :=
  let u := c.byte 8
  let act := c.byte 9
  let pulse := if act = 2 then c.num 12 4 else 0
  done (s.runCmd c (CmdSpec.mk' 0x0601 3 0 (c.badArg [(8, 9), (12, 15)] (forceWrong c)) (s.forceConflict u act)) (fun s =>
    let s := s.evGeneric (if u < 192 then R.OUTC_CH_STAT u else R.BANK_BST_STAT (u - 192))
    if u < 192 then (if act = 0 then (s.forceOff u).ok c 0 0 else s.forceOn c u pulse)
    else if act = 0 then (s.bstForceOff (u - 192)).ok c 0 0 else s.bstForceOn c (u - 192) pulse))

/-- OUT_FORCE_PULSE_END (11 R260): units 0 to 191 are OUTn, 192 and on BSTn. -/
def execOutForcePulseEnd (u : Fin 200) (s : State) : Host.Outcome State Fault Refusal :=
  let e := if u.val < 192 then (s.chan u.val).forceEnd else (s.bst (u.val - 192)).forceEnd
  done (match e with
    | some t => if t ≤ s.dt then (if u.val < 192 then s.forceOff u.val else s.bstForceOff (u.val - 192)) else s
    | none => s)

/-- REGION_CTRL close. -/
def State.ctrlClose (s : State) (c : Cmd) (g : Nat) : State :=
  let s := (s.setRegion g { s.region g with held := false }).requestClose g
  if s.regSt g = 1 then s.setRegion g { s.region g with cmd := some c } else s.ok c 0 0

/-- REGION_CTRL open: the region stays OPEN until REGION_CTRL closes it. -/
def State.ctrlOpen (s : State) (c : Cmd) (g : Nat) : State :=
  let s := match (s.region g).cmd with
    | some k => (s.setRegion g { s.region g with cmd := none }).reply k 0x12 0 0 0 0
    | none => s
  let s := s.openRegion g
  (s.setRegion g { s.region g with held := true }).ok c 0 0

/-- REGION_CTRL (11 R260). -/
def execRegionCtrl (c : Cmd) (s : State) : Host.Outcome State Fault Refusal :=
  let g := c.byte 8
  let close := c.byte 9 == 1
  let wrong := (if g < 4 then [] else [8]) ++ (if c.byte 9 ≤ 1 then [] else [9])
  let conflict := !(s.mode == 3 || s.mode == 4) ||
    (close && (!s.b (R.REGION_CFG g) 31 || (s.region g).cmd.isSome || s.fieldSafe))
  done (s.runCmd c (CmdSpec.mk' 0x0602 2 1 (c.badArg [(8, 9)] wrong) conflict) (fun s =>
    if close then s.ctrlClose c g else s.ctrlOpen c g))

/-- Unlatch an outlet channel: OFF, then as for an on edge if WANT = on (11 R243). -/
def State.unlatch (s : State) (n : Nat) : State :=
  let s := ((s.wf (R.OUTC_CH_STAT n) 27 25 0).wb (R.OUTC_CH_STAT n) 24 false).setChSt n cOff
  ((s.endEpisode n 0).endEpisode n 1).repull n 0

/-- CH_UNLATCH (11 R260); either channel of a pair names the pair. -/
def execChUnlatch (c : Cmd) (s : State) : Host.Outcome State Fault Refusal :=
  let bst := c.byte 8 == 1
  let n := if bst then c.byte 9 else s.leadChan (c.byte 9)
  let wrong := (if c.byte 8 ≤ 1 then [] else [8]) ++ (if c.byte 9 < (if bst then 8 else 192) then [] else [9])
  let latched := if bst then s.bstSt n == bFault else s.b (R.OUTC_CH_STAT n) 24
  let conflict := !(s.mode == 3 || s.mode == 4 || s.mode == 5) || !latched
  done (s.runCmd c (CmdSpec.mk' 0x0603 2 1 (c.badArg [(8, 9)] wrong) conflict) (fun s =>
    (if bst then s.setBstSt n bOff else s.unlatch n).ok c 0 0))

end Sys2Proof.Machine
end

