-- ==== Sys2Proof/Machine/MotionCmds.lean ====
section
/-!
DEFINITION. The meanings of the motion-detection events, LEARN_RESET, and the edges of outlet and boost channels (12, 11).
-/
namespace Sys2Proof.Machine

/-! ## Opening windows (12 R265) -/

/-- A result record of a channel. -/
def State.motRes (s : State) (n : Nat) (close low chop : Bool) (band delay : Nat) (t : DT) (peak : Nat) (own : Option Owner)
    (confirms : Bool) : MotRes :=
  { close := close, low := low, chop := chop, band := band, ch := n, delay := delay, dt := t,
    field := s.field (regionOf n), peak := peak, own := own, confirms := confirms }

/-- OPENING_RESULT (12 R265): the opening's DT, whether found in chopping, and the slope's fall. -/
def execOpeningResult (ch : Fin 192) (t : BitVec 64) (chop : Bool) (fall : BitVec 16) (s : State) :
    Host.Outcome State Fault Refusal :=
  let n := ch.val
  let c := s.chan n
  done (match c.opening with
    | some (t0, band, d) =>
      if t0 ≤ t.toNat ∧ t.toNat ≤ s.dt ∧ (s.chSt n = cPull ∨ s.chSt n = cHold) then
        let m := s.motRes n false false chop band ((t.toNat - t0) / 25600) t.toNat fall.toNat c.own c.opens
        (s.setChan n (if c.opens then c.opened else { c with opening := none })).issueResult m (t0 + usDT d)
      else s
    | none => s)

/-- OPENING_WINDOW_TIMEOUT (12 R265, R270): the learner's upper bound and 5 ms, at most 200 ms. -/
def execOpeningWindowTimeout (ch : Fin 192) (s : State) : Host.Outcome State Fault Refusal :=
  let n := ch.val
  let c := s.chan n
  done (match c.opening with
    | some (t0, _, _) =>
      let hi := match c.own with
        | some o => (oBounds (s.genTbl o.gen) o.id true).2 + 5000
        | none => 200000
      if t0 + usDT (min hi 200000) ≤ s.dt then s.missOpening n true else s
    | none => s)

/-! ## Closing windows (12 R266 to R268) -/

/-- Detector set of the outlet a channel's close belongs to (12 R271). -/
def State.dset (s : State) (n : Nat) : Nat :=
  match (s.chan n).own with
  | some o => oDset (s.genTbl o.gen) o.id
  | none => 0

/-- WIN_MS of the detector set, as a DT. -/
def State.winDT (s : State) (n : Nat) : DT := msDT (s.f (R.MOTION_DS_WIN (s.dset n)) 7 0)

/-- Start of the sampling span (12 R266). -/
def State.spanStart (s : State) (n : Nat) (k : Closing) (ts : DT) : DT :=
  let w := s.winDT n
  let blank := ts + usDT (s.f (R.MOTION_DS_WIN (s.dset n)) 31 16)
  let a := max blank (k.decay + usDT k.d - w / 2)
  if ts + msDT 100 < a + w then max blank (ts + msDT 100 - w) else a

/-- Channels of a cluster whose span is active (12 R268). -/
def State.activeSpans (s : State) (cl : Nat) : List Nat :=
  (clusterChans cl).filter (fun n => match (s.chan n).closing with | some k => k.span.isSome | none => false)

/-- With five or more active spans each is sampled at 2 Msps (12 R268). -/
def State.rateSpans (s : State) (cl : Nat) : State :=
  let l := s.activeSpans cl
  if l.length ≤ 4 then s
  else l.foldl (fun (s : State) n =>
    s.setChan n { s.chan n with closing := (s.chan n).closing.map (fun (k : Closing) => { k with low := true }) }) s

/-- CLOSING_SPAN_START (12 R266). -/
def execClosingSpanStart (ch : Fin 192) (s : State) : Host.Outcome State Fault Refusal :=
  let n := ch.val
  done (match (s.chan n).closing with
    | some k =>
      match k.sense, k.span with
      | some ts, none =>
        if s.chSt n = cSense ∧ s.spanStart n k ts ≤ s.dt then
          (s.setChan n { s.chan n with closing := some { k with span := some s.dt } }).rateSpans (n / 8)
        else s
      | _, _ => s
    | none => s)

/-- The window ends with a result; a pulse's closing is kept for the end of the on-period. -/
def State.kinkResult (s : State) (n : Nat) (k : Closing) (t : DT) (peak : Nat) : State :=
  let c := s.chan n
  let own := match c.closeOwn with | some o => some o | none => c.own
  let m := s.motRes n true k.low false k.band ((t - k.decay) / 25600) t peak own c.closeOwn.isSome
  let s := if k.low then s.satInc R.MOTION_SMP_STAT 31 16 1 else s
  let s := s.setChan n { c with closing := none, closeOwn := none,
                                train := c.train.map (fun (x : Train) => { x with lastClose := some (t, false) }) }
  (s.issueResult m (k.decay + usDT k.est)).goOff n

/-- CLOSING_KINK_RESULT (12 R267): the kink's DT and the largest |d2| in mV. -/
def execClosingKinkResult (ch : Fin 192) (t : BitVec 64) (peak : BitVec 16) (s : State) : Host.Outcome State Fault Refusal :=
  let n := ch.val
  done (match (s.chan n).closing with
    | some k =>
      match k.span with
      | some a => if s.chSt n = cSense ∧ a ≤ t.toNat ∧ t.toNat ≤ s.dt then s.kinkResult n k t.toNat peak.toNat else s
      | none => s
    | none => s)

/-- CLOSING_SPAN_END (12 R266, R270, R275): no result. -/
def execClosingSpanEnd (ch : Fin 192) (s : State) : Host.Outcome State Fault Refusal :=
  let n := ch.val
  let c := s.chan n
  done (match c.closing with
    | some k =>
      match k.span with
      | some a =>
        if s.chSt n = cSense ∧ a + s.winDT n ≤ s.dt then
          let s := match c.own with
            | some o => s.noResult (s.genTbl o.gen) o.id false
            | none => s
          (s.missClosing n).goOff n
        else s
      | none => s
    | none => s)

/-! ## Landing, LEARN_RESET (12 R269, R274) -/

/-- MOTION_RESULT_LANDING (12 R269): the oldest result of a bridge's FIFO. -/
def execMotionResultLanding (bridge : Fin 2) (s : State) : Host.Outcome State Fault Refusal :=
  done (match s.motion.fifo.getD bridge.val [] with
    | m :: t => (({ s with motion := { s.motion with fifo := s.motion.fifo.set bridge.val t } }).landResult m).releaseOld
    | [] => s)

/-- LEARN_RESET (12 R274): acts, and completes, at the next frame boundary. -/
def execLearnReset (c : Cmd) (s : State) : Host.Outcome State Fault Refusal :=
  let id := c.num 8 2
  let wrong := (if id < 1024 ∨ id = 0xFFFF then [] else [8]) ++ (if c.byte 10 < 16 then [] else [10])
  done (s.runCmd c (CmdSpec.mk' 0x0610 2 2 (c.badArg [(8, 10)] wrong) (!(decide (1 ≤ s.mode) && decide (s.mode ≤ 4))))
    (fun s => { s with motion := { s.motion with resetReq := s.motion.resetReq ++ [c] } }.chg (R.MOTION 0)))

/-! ## Edges on the field die (11 R246, R258) -/

/-- An edge that lands after its T_exec (11 R246): counted, flagged and recorded, for outlet channels. -/
def State.execLate (s : State) (e : Edge) : State :=
  if e.kind ≤ 1 then
    let fr := R.OUTC_U e.target 0
    (((s.satInc (R.OUTC_CH_CNT e.target) 15 0 1).uflt fr 7).uirq fr 7).evUnit (R.OUTC (e.target / 8) 0) 7 e.target
  else s

/-- Is a kind executed on the field die (09 R205)? -/
def fieldKind (k : Nat) : Bool := k == 0 || k == 1 || k == 2 || k == 4

/-- EDGE_LANDING (11 R246): the outlet's first edge still on its way lands; one that is late executes at once. -/
def execEdgeLanding (id : Fin 1024) (s : State) : Host.Outcome State Fault Refusal :=
  let q := s.q id.val
  done (match q.edges.find? (fun e => !e.landed && fieldKind e.kind) with
    | some e =>
      let l := { e with landed := true }
      let head := q.edges.head? == some e
      let s := s.setQ id.val { q with edges := q.edges.map (fun g => if g = e then l else g) }
      if e.exec < s.dt then
        let s := s.execLate e
        if head && decide (e.kind ≤ 1) then s.runLocal id.val l else s
      else s
    | none => s)

/-- LOCAL_EDGE_EXECUTE (11 R243, R244, R246). -/
def execLocalEdgeExecute (id : Fin 1024) (s : State) : Host.Outcome State Fault Refusal :=
  done (match (s.q id.val).edges with
    | e :: _ => if e.kind ≤ 1 ∧ e.landed = true ∧ e.exec ≤ s.dt then s.runLocal id.val e else s
    | [] => s)

/-- BOOST_EDGE_EXECUTE (11 R257, R258): with the VBST measured then. -/
def execBoostEdgeExecute (id : Fin 1024) (vbst : BitVec 16) (s : State) : Host.Outcome State Fault Refusal :=
  let s := s.setVbst vbst
  done (match (s.q id.val).edges with
    | e :: _ => if e.kind = 2 ∧ e.landed = true ∧ e.exec ≤ s.dt then s.runBoost id.val e else s
    | [] => s)

end Sys2Proof.Machine
end

