-- ==== Sys2Proof/Machine/PwmOps.lean ====
section
/-!
DEFINITION. The PWM generator's channels, clusters and trips (14) as shared operations.
-/
namespace Sys2Proof.Machine

/-! ## Reading the generator (14 R302 to R305) -/

def State.pch (s : State) (u : Nat) : PwmCh := s.pwm.chans.getD u PwmCh.reset
def State.pcl (s : State) (k : Nat) : PwmCl := s.pwm.clusters.getD k PwmCl.reset
def State.setPcl (s : State) (k : Nat) (x : PwmCl) : State :=
  { s with pwm := { s.pwm with clusters := s.pwm.clusters.set k x } }

/-- A working register, by the offset of its shadow (14 R311). -/
def State.pw (s : State) (o : Nat) : Word := SMap.get (regDefault s.variant) s.pwm.work o
def State.setPw (s : State) (o : Nat) (v : Word) : State :=
  { s with pwm := { s.pwm with work := SMap.put (regDefault s.variant) s.pwm.work o v } }

/-- PER in force, in counts and in steps. -/
def State.perCounts (s : State) (k : Nat) : Nat := fld (s.pw (R.PWMC_CL_PER k)) 23 0
def State.perSteps (s : State) (k : Nat) : Nat := 32 * s.perCounts k

/-- Nanoseconds in steps: ns × 12.8, to the nearest (14 R306). -/
def nsSteps (ns : Nat) : Nat := (ns * 128 + 5) / 10

/-- DT units in a step, in a count, and in nanoseconds. -/
def stepDT (p : Nat) : DT := 2 * p
def countDT (n : Nat) : DT := 64 * n
def nsDT (ns : Nat) : DT := ns * 256 / 10

/-- DT of a step position of the running period; on whole counts while calibration fails (14 R303). -/
def State.edgeDT (s : State) (u p : Nat) : DT :=
  (s.pcl (u / 8)).zero + stepDT (if s.pwm.coarse then p - p % 32 else p)

/-- Is a channel complementary (14 R306)? -/
def State.compl (s : State) (u : Nat) : Bool := s.f (R.PWMC_CH_CFG u) 31 30 == 1

/-- Dead times in steps. -/
def State.dtR (s : State) (u : Nat) : Nat := nsSteps (s.f (R.PWMC_CH_DT u) 29 16)
def State.dtF (s : State) (u : Nat) : Nat := nsSteps (s.f (R.PWMC_CH_DT u) 13 0)

/-- t_on of a duty code (14 R304). -/
def dutySteps (d per : Nat) : Nat := if d = 0xFFFF then per else (d * per * 2 + 65536) / 131072

/-! ## Blanking (14 R317) -/

/-- A trip's blanking window opens or restarts. -/
def State.openBlank (s : State) (t : Nat) : State :=
  let n := s.f (R.TRIP_TRIP_CFG t) 13 0
  if n = 0 then s
  else { s with pwm := { s.pwm with trips := s.pwm.trips.modify t (fun x => { x with blank := some (s.dt + nsDT n) }) } }

/-- An output changed between active and not: the trips that select it open their windows. -/
def State.blankEdge (s : State) (u : Nat) (isB : Bool) : State :=
  (List.range 8).foldl (fun (s : State) t =>
    if s.f (R.TRIP_TRIP_BLANK t) 18 16 = u / 8 ∧ s.b (R.TRIP_TRIP_BLANK t) (u % 8 + (if isB then 8 else 0)) = true
    then s.openBlank t else s) s

/-- Store a channel; an output's edge opens blanking windows. -/
def State.setPch (s : State) (u : Nat) (c : PwmCh) : State :=
  let o := s.pch u
  let s := { s with pwm := { s.pwm with chans := s.pwm.chans.set u c } }
  let s := if (o.a.drive == 1) != (c.a.drive == 1) then s.blankEdge u false else s
  if (o.b.drive == 1) != (c.b.drive == 1) then s.blankEdge u true else s

/-! ## Outputs (14 R306, R308, R313, R318) -/

/-- An output leaves the active level, or is kept off, at a DT. -/
def PwmPin.turnOff (p : PwmPin) (t : DT) (drive : Nat) : PwmPin :=
  { drive := drive, off := if p.drive = 1 then t else p.off, due := none }

/-- An output is to become active, not before a DT and its dead time after its partner turned off; one that is active
stays so, and one whose time has come turns on. -/
def PwmPin.turnOn (p : PwmPin) (t partnerOff dead now : DT) : PwmPin :=
  let d := max t (partnerOff + dead)
  if p.drive = 1 then { p with due := none }
  else if d ≤ now then { p with drive := 1, due := none }
  else { p with drive := 0, due := some d }

/-- Drive both outputs: A active, B active, or neither, from a DT on; `da` and `db` are the pins' levels when off. -/
def PwmCh.steer (c : PwmCh) (onA onB : Bool) (da db : Nat) (t dr df now : DT) : PwmCh :=
  if onA then
    let b := c.b.turnOff t db
    { c with b := b, a := c.a.turnOn t b.off dr now }
  else if onB then
    let a := c.a.turnOff t da
    { c with a := a, b := c.b.turnOn t a.off df now }
  else { c with a := c.a.turnOff t da, b := c.b.turnOff t db }

/-- Outputs of a channel follow the waveform's level (14 R306). -/
def State.wave (s : State) (u : Nat) (t : DT) : State :=
  let c := s.pch u
  if s.compl u then
    -- a turn-on counts from the change of S
    let x := if c.lvl then c.since + stepDT (s.dtR u) else c.since + stepDT (s.dtF u)
    let c' := c.steer c.lvl (!c.lvl) 0 0 t (stepDT (s.dtR u)) (stepDT (s.dtF u)) 0
    let fix (p : PwmPin) : PwmPin :=
      match p.due with
      | some d => if max d x ≤ s.dt then { p with drive := 1, due := none } else { p with due := some (max d x) }
      | none => p
    s.setPch u { c' with a := fix c'.a, b := fix c'.b }
  else s.setPch u { c with a := if c.lvl then { c.a with drive := 1, due := none } else c.a.turnOff t 0, b := c.b.turnOff t 0 }

/-- Pin drive of a pad-latch code. -/
def padDrive (code : Nat) : Nat := min 4 (2 + code)

/-- Pad-latch code of an output (14 R310). -/
def State.padCode (s : State) (u : Nat) (isB : Bool) : Nat :=
  let k := 4 * (u % 8) + (if isB then 2 else 0)
  fld (s.pwm.latch.getD (u / 8) 0) (k + 1) k

/-- Enter a row of R308 at a DT. -/
def State.enterRow (s : State) (u row : Nat) : State :=
  let s := s.setPch u { s.pch u with row := row }
  let c := s.pch u
  let go (onA onB : Bool) (da db : Nat) : State :=
    s.setPch u (c.steer onA onB da db s.dt (stepDT (s.dtR u)) (stepDT (s.dtF u)) s.dt)
  let ta := s.f (R.PWMC_CH_CFG u) 15 14
  let tb := s.f (R.PWMC_CH_CFG u) 13 12
  match row with
  | 1 => s.setPch u { c with a := c.a.turnOff s.dt (padDrive (s.padCode u false)),
                             b := c.b.turnOff s.dt (padDrive (s.padCode u true)) }
  | 2 => go (ta == 1) (tb == 1) (if ta = 2 then 4 else 0) (if tb = 2 then 4 else 0)
  | 3 => go false false 0 0
  | 4 => let f := fld (s.pw (R.PWMC_CH_FORCE u)) 1 0
         go (f == 1) (f == 2) 0 0
  | _ => s.wave u s.dt

/-! ## Who drives an output (14 R308, R309) -/

/-- Is the PWM island in RUN? -/
def State.pwmRuns (s : State) : Bool := s.f R.CLOCK_ISL_STAT 7 6 == 0

/-- Does the package mode leave the outputs to the generator: OPERATE, SERVICE or SAFE? -/
def State.pwmMode (s : State) : Bool := s.mode == 3 || s.mode == 4 || s.mode == 5

/-- Is trip t active? -/
def State.tripOn (s : State) (t : Nat) : Bool := s.b (R.TRIP_TRIP_STAT t) 31

/-- CL_STAT.TRIPPED: a mapped trip or SAFE acts on the cluster. -/
def State.clTripped (s : State) (k : Nat) : Bool :=
  s.mode == 5 || (List.range 8).any (fun t => s.tripOn t && s.b (R.TRIP_TRIP_MAP t) k)

/-- Is a channel the target of an actuating MOTOR outlet (14 R309)? -/
def State.motorOwned (s : State) (u : Nat) : Bool := (s.outletOf [3] u).isSome

/-- The output enable in force. -/
def State.oeEff (s : State) (u : Nat) : Bool := if s.motorOwned u then (s.pch u).oe else s.b (R.PWMC_CH_CTRL u) 0

/-- STATE of a loop: 0 OFF, 1 MANUAL, 2 AUTO, 3 HOLD, 4 SAFE (13 R292). -/
def State.lpSt (s : State) (l : Nat) : Nat := s.f (R.LOOP l 0x044) 7 0

/-- Channels of a loop: its law header's NIO, 1 for LUT (13 R289, R290). -/
def State.lpNio (s : State) (l : Nat) : Nat := if s.f (R.LOOP_LAW l) 31 30 = 1 then 1 else s.f (R.LOOP_LAW l) 9 8

/-- PWM channels the sinks of a loop name: one for PWM_DUTY, a pair for PWM_BIPOLAR (13 R285). -/
def State.lpChans (s : State) (l : Nat) : List Nat :=
  (List.range (s.lpNio l)).flatMap (fun m =>
    let n := s.f (R.LOOP_OUT_SEL l m) 27 16
    match s.f (R.LOOP_OUT_SEL l m) 31 28 with
    | 1 => [n]
    | 2 => [n, n + 1]
    | _ => [])

/-- Does a loop that is not OFF own a channel's duty (14 R309)? -/
def State.loopOwned (s : State) (u : Nat) : Bool :=
  (List.range 24).any (fun l => s.lpSt l != 0 && (s.lpChans l).contains u)

/-- The first row of R308 that applies to a channel. -/
def State.pwmRow (s : State) (u : Nat) : Nat :=
  if !s.pwmRuns || !s.pwmMode then 1
  else if s.clTripped (u / 8) then 2
  else if !s.oeEff u then 3
  else if fld (s.pw (R.PWMC_CH_FORCE u)) 1 0 ≠ 0 then 4
  else 5

/-- A channel enters a row of higher priority at once, and leaves row 1 for rows 2 and 3 at once; else it waits for the
zero (14 R308, R319). -/
def State.pwmAdjust (s : State) (u : Nat) : State :=
  let old := (s.pch u).row
  let new := s.pwmRow u
  if new = old then s
  else if new < old ∨ (old = 1 ∧ new ≤ 3) then s.enterRow u new
  else s

/-- Let every channel of a list follow the rows. -/
def State.pwmAdjustAll (s : State) (l : List Nat) : State := l.foldl (fun (s : State) u => s.pwmAdjust u) s

/-- Let every channel follow the rows: after a change of mode, island, trip, enable or table set. -/
def State.pwmSettle (s : State) : State := s.pwmAdjustAll (List.range 48)

/-! ## Counted events (14 R314) -/

/-- One occurrence of a channel's ZERO (0), PERIOD (1) or CMP (2). -/
def State.pwmCount (s : State) (u k : Nat) : State :=
  let c := s.pch u
  let w := s.pw (R.PWMC_CH_IRQ u)
  let psc := match k with | 0 => fld w 27 24 | 1 => fld w 23 20 | _ => fld w 19 16
  let n := match k with | 0 => c.nZero | 1 => c.nPer | _ => c.nCmp
  let m := if psc ≤ n then 0 else n + 1
  let c := match k with
    | 0 => { c with nZero := m }
    | 1 => { c with nPer := m }
    | _ => { c with nCmp := m }
  let s := s.setPch u c
  if psc ≤ n then s.uirq (R.PWMC_U u 0) k else s

/-! ## The plan of a period (14 R304 to R307) -/

/-- What a period starts with (none: the level is kept), its changes, whether a pulse was altered, and the steps a
stretched pulse of B runs over. -/
structure PwmPlan where
  lvl0 : Option Bool
  edges : List PwmEdge
  ext : Bool
  carry : Nat

/-- Native form, and duties of the engine: S active from 0 to `t` of `per` steps (14 R304, R307). -/
def planNative (per t dr df : Nat) (comp : Bool) (mode : Nat) : PwmPlan :=
  let wa : Int := t - dr
  let wb : Int := per - t - df
  let fall (p : Nat) : PwmPlan := ⟨some true, [⟨p, some false, true⟩], false, 0⟩
  let loA := decide (wa < 256)
  let loB := comp && decide (wb < 256)
  if t = 0 then ⟨some false, [], false, 0⟩
  else if per ≤ t then ⟨some true, [], false, 0⟩
  else if mode = 2 ∧ (loA || loB) = true then
    let p := if loA then dr + 256 else per - df - 256
    { fall p with ext := true }
  else if loA then
    if 0 < wa ∧ mode = 1 then ⟨some true, [⟨t, none, true⟩, ⟨dr + 256, some false, false⟩], true, 0⟩
    else ⟨some false, [⟨t, none, true⟩], true, 0⟩
  else if loB then
    if 0 < wb ∧ mode = 1 then { fall t with ext := true, carry := (256 - wb).toNat }
    else ⟨some true, [⟨t, none, true⟩], true, 0⟩
  else fall t

/-- CZ-40 form: S follows two compares (14 R305). -/
def planTwo (per rise fallAt : Nat) : PwmPlan :=
  if rise = fallAt then ⟨some false, [], false, 0⟩
  else
    let up : List PwmEdge := if 0 < rise ∧ rise < per then [⟨rise, some true, false⟩] else []
    let dn : List PwmEdge := if 0 < fallAt ∧ fallAt < per then [⟨fallAt, some false, true⟩] else []
    let l0 := if rise = 0 then some true else if fallAt = 0 then some false
      else if rise < per ∧ fallAt < per then some (decide (fallAt < rise)) else none
    ⟨l0, if rise < fallAt then up ++ dn else dn ++ up, false, 0⟩

/-- The plan of a channel's next period. -/
def State.pwmPlan (s : State) (u : Nat) : PwmPlan :=
  let k := u / 8
  let per := s.perSteps k
  let duty := dutySteps (fld (s.pw (R.PWMC_CH_DUTY u)) 15 0) per
  let cmp := fld (s.pw (R.PWMC_CH_CMP u)) 28 0
  let own := s.loopOwned u
  let comp := s.compl u
  let mode := s.f (R.PWMC_CL_CFG k) 29 28
  let nat_ (t : Nat) : PwmPlan := planNative per t (if comp then s.dtR u else 0) (if comp then s.dtF u else 0) comp mode
  if s.b (R.PWMC_CL_CFG k) 30 then
    if own then nat_ duty else planTwo per cmp (fld (s.pw (R.PWMC_CH_CMP2 u)) 28 0)
  else nat_ (if own || s.b (R.PWMC_CH_CFG u) 27 then duty else cmp)

/-- A period altered under R307. -/
def State.extDuty (s : State) (u : Nat) : State :=
  (s.satInc (R.PWMC_CH_STAT u) 15 0 1).uirq (R.PWMC_U u 0) 3

/-- The level the outputs follow changes at a DT. -/
def State.follow (s : State) (u : Nat) (lv : Bool) (t : DT) : State :=
  let c := s.pch u
  if c.lvl = lv then s
  else
    let s := s.setPch u { c with lvl := lv, since := t }
    if c.row = 5 then s.wave u t else s

/-- The next change of a channel's period acts (14 R305 to R307, R314). -/
def State.pwmEdge (s : State) (u : Nat) (e : PwmEdge) : State :=
  let t := s.edgeDT u e.pos
  let c := s.pch u
  let sig := if e.cmp then false else if e.lvl = some true then true else c.sig
  let s := s.setPch u { c with edges := c.edges.drop 1, sig := sig }
  let s := if e.cmp then s.pwmCount u 2 else s
  match e.lvl with
  | some b => s.follow u b t
  | none => s

/-- A channel starts a period at its cluster's zero. -/
def State.startPeriod (s : State) (u : Nat) : State :=
  let z := (s.pcl (u / 8)).zero
  let s := s.pwmCount u 0
  let p := s.pwmPlan u
  let c := s.pch u
  let sig := match p.lvl0 with
    | some b => b || p.edges.any (fun e => e.cmp && e.lvl.isNone)
    | none => c.sig
  let ovr := c.carry ≠ 0 ∧ p.lvl0 = some true
  let edges := if ovr then ({ pos := c.carry, lvl := some true, cmp := false } : PwmEdge) :: p.edges else p.edges
  let s := s.setPch u { c with sig := sig, edges := edges, carry := p.carry }
  let s := if c.sig && !sig then s.pwmCount u 2 else s
  let s := if p.ext && decide (c.row = 5) then s.extDuty u else s
  match p.lvl0 with
  | some b => if ovr then s else s.follow u b z
  | none => s

/-! ## Zero and transfer (14 R302, R311, R312) -/

/-- Registers of a channel that have shadows. -/
def shadowsOf (u : Nat) : List Nat :=
  [R.PWMC_CH_CMP u, R.PWMC_CH_CMP2 u, R.PWMC_CH_DUTY u, R.PWMC_CH_FORCE u, R.PWMC_CH_IRQ u]

/-- Channels of a PWM cluster. -/
def pwmUnits (k : Nat) : List Nat := (List.range 8).map (· + 8 * k)

/-- Is a period too short for a complementary channel's dead times (14 R312)? -/
def State.perShort (s : State) (k per : Nat) : Bool :=
  (pwmUnits k).any (fun u => s.compl u &&
    decide (per * 5 < 2 * (s.f (R.PWMC_CH_DT u) 29 16 + s.f (R.PWMC_CH_DT u) 13 0 + 40)))

/-- A stale compare of a channel at a change of PER: torn, and limited to the new period (14 R312). -/
def State.tear (s : State) (k u : Nat) : State :=
  if s.b (R.PWMC_CH_CFG u) 27 then s
  else
    let rs := if s.b (R.PWMC_CL_CFG k) 30 then [R.PWMC_CH_CMP u, R.PWMC_CH_CMP2 u] else [R.PWMC_CH_CMP u]
    let stale := rs.filter (fun o => !(s.pcl k).written.contains o)
    if stale = [] then s
    else
      let s := ((s.uflt (R.PWMC_U u 0) 4).uirq (R.PWMC_U u 0) 4).flt (R.PWMC k 0) 0
      stale.foldl (fun (s : State) o =>
        if s.perSteps k < fld (s.pw o) 28 0 then s.setPw o (nw (s.perSteps k)) else s) s

/-- A transfer of a channel's shadows: a changed prescaler restarts its count. -/
def State.moveShadows (s : State) (u : Nat) : State :=
  let old := s.pw (R.PWMC_CH_IRQ u)
  let s := (shadowsOf u).foldl (fun (s : State) o => s.setPw o (s.r o)) s
  let new := s.pw (R.PWMC_CH_IRQ u)
  let c := s.pch u
  s.setPch u { c with
    engine := false,
    nZero := if fld old 27 24 = fld new 27 24 then c.nZero else 0,
    nPer := if fld old 23 20 = fld new 23 20 then c.nPer else 0,
    nCmp := if fld old 19 16 = fld new 19 16 then c.nCmp else 0 }

/-- The transfer of a cluster's host-written shadows (14 R311, R312). -/
def State.pwmTransfer (s : State) (k : Nat) : State :=
  let per := s.f (R.PWMC_CL_PER k) 23 0
  let change := per ≠ s.perCounts k
  let short := s.perShort k per
  let s := s.setPw (R.PWMC_CL_SYNC k) (s.r (R.PWMC_CL_SYNC k))
  let s := (pwmUnits k).foldl (fun (s : State) u => s.moveShadows u) s
  let s :=
    if change ∧ short = true then s.flt (R.PWMC k 0) 3
    else if change then
      let s := s.setPw (R.PWMC_CL_PER k) (s.r (R.PWMC_CL_PER k))
      (pwmUnits k).foldl (fun (s : State) u => s.tear k u) s
    else s
  let s := s.setPcl k { s.pcl k with armAt := none, written := [] }
  ((s.wb (R.PWMC_CL_CTRL k) 0 false).inc (R.PWMC_CL_STAT k) 15 0 1).irq (R.PWMC k 0) 0

/-- Duties the control engine wrote transfer at the zero, without ARM (14 R311). -/
def State.moveEngine (s : State) (u : Nat) : State :=
  let c := s.pch u
  if c.engine then (s.setPw (R.PWMC_CH_DUTY u) (s.r (R.PWMC_CH_DUTY u))).setPch u { c with engine := false } else s

/-- DT of a cluster's next zero (14 R302, R315). -/
def State.nextZero (s : State) (k : Nat) : DT :=
  let x := s.pcl k
  let n := x.zero + countDT (s.perCounts k)
  match x.syncAt with
  | some t => min t n
  | none => n

/-- A cluster's zero (14 R302). -/
def State.pwmZero (s : State) (k : Nat) : State :=
  let z := s.nextZero k
  let x := s.pcl k
  let s := s.setPcl k { x with zero := z, perDone := false, syncSent := false,
                               syncAt := if x.syncAt = some z then none else x.syncAt }
  let armed := match x.armAt with | some t => decide (t + countDT 4 ≤ z) | none => false
  let s := if armed then s.pwmTransfer k else s
  let s := (pwmUnits k).foldl (fun (s : State) u => (s.moveEngine u).startPeriod u) s
  (pwmUnits k).foldl (fun (s : State) u => if (s.pch u).row = s.pwmRow u then s else s.enterRow u (s.pwmRow u)) s

/-- The engine writes a channel's duty (13 R285). -/
def State.engineDuty (s : State) (u d : Nat) : State :=
  (s.wf (R.PWMC_CH_DUTY u) 15 0 d).setPch u { s.pch u with engine := true }

/-! ## Clock of the island (02 R37, 14 R302) -/

/-- The island's clock stops: counters stand. -/
def State.pwmStop (s : State) : State := ({ s with pwm := { s.pwm with held := some s.dt } }).pwmSettle

/-- The island's clock runs again: counters go on from where they stood. -/
def State.pwmGo (s : State) : State :=
  match s.pwm.held with
  | none => s.pwmSettle
  | some t =>
    let d := s.dt - t
    ({ s with pwm := { s.pwm with
        held := none,
        clusters := s.pwm.clusters.map (fun (x : PwmCl) => { x with
          zero := x.zero + d, syncAt := x.syncAt.map (· + d), syncSeen := x.syncSeen + d,
          armAt := x.armAt.map (· + d) }),
        chans := s.pwm.chans.map (fun (c : PwmCh) => { c with since := c.since + d }) } }).pwmSettle

/-- Channels after a reset: rows and working registers as after a power-on reset; the pad latches keep their values
(14 R310, R322). -/
def State.pwmReset (s : State) : State :=
  let z : PwmCl := { PwmCl.reset with zero := s.dt, syncSeen := s.dt }
  ({ s with pwm := { Pwm.reset with latch := s.pwm.latch, held := s.pwm.held,
                                    clusters := List.replicate 6 z } }).pwmSettle

/-! ## Motor edges (14 R309) -/

/-- An enable joins the running period: R307 decides a pulse cut short (14 R309). -/
def State.joinPeriod (s : State) (u : Nat) : State :=
  let c := s.pch u
  let k := u / 8
  let per := s.perSteps k
  let p0 := (s.dt - (s.pcl k).zero) / 2
  let next := match c.edges.find? (fun e => e.lvl.isSome) with | some e => e.pos | none => per
  let dead := if !s.compl u then 0 else if c.lvl then s.dtR u else s.dtF u
  let start := max p0 ((c.since + stepDT dead - (s.pcl k).zero) / 2)
  let w : Int := next - start
  let stretch := s.f (R.PWMC_CL_CFG k) 29 28 == 1 || s.f (R.PWMC_CL_CFG k) 29 28 == 2
  -- a constant S has no pulse to cut short; without B only the width of A is tested
  if w ≤ 0 ∨ 256 ≤ w ∨ (c.lvl = false ∧ s.compl u = false) ∨ (per ≤ next ∧ c.lvl = true) then s
  else if !stretch then
    (s.setPch u { c with lvl := !c.lvl, since := s.dt,
                         edges := c.edges.map (fun (e : PwmEdge) => if e.pos = next then { e with lvl := none } else e) }).extDuty u
  else if c.lvl then
    (s.setPch u { c with edges := c.edges.map (fun (e : PwmEdge) =>
        if e.pos = next then { e with lvl := none } else e) ++ [⟨start + 256, some false, false⟩] }).extDuty u
  else (s.setPch u { c with carry := (start + 256 - next : Int).toNat }).extDuty u

/-- An edge of a MOTOR outlet sets the output enable (14 R309, R320): prevented while a trip or SAFE acts. -/
def State.motorEdge (s : State) (u : Nat) (on : Bool) : State :=
  let s := s.setPch u { s.pch u with oe := on }
  if on && decide (s.pwmRow u = 5) && decide ((s.pch u).row = 3) then (s.joinPeriod u).enterRow u 5
  else if on && decide (s.pwmRow u = 4) && decide ((s.pch u).row = 3) then s.enterRow u 4
  else s.pwmAdjust u

/-- The oldest edge of a MOTOR outlet executes (09 R205, R204). -/
def State.runMotor (s : State) (id : Nat) (e : Edge) : State :=
  let s := s.popEdge id
  let u := e.target % 48
  let hit := s.clTripped (u / 8)
  let s := s.motorEdge u e.on
  if hit then s.missed id else s.await (e.owner id) e.on 3

/-! ## Trips (14 R317 to R320) -/

/-- Channels of the clusters a trip acts on, and channels of its regions. -/
def State.tripUnits (s : State) (t : Nat) : List Nat :=
  (List.range 48).filter (fun u => s.b (R.TRIP_TRIP_MAP t) (u / 8))
def State.tripRegions (s : State) (t : Nat) : List Nat :=
  (List.range 4).filter (fun g => s.b (R.TRIP_TRIP_MAP t) (8 + g))

/-- A trip becomes active (14 R318, 11 R253). -/
def State.tripFire (s : State) (t : Nat) : State :=
  let s := ((s.wb (R.TRIP_TRIP_STAT t) 31 true).satInc (R.TRIP_TRIP_STAT t) 15 0 1).irq (R.TRIP 0) t
  let s := (s.evNow 0x10 (nw t)).pwmAdjustAll (s.tripUnits t)
  (s.tripRegions t).foldl (fun (s : State) g => s.cutAll (chansOf g)) s

/-- Is a trip's input inside its blanking window? -/
def State.blanked (s : State) (t : Nat) : Bool :=
  match (s.pwm.trips.getD t ⟨none, false⟩).blank with
  | some e => decide (s.dt < e)
  | none => false

/-- An active input takes effect: enabled, outside blanking, not yet active. -/
def State.tripCheck (s : State) (t : Nat) : State :=
  if s.b (R.TRIP_TRIP_CFG t) 31 && s.b (R.TRIP_TRIP_STAT t) 30 && !s.blanked t && !s.tripOn t then s.tripFire t else s

/-- The episode ends: the next pin edge is its first. -/
def State.tripRearm (s : State) (t : Nat) : State :=
  { s with pwm := { s.pwm with trips := s.pwm.trips.modify t (fun x => { x with captured := false }) } }

/-- A trip clears: source 268; regions with no other trip pull their channels in (14 R319, 11 R253). -/
def State.tripClear (s : State) (t : Nat) : State :=
  let was := s.tripOn t
  let s := (((s.wb (R.TRIP_TRIP_STAT t) 31 false).wb (R.TRIP_TRIP_STAT t) 29 false).tripRearm t)
  if was then
    ((s.irq (R.TRIP 0) 8).tripRegions t).foldl (fun (s : State) g =>
      if s.regTripped g then s else s.repullAll (chansOf g)) (s.irq (R.TRIP 0) 8)
  else s

/-- A write of TRIP_CLR (14 R319). -/
def State.tripClr (s : State) (v : Word) : State :=
  (bitsSet 8 v.toNat).foldl (fun (s : State) t =>
    if !s.tripOn t then s
    else if s.b (R.TRIP_TRIP_STAT t) 30 then s.wb (R.TRIP_TRIP_STAT t) 29 true
    else s.tripClear t) s

end Sys2Proof.Machine
end

