-- ==== Sys2Proof/Machine/PwmCmds.lean ====
section
/-!
DEFINITION. The meanings of the PWM and trip events and of MOTOR edges (14).
-/
namespace Sys2Proof.Machine

/-- PWM_ZERO (14 R302, R311): at the DT of the cluster's next zero, while the island runs. -/
def execPwmZero (cl : Fin 6) (s : State) : Host.Outcome State Fault Refusal :=
  done (if s.pwm.held.isNone ∧ s.nextZero cl.val ≤ s.dt then s.pwmZero cl.val else s)

/-- PWM_PERIOD_EVENT (14 R314): the counter reaches PER − 1. -/
def execPwmPeriodEvent (cl : Fin 6) (s : State) : Host.Outcome State Fault Refusal :=
  let x := s.pcl cl.val
  done (if s.pwm.held.isNone ∧ x.perDone = false ∧ x.zero + countDT (s.perCounts cl.val - 1) ≤ s.dt then
    (pwmUnits cl.val).foldl (fun (s : State) u => s.pwmCount u 1) (s.setPcl cl.val { x with perDone := true })
  else s)

/-- PWM_COMPARE (14 R304 to R306): the next change of a channel's period, at its DT. -/
def execPwmCompare (ch : Fin 48) (s : State) : Host.Outcome State Fault Refusal :=
  done (match (s.pch ch.val).edges with
    | e :: _ => if s.pwm.held.isNone ∧ s.edgeDT ch.val e.pos ≤ s.dt then s.pwmEdge ch.val e else s
    | [] => s)

/-- An output whose dead time is over turns on. -/
def PwmPin.arrive (p : PwmPin) (now : DT) : PwmPin :=
  match p.due with
  | some d => if d ≤ now then { p with drive := 1, due := none } else p
  | none => p

/-- DEAD_TIME_END (14 R306): the turn-ons of a channel that are due. -/
def execDeadTimeEnd (ch : Fin 48) (s : State) : Host.Outcome State Fault Refusal :=
  let c := s.pch ch.val
  done (s.setPch ch.val { c with a := c.a.arrive s.dt, b := c.b.arrive s.dt })

/-- DELAY_LINE_CALIBRATE (14 R303): the taps found to span one period, or none. -/
def execDelayLineCalibrate (taps : Option Byte) (s : State) : Host.Outcome State Fault Refusal :=
  done (if s.pwm.held.isSome then s
  else match taps with
    | some n =>
      (({ s with pwm := { s.pwm with coarse := false } }).wf R.PWMCTL_CAL_STAT 31 24 n.toNat).wb R.PWMCTL_CAL_STAT 0 true
    | none =>
      ((({ s with pwm := { s.pwm with coarse := true } }).wb R.PWMCTL_CAL_STAT 0 false).fltEv (R.PWMCTL 0) 0).irq
        (R.PWMCTL 0) 0)

/-- A receiver's zero is set by a sync at a DT (14 R315, R316). -/
def State.takeSync (s : State) (k : Nat) (z : DT) : State :=
  if s.b (R.PWMC_CL_CFG k) 31 then
    ((s.setPcl k { s.pcl k with syncAt := some z, syncSeen := s.dt }).wb (R.PWMC_CL_STAT k) 30 true).hbNote
  else s

/-- PWM_SYNC_PULSE (14 R315, R316): a cluster's counter reaches SYNC_OFS; cluster 5 drives PWM_SYNCO for 20 ns. -/
def execPwmSyncPulse (cl : Fin 6) (s : State) : Host.Outcome State Fault Refusal :=
  let k := cl.val
  let x := s.pcl k
  let n := fld (s.pw (R.PWMC_CL_SYNC k)) 23 0
  let z := x.zero + countDT n
  done (if s.pwm.held.isNone ∧ x.syncSent = false ∧ n < s.perCounts k ∧ z ≤ s.dt then
    let s := s.setPcl k { x with syncSent := true }
    if k < 5 then s.takeSync (k + 1) z
    else if s.b R.PWMCTL_SYNC_CFG 1 then { s with pwm := { s.pwm with synco := z + nsDT 20 } }
    else s
  else s)

/-- PWM_SYNCI_EDGE (14 R316): the DT the edge was captured at. -/
def execPwmSynciEdge (t : BitVec 64) (s : State) : Host.Outcome State Fault Refusal :=
  done (if s.b R.PWMCTL_SYNC_CFG 0 ∧ s.pwm.held.isNone ∧ t.toNat ≤ s.dt then
    s.takeSync 0 (t.toNat + countDT (s.f R.PWMCTL_SYNC_CFG 23 8))
  else s)

/-- MOTOR_EDGE_EXECUTE (14 R309, 09 R205). -/
def execMotorEdgeExecute (id : Fin 1024) (s : State) : Host.Outcome State Fault Refusal :=
  done (match (s.q id.val).edges with
    | e :: _ => if e.kind = 3 ∧ e.exec ≤ s.dt then s.runMotor id.val e else s
    | [] => s)

/-- TRIP_PIN_EDGE (14 R317): to or from the active level; the first edge of an episode is captured. An edge away from it
that leaves neither the trip nor the filtered input active ends the episode. -/
def execTripPinEdge (t : Fin 8) (dt : BitVec 64) (active : Bool) (s : State) : Host.Outcome State Fault Refusal :=
  let n := t.val
  let x := s.pwm.trips.getD n ⟨none, false⟩
  done (
    if active && !x.captured then
      ({ s with pwm := { s.pwm with trips := s.pwm.trips.set n { x with captured := true } } }).w64 (R.TRIP_TRIP_DT_LO n) dt.toNat
    else if !active && !s.tripOn n && !s.b (R.TRIP_TRIP_STAT n) 30 then s.tripRearm n
    else s)

/-- TRIP_ACTIVATE (14 R317, R318): the filtered input turns active. -/
def execTripActivate (t : Fin 8) (s : State) : Host.Outcome State Fault Refusal :=
  done ((s.wb (R.TRIP_TRIP_STAT t.val) 30 true).tripCheck t.val)

/-- TRIP_BLANK_EDGE (14 R317): an edge of a selected output at the pad. -/
def execTripBlankEdge (t : Fin 8) (s : State) : Host.Outcome State Fault Refusal := done (s.openBlank t.val)

/-- TRIP_BLANK_END (14 R317): an input still active takes effect. -/
def execTripBlankEnd (t : Fin 8) (s : State) : Host.Outcome State Fault Refusal :=
  let x := s.pwm.trips.getD t.val ⟨none, false⟩
  done (match x.blank with
    | some e =>
      if e ≤ s.dt then
        ({ s with pwm := { s.pwm with trips := s.pwm.trips.set t.val { x with blank := none } } }).tripCheck t.val
      else s
    | none => s)

/-- TRIP_INPUT_INACTIVE (14 R319): the filtered input turns inactive; a pending clear with AUTO_REARM acts. -/
def execTripInputInactive (t : Fin 8) (s : State) : Host.Outcome State Fault Refusal :=
  let n := t.val
  let s := s.wb (R.TRIP_TRIP_STAT n) 30 false
  done (if s.tripOn n then
      (if s.b (R.TRIP_TRIP_CFG n) 29 && s.b (R.TRIP_TRIP_STAT n) 29 then s.tripClear n else s)
    else s.tripRearm n)

end Sys2Proof.Machine
end

