-- ==== Sys2Proof/Machine/FioOps.lean ====
section
/-!
DEFINITION. DIO pins and groups, analog inputs and frequency inputs of the field die (15) as shared operations.
-/
namespace Sys2Proof.Machine

/-! ## DIO pins (15 R323 to R329) -/

/-- STATE codes of a DIO pin (15 R327): 0 INPUT, 1 OFF, 2 ON, 3 FAULT. -/
def State.dioSt (s : State) (n : Nat) : Nat := s.f (R.DIOG_U n 0x04) 7 0

def State.dioPin (s : State) (n : Nat) : DioPin := s.fio.pins.getD n ⟨0, 0⟩
def State.setDioPin (s : State) (n : Nat) (p : DioPin) : State := { s with fio := { s.fio with pins := s.fio.pins.set n p } }

/-- Is a flag's episode open; open one, end one (15 R328). -/
def State.dioEpisode (s : State) (n k : Nat) : Bool := (s.dioPin n).episodes.testBit k
def State.setDioEpisode (s : State) (n k : Nat) (b : Bool) : State :=
  let p := s.dioPin n
  let e := p.episodes
  s.setDioPin n { p with episodes := if e.testBit k = b then e else if b then e + 2 ^ k else e - 2 ^ k }

/-- Enter a state; every episode of the old one ends. -/
def State.setDioSt (s : State) (n st : Nat) : State :=
  (s.w (R.DIOG_U n 0x04) (unitState [0, 1, 3] st)).setDioPin n ⟨s.dt, 0⟩

/-- G_STAT.LOW of a pin's group. -/
def State.dioLow (s : State) (n : Nat) : Bool := s.b (R.DIOG_G_STAT (n / 8)) 31

/-- Is a pin an output? -/
def State.dioOut (s : State) (n : Nat) : Bool := s.b (R.DIOG_IO_CFG n) 31

def State.dioWant (s : State) (n : Nat) : Bool := s.b (R.DIOG_IO_STAT n) 30
def State.setDioWant (s : State) (n : Nat) (b : Bool) : State := s.wb (R.DIOG_IO_STAT n) 30 b

/-- Is a pin the target of an actuating DIO outlet (15 R326)? -/
def State.dioOwned (s : State) (n : Nat) : Bool := (s.outletOf [4] n).isSome

/-- Does the switch conduct (15 R326, 01 R17)? -/
def State.dioConducts (s : State) (n : Nat) : Bool :=
  s.dioOut n && s.dioWant n && (s.mode == 3 || s.mode == 4) && !s.dioLow n && s.dioSt n != 3 && !s.fieldSafe

/-- The switch follows its condition (15 R327); a pin that waits for its turn after VIO_x recovered stays off until then
(15 R329). -/
def State.dioFollow (s : State) (n : Nat) : State :=
  if s.dioSt n = 1 ∧ s.dioConducts n = true ∧ (s.fio.stagger.any (fun e => e.1 == n)) = false then s.setDioSt n 2
  else if s.dioSt n = 2 ∧ s.dioConducts n = false then s.setDioSt n 1
  else s

/-- Every switch follows its condition: after a change of mode or of the field die's safe state. -/
def State.dioSettle (s : State) : State := (List.range 32).foldl (fun (s : State) n => s.dioFollow n) s

/-- A pin's direction changes (15 R323). -/
def State.dioDir (s : State) (n : Nat) : State :=
  if s.dioOut n then (if s.dioSt n = 0 then (s.setDioSt n 1).dioFollow n else s)
  else if s.dioSt n = 0 then s else s.setDioSt n 0

/-- A short or an over-temperature of an output that is on (15 R327). -/
def State.dioShort (s : State) (n : Nat) : State :=
  let fr := R.DIOG_U n 0
  let k := s.f (R.DIOG_IO_STAT n) 28 26
  let s := ((s.setDioSt n 3).uflt fr 2).uirq fr 2
  let s := (s.wf (R.DIOG_IO_STAT n) 28 26 (min (k + 1) 7)).satInc (R.DIOG_IO_CNT n) 15 0 1
  let s := (s.life (1181 + n / 8) (n % 8) 1).evUnit (R.DIOG (n / 8) 0) 2 n
  if s.f (R.DIOG_IO_CFG n) 10 8 < k + 1 then (((s.wb (R.DIOG_IO_STAT n) 29 true).uflt fr 3).uirq fr 3) else s

/-- The retry time of an output is over (15 R327). -/
def State.dioRetry (s : State) (n : Nat) : State := (s.setDioSt n 1).dioFollow n

/-- A latched output is released (15 R327). -/
def State.dioUnlatch (s : State) (n : Nat) : State :=
  (((s.wb (R.DIOG_IO_STAT n) 29 false).wf (R.DIOG_IO_STAT n) 28 26 0).setDioSt n 1).dioFollow n

/-- Pins of a group. -/
def groupPins (g : Nat) : List Nat := (List.range 8).map (· + 8 * g)

/-- A group becomes LOW (15 R329). -/
def State.vioLow (s : State) (g : Nat) : State :=
  let s := s.wb (R.DIOG_G_STAT g) 31 true
  let s := (s.fltEv (R.DIOG g 0) 0).irq (R.DIOG g 0) 0
  let s := { s with fio := { s.fio with stagger := s.fio.stagger.filter (fun e => e.1 / 8 != g) } }
  (groupPins g).foldl (fun (s : State) n => s.dioFollow n) s

/-- The next pin that waits for its turn, when its time has come (15 R329). -/
def State.staggerOn (s : State) (g : Nat) : State :=
  match s.fio.stagger.find? (fun e => e.1 / 8 == g) with
  | some e =>
    if e.2 ≤ s.dt then
      ({ s with fio := { s.fio with stagger := s.fio.stagger.filter (fun x => !decide (x = e)) } }).dioFollow e.1
    else s
  | none => s

/-- A group recovers: pins with WANT = on turn on in ascending number, 100 µs apart (15 R329). -/
def State.vioOk (s : State) (g : Nat) : State :=
  let s := (s.wb (R.DIOG_G_STAT g) 31 false).irq (R.DIOG g 0) 1
  let l := (groupPins g).filter (fun n => s.dioSt n == 1 && s.dioConducts n)
  let w := (List.range l.length).map (fun i => (l.getD i 0, s.dt + usDT (100 * i)))
  ({ s with fio := { s.fio with stagger := s.fio.stagger ++ w } }).staggerOn g

/-- The oldest edge of a DIO outlet executes (15 R326, R327, 09 R204). -/
def State.runDio (s : State) (id : Nat) (e : Edge) : State :=
  let s := s.popEdge id
  let n := e.target % 32
  let stop := s.dioSt n == 3 || s.dioLow n || s.fieldSafe
  let s := (s.setDioWant n e.on).dioFollow n
  if stop then s.missed id else s.await (e.owner id) e.on 4

/-- A write of IO_CTRL.OUT acts on WANT, or is ignored while a DIO outlet owns the pin (15 R326). -/
def State.dioOutWrite (s : State) (n : Nat) (v : Word) : State :=
  if s.dioOwned n then (s.uflt (R.DIOG_U n 0) 6).uirq (R.DIOG_U n 0) 6
  else ((s.w (R.DIOG_IO_CTRL n) (v &&& 1#32)).setDioWant n (bit v 0)).dioFollow n

/-! ## Confirmations from configured delays (01 R15) -/

/-- An awaited confirmation is due: for DIO the pin's read-back, ESTIMATED where it disagrees (01 R15, 15 R328). -/
def State.confirmDue (s : State) (a : Awaiting) : State :=
  let est := if a.kind = 4 then s.b (R.DIOG_IO_STAT (oTarget (s.genTbl a.gen) a.id % 32)) 31 != a.on else true
  s.confirm a.id a.gen a.on a.due est true

/-! ## Analog inputs (15 R330 to R332) -/

def State.ain (s : State) (n : Nat) : AinCh := s.fio.ain.getD n AinCh.reset
def State.setAin (s : State) (n : Nat) (a : AinCh) : State := { s with fio := { s.fio with ain := s.fio.ain.set n a } }

/-- VALID of an analog input; a change raises VALID_CHANGE. -/
def State.setAinValid (s : State) (n : Nat) (b : Bool) : State :=
  if s.b (R.AING_AIN_CODE n) 31 = b then s else (s.wb (R.AING_AIN_CODE n) 31 b).uirq (R.AING_U n 0) 4

/-- A condition of an analog input begins: its fault, one record an episode, VALID := 0. -/
def State.ainFault (s : State) (n k : Nat) : State :=
  let a := s.ain n
  if a.cond.testBit k then s
  else
    let s := (((s.setAin n { a with cond := a.cond + 2 ^ k }).uflt (R.AING_U n 0) k).uirq (R.AING_U n 0) k).evUnit
      (R.AING (n / 8) 0) k n
    s.setAinValid n false

/-- A condition of an analog input ends. -/
def State.ainClear (s : State) (n k : Nat) : State :=
  let a := s.ain n
  if a.cond.testBit k then s.setAin n { a with cond := a.cond - 2 ^ k } else s

/-- 1.5 / ODR as a DT (15 R331). -/
def State.odrBack (s : State) (n : Nat) : DT :=
  match s.f (R.AING_AIN_CFG n) 29 28 with
  | 0 => usDT 375
  | 1 => usDT 1500
  | 2 => usDT 6000
  | _ => usDT 30000

/-- A conversion ends (15 R331, R332). -/
def State.ainConvert (s : State) (n code : Nat) : State :=
  let a := s.ain n
  if 0 < a.skip then s.setAin n { a with skip := a.skip - 1 }
  else
    let top := code == 0xFFFF
    let low := s.f (R.AING_AIN_CFG n) 31 30 == 2 && decide (code < 11250)
    let up (b : Bool) (r : Nat) : Nat := if b then min (r + 1) 4 else 0
    let a := { a with ovr := up top a.ovr, overOk := up (!top) a.overOk, under := up low a.under, underOk := up (!low) a.underOk }
    let s := (s.setAin n a).wf (R.AING_AIN_CODE n) 15 0 code
    let s := s.w64 (R.AING_AIN_DT_LO n) (s.dt - s.odrBack n)
    let s := if a.ovr = 4 then s.ainFault n 0 else if a.overOk = 4 then s.ainClear n 0 else s
    let s := if a.under = 4 then s.ainFault n 1 else if a.underOk = 4 then s.ainClear n 1 else s
    -- an overload clears at the first conversion after the reconnection that nothing else makes invalid
    let s := if a.cut.isNone ∧ (s.ain n).cond = 4 then s.ainClear n 2 else s
    s.setAinValid n ((s.ain n).cond == 0)

/-- A change of RANGE or ODR discards the first three conversions (15 R331). -/
def State.ainRestart (s : State) (n : Nat) : State := (s.setAin n { s.ain n with skip := 3 }).setAinValid n false

/-- The field supply's monitor leaves, or regains, its range: GROUP on every analog input (15 R332). -/
def State.ainGroup (s : State) (bad : Bool) : State :=
  (List.range 16).foldl (fun (s : State) n => if bad then s.ainFault n 3 else s.ainClear n 3) s

/-! ## Frequency and quadrature inputs (15 R333 to R335) -/

def State.fin (s : State) (n : Nat) : FinCh := s.fio.fin.getD n FinCh.reset
def State.setFin (s : State) (n : Nat) (x : FinCh) : State := { s with fio := { s.fio with fin := s.fio.fin.set n x } }

/-- A pulse of the flow meter of every product that uses the input (10 R237): the meter is no longer lost. -/
def State.flowPulse (s : State) (fin : Nat) : State :=
  (List.range 4).foldl (fun (s : State) p =>
    if s.b (R.METER_PCFG p) 23 = true ∧ s.f (R.METER_PCFG p) 27 24 = fin then
      ({ s with meter := { s.meter with flowLast := s.meter.flowLast.set p (some s.dt) } }).wb (R.METER_PSTAT p) 2 false
    else s) s

/-- A rising edge at a DT (15 R333, R334). -/
def State.finEdge (s : State) (n : Nat) (t : DT) : State :=
  let x := s.fin n
  let s := s.setFin n { x with first := if x.n = 0 then t else x.first, last := t, n := x.n + 1, newest := some t }
  ((s.inc (R.FING_F_COUNT n) 31 0 1).w64 (R.FING_F_EDGE_LO n) t).flowPulse n

/-- Frequency of `n` edges over a span, unsigned Q20.12 Hz, to the nearest with ties up (15 R334). -/
def freqQ12 (n : Nat) (span : DT) : Nat :=
  let d := max 1 span
  min ((2 * ((n - 1) * 25600000000 * 4096) + d) / (2 * d)) (2 ^ 32 - 1)

/-- A gate ends (15 R334). -/
def State.finGate (s : State) (n : Nat) : State :=
  let x := s.fin n
  let ms := s.f (R.FING_F_CFG n) 15 8
  let s := s.setFin n { x with gate := x.gate + msDT ms, n := 0 }
  let ovr := decide (120 * ms < x.n)
  let s := if 2 ≤ x.n then
      ((s.w (R.FING_F_FREQ n) (nw (freqQ12 x.n (x.last - x.first)))).wb (R.FING_F_STAT n) 31 true).wb (R.FING_F_STAT n) 30 false
    else s
  let was := s.b (R.FING_F_STAT n) 29
  let s := s.wb (R.FING_F_STAT n) 29 ovr
  if ovr then (s.wb (R.FING_F_STAT n) 31 false).flt (R.FING 0) (8 + n)
  else if was then s.wb (R.FING_F_STAT n) 31 true
  else s

/-- TIMEOUT_MS passed since the last edge (15 R334). -/
def State.finTimeout (s : State) (n : Nat) : State :=
  ((s.w (R.FING_F_FREQ n) 0).wb (R.FING_F_STAT n) 30 true).irq (R.FING 0) n

/-- A quadrature pair counts; the odometry pair moves the pose (15 R335, 07 R157, R158). -/
def State.quadStep (s : State) (p : Nat) (up : Bool) : State :=
  let s := s.w (R.FING_QPOS p) (if up then s.r (R.FING_QPOS p) + 1 else s.r (R.FING_QPOS p) - 1)
  if s.f R.GEOM_ODO_CFG 3 0 = p then s.odoCount up else s

/-- Both inputs of a pair changed in one sample (15 R335). -/
def State.quadError (s : State) (p : Nat) : State :=
  let s := (s.satInc R.FING_QERR_CNT 31 0 1).fltEv (R.FING 0) p
  { s with fio := { s.fio with quadBad := s.fio.quadBad.set p (some (s.dt + msDT 10)) } }

end Sys2Proof.Machine
end

