-- ==== Sys2Proof/Machine/LookPlan.lean ====
section
/-!
DEFINITION. The planner and the commit point (09 R194 to R203, R209), and the checks of a table set (09 R192).
-/
namespace Sys2Proof.Machine

/-! ## Wish timelines (09 R194 to R196) -/

/-- A change of wish between samples `k` and `k + 1`: its interval in µs after F, and whether it is the boundary's. -/
structure WishChange where
  k : Nat
  lo : Int
  hi : Int
  bnd : Bool

/-- An outlet's wishes: per sample whether probed and the wish, and the refined changes. -/
structure Wishes where
  at_ : List (Bool × Bool)
  chg : List WishChange

/-- Is a sample of an outlet's results probed (09 R196 step 2)? -/
def State.sampleOk (s : State) (op : OutletProbe) (k : Nat) : Bool :=
  match op.res[k]? with
  | some r => !r.missing && (match s.rast.trunc with | some n => decide (k < n) | none => true)
  | none => false

/-- Is a change the boundary's: its interval is that of a refined change of the boundary wish (09 R197)? -/
def OutletProbe.isBnd (op : OutletProbe) (c : Change) : Bool :=
  op.changes.any (fun b => b.what == 0 && b.k == c.k && decide (b.lo = c.lo) && decide (b.hi = c.hi))

/-- The wish timeline of an outlet's own results: of its wish, or of its boundary wish alone. -/
def State.ownWishes (s : State) (op : OutletProbe) (bndOnly : Bool) : Wishes :=
  { at_ := (List.range s.pose.traj.length).map (fun k =>
      (s.sampleOk op k, match op.res[k]? with | some r => if bndOnly then r.bnd else r.wish | none => false)),
    chg := (op.changes.filter (fun c => c.what == (if bndOnly then 0 else 2))).map
      (fun c => ⟨c.k, c.lo, c.hi, bndOnly || op.isBnd c⟩) }

/-- No wish to be on at any sample. -/
def State.offWishes (s : State) : Wishes := { at_ := s.pose.traj.map (fun _ => (true, false)), chg := [] }

/-- The vote of a section (09 R194). -/
def voteOf (rule n on : Nat) : Bool :=
  if n = 0 then false
  else match rule with | 0 => decide (1 ≤ on) | 1 => on == n | _ => decide (n ≤ 2 * on)

/-- The first flip of a vote between two samples as the voters change in the order of their T_HI (09 R195). -/
def flipOf (rule n : Nat) (was : Bool) : List (Bool × WishChange) → Nat → Option WishChange
  | [], _ => none
  | (up, c) :: rest, on =>
    let on' := if up then on + 1 else on - 1
    if voteOf rule n on' != was then some c else flipOf rule n was rest on'

/-- The wish timeline of a section: its voters' timelines combined. -/
def sectionWishes (rule stepUs n : Nat) (vs : List Wishes) : Wishes :=
  let cnt (k : Nat) : Nat := (vs.filter (fun v => (v.at_.getD k (false, false)).2)).length
  let wish (k : Nat) : Bool := voteOf rule vs.length (cnt k)
  { at_ := (List.range n).map (fun k => (vs.all (fun v => (v.at_.getD k (false, false)).1), wish k)),
    chg := (List.range (n - 1)).filterMap (fun k =>
      if wish k = wish (k + 1) then none
      else
        let cs := vs.flatMap (fun v => (v.chg.filter (fun c => c.k == k)).map
          (fun c => (!(v.at_.getD k (false, false)).2, c)))
        let cs := sortKey (fun (e : Bool × WishChange) => e.2.hi.toNat) cs
        match flipOf rule vs.length (wish k) cs (cnt k) with
        | some c => some c
        | none => some ⟨k, ((k * stepUs : Nat) : Int), (((k + 1) * stepUs : Nat) : Int), false⟩) }

/-- Probe results of an outlet. -/
def State.probeOf (s : State) (id : Nat) : Option OutletProbe := s.rast.probes.find? (fun p => p.id == id)

/-- The wish timeline of a section (09 R194, R195). -/
def State.secWishes (s : State) (t : SMap Word) (k : Nat) (bndOnly : Bool) : Wishes :=
  let vs := (voters t k).map (fun id => match s.probeOf id with
    | some op => s.ownWishes op bndOnly
    | none => { at_ := s.pose.traj.map (fun _ => (false, false)), chg := [] })
  sectionWishes (secVote t k) s.stepUs s.pose.traj.length vs

/-- The wish timeline an actuating outlet follows under internal decision (09 R196 step 1). -/
def State.wishesOf (s : State) (t : SMap Word) (id : Nat) : Wishes :=
  if oSecEn t id then
    if secHeadEn t (oSection t id) && secHead t (oSection t id) != id then s.offWishes
    else s.secWishes t (oSection t id) false
  else if oProbe t id then
    match s.probeOf id with
    | some op => s.ownWishes op false
    | none => { at_ := s.pose.traj.map (fun _ => (false, false)), chg := [] }
  else s.offWishes

/-! ## Edges (09 R196 to R198) -/

/-- Crossing time of a change, µs after F (09 R197). -/
def crossing (t : SMap Word) (id : Nat) (on : Bool) (c : WishChange) : Int :=
  let code := if c.bnd then oBndBias t id else oCovBias t id
  let mid := c.lo + fdiv (c.hi - c.lo) 2
  match c.bnd, code with
  | true, 0 => if on then c.hi else c.lo
  | true, 1 => mid
  | true, _ => if on then c.lo else c.hi
  | false, 0 => if on then c.lo else c.hi
  | false, 1 => mid
  | false, _ => if on then c.hi else c.lo

/-- D + TRANSPORT_US − TRIM, µs (09 R198). -/
def State.leadUs (s : State) (t : SMap Word) (id : Nat) (on : Bool) : Int :=
  (s.planDelay t id on : Int) + oTransport t id - oTrim t id on

/-- A run of the timeline: its wish, its start in µs after F, and the edge time of an edge that is kept as planned. -/
structure Run where
  on : Bool
  at_ : Int
  te : Option Int

/-- Planned edges of an outlet whose ground time lies in (a, b] µs after F, as runs (09 R196 step 2). -/
def State.keptRuns (s : State) (t : SMap Word) (id : Nat) (f : DT) (a b : Int) : List Run :=
  (s.look.planned.filter (fun p => p.id == id)).filterMap (fun p =>
    let x := fdiv (p.te - f) 25600 + s.leadUs t id p.on
    if a < x ∧ x ≤ b then some ⟨p.on, x, some p.te⟩ else none)

/-- Add runs in order; a run that changes nothing is no run. -/
def addRuns (acc : List Run) (l : List Run) : List Run :=
  l.foldl (fun acc r => match acc.getLast? with
    | some q => if q.on = r.on then acc else acc ++ [r]
    | none => acc ++ [r]) acc

/-- Ground time in µs after F from which an outlet's samples count: that of its newest committed edge (09 R196). -/
def State.groundUs (s : State) (t : SMap Word) (id : Nat) (f : DT) : Option Int :=
  (s.q id).newestExec.map (fun x => fdiv ((x : Int) - f) 25600 + s.leadUs t id (s.q id).newest)

/-- One sample of the timeline: the runs so far with it. -/
def State.sampleRun (s : State) (t : SMap Word) (id : Nat) (f : DT) (w : Wishes) (g : Int) (acc : List Run) (k : Nat) :
    List Run :=
  let us := s.stepUs
  let here := w.at_.getD k (false, false)
  let before := w.at_.getD (k - 1) (false, false)
  let tk : Int := (k * us : Nat)
  if tk < g then acc
  else
    -- planned edges stand where a sample is not probed
    let acc := if here.1 && (k == 0 || before.1) then acc else addRuns acc (s.keptRuns t id f (tk - us) tk)
    if !here.1 then acc
    else
      match acc.getLast? with
      | none => acc
      | some cur =>
        if cur.on = here.2 then acc
        else if k = 0 then acc ++ [⟨here.2, max 0 g, none⟩]
        else if !before.1 then acc ++ [⟨here.2, crossing t id here.2 ⟨k, tk - us, tk, false⟩, none⟩]
        else
          match w.chg.find? (fun c => c.k + 1 == k && decide (g < c.hi)) with
          | some c => acc ++ [⟨here.2, crossing t id here.2 { c with lo := max c.lo g }, none⟩]
          | none => acc ++ [⟨here.2, max 0 g, none⟩]

/-- Turn short runs of one wish into the other; the run that reaches the horizon stays (09 R196 step 3). -/
def dropShort (on : Bool) (limUs : Nat) : List Run → List Run
  | a :: b :: rest =>
    (if a.on = on ∧ b.at_ - a.at_ < limUs then { a with on := !on } else a) :: dropShort on limUs (b :: rest)
  | l => l

/-- The runs of an outlet over the horizon, the first being the state after its newest committed edge. -/
def State.runsOf (s : State) (t : SMap Word) (id : Nat) (f : DT) (w : Wishes) : List Run :=
  let q := s.q id
  let g := (s.groundUs t id f).getD (-1)
  let start : Run := ⟨q.newest, match q.newestExec with | some x => fdiv ((x : Int) - f) 25600 | none => 0, none⟩
  let l := (List.range w.at_.length).foldl (s.sampleRun t id f w g) [start]
  let l := addRuns [] (dropShort true (oMinOn t id * 1000) l)
  addRuns [] (dropShort false (oMinOff t id * 1000) l)

/-- Edges of an outlet from its runs: each after the newest committed edge and after the one before (09 R196, R198). -/
def State.edgesOf (s : State) (t : SMap Word) (id : Nat) (f : DT) (src : Nat) (runs : List Run) : List Planned :=
  let q := s.q id
  let runs := match runs with | r :: rest => if r.on = q.newest then rest else runs | [] => []
  let floor : Option Int := q.newestExec.map (fun (x : DT) => (x : Int) + 25600)
  (runs.foldl (fun (acc : List Planned × Option Int) r =>
    let te := match r.te with
      | some x => x
      | none => (f : Int) + (r.at_ - s.leadUs t id r.on) * 25600
    let te := match acc.2 with | some m => max m te | none => te
    (acc.1 ++ [⟨id, r.on, te, src⟩], some (te + 25600))) ([], floor)).1

/-! ## External decision (09 R209) -/

/-- The boundary timeline that guards an outlet under external decision. -/
def State.guardWishes (s : State) (t : SMap Word) (id : Nat) : Wishes :=
  if oProbe t id then
    match s.probeOf id with
    | some op => s.ownWishes op true
    | none => { at_ := s.pose.traj.map (fun _ => (false, false)), chg := [] }
  else if voters t (oSection t id) = [] then { at_ := s.pose.traj.map (fun _ => (true, true)), chg := [] }
  else s.secWishes t (oSection t id) true

/-- Edges of an outlet under external decision. -/
def State.extEdges (s : State) (t : SMap Word) (id : Nat) (f : DT) : List Planned :=
  let q := s.q id
  let mine := oSecEn t id && (!secHeadEn t (oSection t id) || secHead t (oSection t id) == id)
  let w := s.look.secWish.getD (oSection t id) (false, 0)
  let want := mine && w.1
  let te : Int := (w.2 : Int) + usDT (s.f R.PLAN_TIMING 31 16)
  let te := match q.newestExec with | some x => max te ((x : Int) + 25600) | none => te
  if s.b R.PLAN_CFG 30 && want then
    match s.runsOf t id f (s.guardWishes t id) with
    | a :: b :: rest =>
      -- the first change, where the boundary permits the server's wish already, takes the server's time
      let b' : Run := if b.on && !q.newest && decide (b.at_ ≤ max 0 ((s.groundUs t id f).getD 0)) then { b with te := some te } else b
      s.edgesOf t id f 1 (a :: b' :: rest)
    | l => s.edgesOf t id f 1 l
  else if want = q.newest then []
  else if mine = false ∧ q.newest = false then []
  else [⟨id, want, te, 1⟩]

/-! ## The response in force (09 R201, R202, R209) -/

/-- How long the pose state has lasted at `c`. -/
def State.poseLasted (s : State) (c : DT) : DT := c - s.pose.stateSince

/-- STATE: 0 STOPPED, 1 RUNNING, 2 HOLD, 3 LOSS, 4 STALLED, 5 DRAIN, 6 EXTERNAL; `c` is the commit point. -/
def State.planResponse (s : State) (c : DT) : Nat :=
  let ext := s.b R.PLAN_CFG 31
  let normal := if ext then 6 else 1
  let loss := if s.poseLasted c < msDT (s.f R.PLAN_CFG 15 0) then 2 else 3
  if s.mode ≠ 3 then 0
  else if s.pkg.drain.isSome then 5
  else if s.f R.PLAN_STAT 3 0 = 4 then 4
  else if ext && !s.b R.PLAN_CFG 30 then 6
  else match s.poseSt, s.f R.PLAN_CFG 29 28 with
    | 0, _ => loss
    | 1, 1 => 2
    | 1, 2 => loss
    | _, _ => normal

/-! ## PLAN (09 R199) -/

/-- Candidates of a frame, by outlet and time. -/
def State.candidatesOf (s : State) (f : DT) : List Planned :=
  let t := s.tbl
  (actuating t).flatMap (fun id =>
    if s.b R.PLAN_CFG 31 then s.extEdges t id f
    else s.edgesOf t id f 0 (s.runsOf t id f (s.wishesOf t id)))

/-- Edges of one outlet and direction, in order. -/
def ofDir (l : List Planned) (id : Nat) (on : Bool) : List Planned := l.filter (fun p => p.id == id && p.on == on)

/-- Does the n-th edge of an outlet and direction continue the n-th planned one (09 R199)? -/
def continues (lim : Int) (a b : Planned) : Bool := decide ((a.te - b.te).natAbs ≤ lim.toNat)

/-- How many of a list of candidates continue planned edges. -/
def continued (lim : Int) (old new : List Planned) : Nat :=
  ((new.map (fun p => (p.id, p.on))).eraseDups.map (fun e =>
    (((ofDir old e.1 e.2).zip (ofDir new e.1 e.2)).filter (fun x => continues lim x.1 x.2)).length)).foldl (· + ·) 0

/-- The new plan replaces the old one, with its counts (09 R199). -/
def State.adoptPlan (s : State) : State :=
  let lim : Int := usDT (s.f R.PLAN_TIMING 15 0)
  let k := continued lim s.look.planned s.look.newPlan
  let s := s.inc R.COMMIT_SQUASHED 31 0 (s.look.planned.length - k)
  let s := s.inc R.COMMIT_PLANNED 31 0 (s.look.newPlan.length - k)
  let l := { s.look with
    planned := s.look.newPlan, newPlan := [], planEpoch := (s.r R.PRED_POSE_EPOCH).toNat, planDone := true }
  { s with look := l }

/-! ## COMMIT (09 R203) -/

/-- Test time of a planned edge: T_E, or T_D of a REMOTE one (09 R203, R207). -/
def testTime (t : SMap Word) (p : Planned) : Int :=
  if oKind t p.id = 5 then p.te - usDT (remLatency t (oTarget t p.id)) else p.te

/-- Commit one planned edge at commit point `c`, or keep it planned. -/
def State.commitOne (s : State) (c : DT) (acc : Nat) (p : Planned) : State × Bool :=
  let t := s.tbl
  let td := testTime t p
  let q := s.q p.id
  if acc ≠ 0 then (s, false)
  else if (usDT (s.f R.COMMIT_CFG 15 0) : Int) < td - c then (s, false)
  else if 4 ≤ q.edges.length then ((s.fltOnce (R.COMMIT 0) 0).inc R.EDGEQ_HOLDS 31 0 1, false)
  else if oKind t p.id = 5 ∧ 256 ≤ s.dispatchDepth then (s.fltOnce (R.REMOTE 0) 0, false)
  else
    let last : Int := match q.edges.getLast? with | some e => (e.exec : Int) + 25600 | none => 0
    let x := max (max td ((c : Int) + 1280000)) last
    let s := s.enqueue p.id (s.mkEdge t p.id p.on p.src p.te.toNat x.toNat)
    (if td < x then s.countLate p.id (x - td).toNat else s, true)

/-- Commit the planned edges in order: those that stay planned, the number committed. An outlet's edge that stays holds
back its later ones. -/
def State.commitAll (c : DT) : List Planned → State → List Nat → Nat → State × Nat
  | [], s, _, n => (s, n)
  | p :: rest, s, held, n =>
    let r := s.commitOne c (if held.contains p.id then 1 else 0) p
    if r.2 then
      State.commitAll c rest { r.1 with look := { r.1.look with planned := r.1.look.planned.erase p } } held (n + 1)
    else State.commitAll c rest r.1 (p.id :: held) n

/-- Off edges of source LOSS for the outlets on after their newest committed edge (09 R201). -/
def State.lossEdges (s : State) (c : DT) : State :=
  let t := s.tbl
  ((actuating t).filter (fun id => (s.q id).newest)).foldl (fun (s : State) id =>
    (s.inc R.COMMIT_PLANNED 31 0 1).offEdge t id 3 (c + usDT 50)) s

/-- The commit of a frame at C = F + 900 µs (09 R203). -/
def State.commitFrame (s : State) (c : DT) : State :=
  let r := State.commitAll c (sortKey (fun p => p.id) s.look.planned) s [] 0
  r.1.wf R.COMMIT_STAT 15 0 (min r.2 0xFFFF)

/-! ## Checks of a table set (09 R192) -/

/-- Outlets that actuate in a set, ascending. -/
def clashes (t : SMap Word) (ids : List Nat) : Option Nat :=
  let key (id : Nat) : Nat × Nat := (if oKind t id ≤ 1 then 0 else oKind t id, oTarget t id)
  ids.find? (fun id => ids.any (fun j => decide (j < id) && decide (key j = key id)))

/-- Largest delay of an outlet for the LEAD check: configured delays and the learner's upper bounds. -/
def maxDelay (t : SMap Word) (id : Nat) : Nat :=
  let up (on : Bool) : Nat := if oLocal t id && oLearnEn t id then (oBounds t id on).2 else 0
  max (max (oDelay t id true) (oDelay t id false)) (max (up true) (up false))

/-- Is the path of a remote record enabled (09 R192 DETAIL 0x33)? -/
def State.pathOn (s : State) (p : Nat) : Bool :=
  match p with
  | 0 | 1 => s.b (R.CAN_CAN_CFG p) 31
  | 2 | 3 => s.b (R.ETH_ETH_CFG (p - 2)) 31
  | _ => false

/-- The section check's first failure: an outlet, then a section. -/
def sectionFault (t : SMap Word) : Option Nat :=
  match (enabledIds t).find? (fun id => oVote t id && !oSecEn t id) with
  | some id => some id
  | none => (List.range 64).find? (fun k => secHeadEn t k &&
      !(oAct t (secHead t k) && oSecEn t (secHead t k) && oSection t (secHead t k) == k))

/-- The first check a set fails, with what it failed at (09 R192). -/
def State.tableFault (s : State) (t : SMap Word) : Option (Nat × Nat) :=
  let act := actuating t
  let target := match clashes t act, act.find? (fun id => oLocal t id && s.pairOdd (oTarget t id)) with
    | some a, some b => some (min a b)
    | some a, none => some a
    | none, b => b
  let remotes := (enabledIds t).filter (fun id => oKind t id == 5)
  let len (o : Nat) : Bool := let l := (s.r o).toNat; !(decide (500 ≤ l) && decide (l ≤ 30000))
  match target with
  | some x => some (0x30, x)
  | none =>
  match (enabledIds t).find? (fun id => decide (s.kinModel < oBody t id)) with
  | some x => some (0x31, x)
  | none =>
  match sectionFault t with
  | some x => some (0x32, x)
  | none =>
  match (sortKey id (remotes.map (oTarget t))).find? (fun r => !s.pathOn (remPath t r)) with
  | some x => some (0x33, x)
  | none =>
  match act.find? (fun id => decide (s.f R.PRED_CFG 15 0 * 1000 ≤ maxDelay t id + oTransport t id + 50)) with
  | some x => some (0x34, x)
  | none =>
  match (enabledIds t).find? (fun id => s.axis != 2 && oProbe t id && (oWidth t id == 0 || oLen t id == 0)) with
  | some x => some (0x35, x)
  | none =>
    if s.kinModel ≠ 0 ∧ len R.GEOM_L1 = true then some (0x36, 1)
    else if s.kinModel = 2 ∧ len R.GEOM_L2 = true then some (0x36, 2)
    else none

/-! ## A set becomes active (09 R193) -/

/-- Table sets as compared by STAGED_DIFF. -/
def State.noteStaged (s : State) : State := s.wb R.OUTLETWIN_SW_STAT 0 (decide (s.look.staged ≠ s.look.active))

/-- Switch to a captured set at frame boundary `f`. -/
def State.switchTable (s : State) (t : SMap Word) (f : DT) : State :=
  let old := s.look.active
  let gen := s.tableGen
  let ons := (actuating old).filter (fun id => (s.q id).newest &&
    (oKind old id != oKind t id || oTarget old id != oTarget t id || oEn old id != oEn t id))
  -- off edges on the old targets, stamped with the old generation
  let s := ons.foldl (fun (s : State) id => s.offEdge old id 4 (f + usDT 950)) s
  let s := { s with look := { s.look with active := t, old := old, oldGen := gen, captured := none } }
  let s := (s.wf R.OUTLETWIN_SW_STAT 31 16 (gen + 1)).wb R.OUTLETWIN_SW_STAT 1 true
  let s := s.noteStaged.releaseOld
  (s.forceEpoch 7).irq (R.OUTLETWIN 0) 0

end Sys2Proof.Machine
end

