-- ==== Sys2Proof/Machine/StoreOps.lean ====
section
/-!
DEFINITION. The configuration store in MRAM (04 R75 step 8, 09 R191, 10 R220, 19 R420): the values it holds, by key.
Registers are kept by their offset; tables by the ranges below.
-/
namespace Sys2Proof.Machine

/-- Keys of the stored tables: outlet table set, rate, nozzle and injector tables, loop coefficients. -/
def storeTbl : Nat := 0x1000000
def storeRate : Nat := 0x1100000
def storeNozzle : Nat := 0x1200000
def storeInj : Nat := 0x1300000

/-- The value the store holds under a key. -/
def State.storeAt (s : State) (k : Nat) : Option Word := SMap.get (fun _ => none) s.sec.store k

/-- The store holds a value under a key. -/
def State.storePut (s : State) (k : Nat) (v : Word) : State :=
  { s with sec := { s.sec with store := SMap.put (fun _ => none) s.sec.store k (some v) } }

/-- Write one value into the store (19 R420): one write of MRAM, counted as 1 KB (20 R436). -/
def State.storeWrite (s : State) (k : Nat) (v : Word) : State := (s.storePut k v).lifeKb 4 1

/-- Replace a range of the store by the words of a table. -/
def State.storeTable (s : State) (base size : Nat) (t : SMap Word) : State :=
  let keep := s.sec.store.filter (fun e => decide (e.1 < base))
  let above := s.sec.store.filter (fun e => decide (base + size ≤ e.1))
  let s := s.lifeKb 4 ((4 * t.length + 1023) / 1024)
  { s with sec := { s.sec with store := keep ++ t.map (fun e => (base + e.1, some e.2)) ++ above } }

/-- The words of a range of the store, as a table. -/
def State.storedTable (s : State) (base size : Nat) : SMap Word :=
  s.sec.store.filterMap (fun e => if base ≤ e.1 ∧ e.1 < base + size then e.2.map (fun v => (e.1 - base, v)) else none)

/-- The store takes the table set that became active, with its generation's words (09 R191). -/
def State.storeTables (s : State) : State := s.storeTable storeTbl 0x100000 s.look.active

/-- The store takes the rate tables that became active (10 R220). -/
def State.storeRates (s : State) : State := s.storeTable storeRate 0x100000 s.meter.active

end Sys2Proof.Machine
end

