-- ==== Sys2Proof/Machine/FrameCmds.lean ====
section
/-!
DEFINITION. The stages of a planning frame (01 R10, R11; 07 R151 to R154; 08 R173; 09 R196 to R203; 10 R229).
-/
namespace Sys2Proof.Machine

/-! ## The frame boundary -/

/-- Do the speculative stages run: in OPERATE, with the PROBE and PLAN islands in RUN (02 R37, 04 R69)? -/
def State.stagesRun (s : State) : Bool :=
  s.mode == 3 && s.f R.CLOCK_ISL_STAT 1 0 == 0 && s.f R.CLOCK_ISL_STAT 3 2 == 0

def State.setStage (s : State) (n : Nat) : State := { s with look := { s.look with stage := n } }

/-- A captured table set becomes active, and its OUTLET_SWITCH completes (09 R192, R193). -/
def State.frameSwitch (s : State) (f : DT) : State :=
  match s.look.captured with
  | none => s
  | some (t, c) =>
    let s := (s.switchTable t f).storeTables
    s.ok c 0 (nw s.tableGen)

/-- The staged rate tables become active, and their RATE_SWITCH commands complete (10 R220). -/
def State.frameRates (s : State) : State :=
  match s.meter.rateReq with
  | [] => s
  | reqs =>
    let s := { s with meter := { s.meter with active := s.meter.staged, rateReq := [] } }
    let s := ((s.inc R.METER_RATE_SW 31 16 1).wb R.METER_RATE_SW 1 false).storeRates
    reqs.foldl (fun (s : State) c => s.ok c (nw (s.f R.METER_RATE_SW 31 16)) 0) s

/-- TOTALS_RESET commands act (10 R235). -/
def State.frameResets (s : State) : State :=
  let reqs := s.meter.resetReq
  let s := { s with meter := { s.meter with resetReq := [] } }
  reqs.foldl (fun (s : State) c =>
    let s := s.resetTotals (c.byte 8) (c.byte 9 % 2 == 1) (c.byte 9 / 2 % 2 == 1)
    (s.inc R.TOTALS_STAT 31 16 1).ok c 0 0) s

/-- The flow meter of a product: pulses since the newest frame into METERED, and FLOW_MEAS (10 R234). -/
def State.frameFlow (s : State) (p : Nat) : State :=
  let cfg := s.r (R.METER_PCFG p)
  let fin := fld cfg 27 24
  let n := (s.r (R.FING_F_COUNT fin)).toNat
  let pulses := (n + 2 ^ 32 - s.meter.flowCnt.getD p 0 % 2 ^ 32) % 2 ^ 32
  let s := { s with meter := { s.meter with flowCnt := s.meter.flowCnt.set p n } }
  if bit cfg 23 then
    let q := (rnd ((s.r (R.FING_F_FREQ fin)).toNat * 60 * 2 ^ 20 : Nat) (max 1 (s.r (R.METER_PPU p)).toNat)).toNat
    let s := s.w (R.METER_FLOW_MEAS p) (if s.b (R.METER_PSTAT p) 2 then 0 else nw (min q (2 ^ 32 - 1)))
    (s.meterFlow p pulses).publish (4 * 4096)
  else s

/-- Delays of a section as its report gives them, in whole ms, rounded up (12 R276). -/
def State.secDelays (s : State) (k : Nat) : Nat × Nat :=
  let t := s.tbl
  let up (on : Bool) : Nat :=
    ((secMembers t k).map (fun id => (s.planDelay t id on + oTransport t id + 999) / 1000)).foldl max 0
  (up true, up false)

/-- The ISO 11783 bus that carries the task-controller client: the lower one on which an address is claimed (18 R376). -/
def State.tcBus (s : State) : Option Nat :=
  [0, 1].find? (fun b => s.b (R.CAN_CAN_CFG b) 31 && s.b (R.CAN_CAN_ADDR b) 16 && s.f (R.CAN_CAN_STAT b) 1 0 != 2)

/-- Report a section's delays when they changed, at most once a second (12 R276, 18 R377). -/
def State.reportDelay (s : State) (bus : Nat) (k : Nat) : State :=
  let d := s.secDelays k
  match s.look.tcDelay.find? (fun e => e.1 == k) with
  | some e =>
    if (e.2.1 = d.1 ∧ e.2.2.1 = d.2) ∨ s.dt < e.2.2.2 + sDT 1 then s
    else
      { s with
        look := { s.look with tcDelay := s.look.tcDelay.map (fun x => if x.1 = k then (k, d.1, d.2, s.dt) else x) }
        host := { s.host with out := s.host.out ++ [⟨bus, 1, [nw k, nw d.1, nw d.2]⟩] } }
  | none =>
    { s with
      look := { s.look with tcDelay := s.look.tcDelay ++ [(k, d.1, d.2, s.dt)] }
      host := { s.host with out := s.host.out ++ [⟨bus, 1, [nw k, nw d.1, nw d.2]⟩] } }

/-- The client's reports of the sections that drive an outlet, while a server is present. -/
def State.frameReports (s : State) : State :=
  match s.tcBus with
  | some bus =>
    if s.comm.tcUp then
      ((List.range 64).filter (fun k => !(secMembers s.tbl k).isEmpty)).foldl (fun (s : State) k => s.reportDelay bus k) s
    else s
  | none => s

/-- A new pose epoch squashes every planned edge and drops the reference trajectory (07 R153, R154; 09 R200). -/
def State.newEpoch (s : State) : State :=
  if s.pose.causes = 0 then s
  else
    let s := s.squashAll.bumpEpoch
    { s with pose := { s.pose with ref := [] } }

/-- PREDICT of the frame (07 R151); nothing while the pose is INVALID. -/
def State.framePredict (s : State) (f : DT) : State :=
  let tr := if s.poseSt = 0 then [] else s.predict f
  { s with pose := { s.pose with newTraj := tr } }

/-- FRAME_BOUNDARY (01 R10): the frame that DT is in begins. -/
def frameBegin (s : State) : State :=
  let f := frameOf s.dt
  let s := { s with look := { s.look with frame := f, stage := 0 } }
  let s := s.learnFrame.frameResets
  let s := ((s.frameSwitch f).frameRates)
  let s := (List.range 4).foldl (fun (s : State) p => s.frameFlow p) s
  let s := s.frameReports.newEpoch
  if s.stagesRun then (s.framePredict f).setStage 1 else s

/-- FRAME_BOUNDARY (01 R10, R11). -/
def execFrameBoundary (s : State) : Host.Outcome State Fault Refusal := done (frameBegin s)

/-! ## PROBE -/

/-- R_b: distance from a body's reference point to the farthest footprint corner of an enabled outlet on it, in mm (07 R153). -/
def bodyReach (t : SMap Word) (b : Nat) : Nat :=
  (((enabledIds t).filter (fun id => oBody t id == b)).map (fun id =>
    (hyp (2 * (oX t id).natAbs + oLen t id : Nat) (2 * (oY t id).natAbs + oWidth t id : Nat) + 1) / 2)).foldl max 0

/-- Largest deviation that keeps the epoch: EPOCH_TOL in 2^-16 mm, ANG_TOL in 2^-32 turn (07 R153). -/
def State.epochTol (s : State) : Nat :=
  65536 * (if s.axis = 2 then s.f R.PRED_EPOCH_TOL 31 16 else s.f R.PRED_EPOCH_TOL 15 0)

/-- The new trajectory against the epoch's reference (07 R153). -/
def State.compareEpoch (s : State) (tr : List Sample) : State :=
  let setRef (s : State) (r : List Sample) : State := { s with pose := { s.pose with ref := r } }
  match s.pose.ref.getLast? with
  | none => setRef s tr
  | some lastRef =>
    let d := s.trajDev ((List.range 3).map (bodyReach s.tbl)) tr s.pose.ref
    let s := s.w R.PRED_LAST_DEV (nw (min (d / 65536) (2 ^ 32 - 1)))
    if s.epochTol < d then setRef (s.forceEpoch 0).squashAll.bumpEpoch tr
    else setRef s (s.pose.ref ++ tr.filter (fun a => decide (lastRef.t < a.t)))

/-- PROBE_STAGE_START (01 R11, 07 R153, 08 R173): the trajectory is published, and the probe tests it. -/
def probeStage (s : State) : State :=
  let tr := s.pose.newTraj
  let s := { s with pose := { s.pose with traj := tr, newTraj := [] } }
  let s := if tr = [] then s else s.compareEpoch tr
  let s := s.w R.PRED_UNC_END (nw (min (s.uncAt (s.f R.PRED_CFG 15 0)) (2 ^ 32 - 1)))
  let r := State.askTiles s.tbl (probed s.tbl) s.pose.traj 0 s
  ((r.1.noteTrunc r.2).probeResults s.look.frame).setStage 2

/-- PROBE_STAGE_START (08 R173). -/
def execProbeStageStart (s : State) : Host.Outcome State Fault Refusal :=
  done (if s.look.stage = 1 ∧ s.stagesRun = true then probeStage s else s)

/-- Release every slot the probe pinned (06 R125). -/
def State.unpinProbe (s : State) : State :=
  (List.range 112).foldl (fun (s : State) i =>
    if (s.slot i).probePin then s.setSlot i { s.slot i with probePin := false } else s) s

/-- The results as they stand at the end of the window: formed again where a layer was missing (08 R185). -/
def State.probeEnd (s : State) : State :=
  let s := if s.rast.probes.any (fun p => p.res.any (fun r => r.missing || r.fellBack)) then s.probeResults s.look.frame else s
  let s := { s with rast := { s.rast with diag := s.diagOf } }
  s.unpinProbe.prefetch.setStage 3

/-- PROBE_WINDOW_END (06 R125, 08 R184). -/
def execProbeWindowEnd (s : State) : Host.Outcome State Fault Refusal :=
  done (if s.look.stage = 2 ∧ s.stagesRun = true then s.probeEnd else s.unpinProbe)

/-! ## PLAN and COMMIT -/

/-- PLAN_STAGE_START (09 R196, 10 R229): targets and candidate edges are formed. The time it took, PLAN_US, is a free
value (log 5). -/
def execPlanStageStart (s : State) : Host.Outcome State Fault Refusal :=
  done (if s.look.stage = 3 ∧ s.stagesRun = true then
      let us := s.meterForm.freeBits 16
      let s := us.2.wf R.PLAN_STAT 31 16 us.1
      { s with look := { s.look with newPlan := s.candidatesOf s.look.frame, stage := 4 } }
    else s)

/-- The commit point of a frame. -/
def State.commitAt (s : State) : DT := s.look.frame + usDT 900

/-- The response in force acts at the commit point (09 R201 to R203). `whole`: the frame's stages all completed. -/
def State.respond (s : State) (whole : Bool) (st : Nat) : State :=
  let c := s.commitAt
  match st with
  | 1 | 6 =>
    if whole then s.adoptPlan.commitFrame c
    else if s.look.planDone ∧ s.look.planEpoch = (s.r R.PRED_POSE_EPOCH).toNat then s.commitFrame c
    else s.wf R.COMMIT_STAT 15 0 0
  | 3 | 4 => (s.squashAll.lossEdges c).wf R.COMMIT_STAT 15 0 0
  | _ => s.squashAll.wf R.COMMIT_STAT 15 0 0

/-- A completed frame: CONSEC returns to 0, ten in a row end a stall, and the targets are published (09 R202, 10 R229). -/
def State.frameDone (s : State) : State :=
  let s := s.wf R.PLAN_OVERRUN 31 16 0
  let n := s.look.goodFrames + 1
  let s := { s with look := { s.look with goodFrames := min n 10 } }
  let s := if s.f R.PLAN_STAT 3 0 = 4 ∧ 10 ≤ n then s.wf R.PLAN_STAT 3 0 0 else s
  (s.meterPublish s.look.frame).publish (3 * 4096)

/-- Since when each product's FLOW_TGT is above 0 (10 R237). -/
def State.noteTargets (s : State) : State :=
  { s with meter := { s.meter with tgtSince := (List.range 4).map (fun p =>
      if s.r (R.METER_FLOW_TGT p) = 0 then none
      else match s.meter.tgtSince.getD p none with
        | some t => some t
        | none => some s.dt) } }

/-- COMMIT_POINT (09 R203). -/
def commitPoint (s : State) : State :=
  let whole := s.look.stage == 4
  let s := if whole then s.frameDone.noteTargets else s
  let st := s.planResponse s.commitAt
  ((s.respond whole st).wf R.PLAN_STAT 3 0 st).setStage 5

/-- COMMIT_POINT (09 R203): once a frame. -/
def execCommitPoint (s : State) : Host.Outcome State Fault Refusal :=
  done (if s.stagesRun = true ∧ s.look.stage ≠ 5 ∧ s.look.frame = frameOf s.dt then commitPoint s
    else if s.stagesRun then s else s.wf R.PLAN_STAT 3 0 0)

/-- FRAME_OVERRUN (09 R202): a stage has not finished by the end of its window; the later ones do not run. -/
def execFrameOverrun (s : State) : Host.Outcome State Fault Refusal :=
  done (if s.stagesRun = true ∧ 1 ≤ s.look.stage ∧ s.look.stage ≤ 4 then
      let s := if s.look.stage = 1 then (s.satInc R.PRED_OVERRUN 15 0 1).irq (R.PRED 0) 1 else s
      let s := { s with
        look := { s.look with stage := 9, goodFrames := 0, newPlan := [] }
        pose := { s.pose with newTraj := [] } }
      let s := (s.unpinProbe.satInc R.PLAN_OVERRUN 15 0 1).satInc R.PLAN_OVERRUN 31 16 1
      let s := s.irq (R.PLAN 0) 0
      let n := s.f R.PLAN_OVERRUN 31 16
      if s.f R.PLAN_CFG 27 24 = n then
        (((s.flt (R.PLAN 0) 0).evNow 0x0C (nw n)).irq (R.PLAN 0) 1).wf R.PLAN_STAT 3 0 4
      else s
    else s)

end Sys2Proof.Machine
end

