-- ==== Sys2Proof/Machine/Block.lean ====
section
/-!
DEFINITION. Block-floating arithmetic of the control engine (13 R287, R288).
-/
namespace Sys2Proof.Machine

/-- Element j of a vector, 0 beyond its end. -/
def BF.at (v : BF) (j : Nat) : Int := v.m.getD j 0

/-- A quotient by 2^k rounded to nearest, ties toward +∞; a negative k shifts left. -/
def shr (a k : Int) : Int :=
  if k ≤ 0 then a * 2 ^ (-k).toNat else (a + 2 ^ (k.toNat - 1)).fdiv (2 ^ k.toNat)

/-- A quotient rounded to nearest, ties toward +∞, for d > 0. -/
def rup (n d : Int) : Int := (2 * n + d).fdiv (2 * d)

/-- Bits of a magnitude. -/
def bitLen (n : Nat) : Nat := if n = 0 then 0 else n.log2 + 1

/-- Largest magnitude of a list. -/
def maxMag (l : List Int) : Nat := (l.map Int.natAbs).foldl max 0

/-- A normalised vector and whether it overflowed. -/
structure Norm where
  v : BF
  ovf : Bool

/-- Renormalise accumulators `a`, in units of 2^(e − 46): the largest magnitude into [0.5, 1), each element rounded to
24 bits; an all-zero vector keeps the exponent `keep` (13 R287, R288). -/
def renorm (a : List Int) (e keep : Int) : Norm :=
  let n := maxMag a
  if n = 0 then ⟨⟨keep, a⟩, false⟩
  else
    let k : Int := (bitLen n : Int) - 23
    let k := if 2 ^ 23 ≤ maxMag (a.map (fun x => shr x k)) then k + 1 else k
    let e' := e - 23 + k
    if 127 < e' then ⟨⟨127, a.map (fun x => if x = 0 then 0 else if x < 0 then -(2 ^ 23 - 1) else 2 ^ 23 - 1)⟩, true⟩
    else if e' < -128 then ⟨⟨-128, a.map (fun _ => 0)⟩, false⟩
    else ⟨⟨e', a.map (fun x => shr x k)⟩, false⟩

/-- A term of a sum: a product of 24-bit mantissas (or a mantissa × 2^23) and its exponent E_c + E_x. -/
structure Term where
  p : Int
  e : Int

/-- The term of a coefficient and an element. -/
def term (c ec x ex : Int) : Term := ⟨c * x, ec + ex⟩

/-- The term of an element itself. -/
def unit (x ex : Int) : Term := ⟨x * 2 ^ 23, ex⟩

/-- A stage: each element a sum of terms, aligned to the largest exponent among the terms that are not 0 (13 R287). -/
def stage (l : List (List Term)) (keep : Int) : Norm :=
  let es := (l.flatten.filter (fun t => t.p != 0)).map (fun t => t.e)
  let e := es.foldl max (es.headD 0)
  renorm (l.map (fun ts => (ts.map (fun t => if t.p = 0 then 0 else shr t.p (e - t.e))).foldl (· + ·) 0)) e keep

/-- A quotient n / d (d > 0) as a mantissa of 24 bits with its exponent, rounded to nearest with ties toward +∞. -/
def ratio24 (n d : Int) : BF :=
  if n = 0 ∨ d ≤ 0 then ⟨0, [0]⟩
  else
    let b : Int := (bitLen n.natAbs : Int) - bitLen d.natAbs
    let f (k : Int) : Int := if 0 ≤ k then rup (n * 2 ^ k.toNat) d else rup n (d * 2 ^ (-k).toNat)
    let k := 23 - b
    let k := if (f k).natAbs < 2 ^ 22 then k + 1 else if 2 ^ 23 ≤ (f k).natAbs then k - 1 else k
    let k := if 2 ^ 23 ≤ (f k).natAbs then k - 1 else k
    ⟨23 - k, [f k]⟩

/-- The exact value of an element in 2^-151. -/
def exact (m e : Int) : Int := m * 2 ^ (e + 128).toNat

end Sys2Proof.Machine
end

