-- ==== Sys2Proof/Machine/CtlOps.lean ====
section
/-!
DEFINITION. The control engine's loops and trace (13) as shared operations.
-/
namespace Sys2Proof.Machine

/-! ## Reading a loop (13 R280, R281, R289, R290) -/

/-- Is the CTL island in RUN? -/
def State.ctlRuns (s : State) : Bool := s.f R.CLOCK_ISL_STAT 5 4 == 0

def State.lp (s : State) (l : Nat) : LoopSt := s.ctl.loops.getD l LoopSt.reset
def State.setLp (s : State) (l : Nat) (x : LoopSt) : State := { s with ctl := { s.ctl with loops := s.ctl.loops.set l x } }

def State.lpLut (s : State) (l : Nat) : Bool := s.f (R.LOOP_LAW l) 31 30 == 1
def State.lpNx (s : State) (l : Nat) : Nat := if s.lpLut l then 0 else min 6 (s.f (R.LOOP_LAW l) 18 16)
def State.lpNi (s : State) (l : Nat) : Nat := min (s.lpNio l) (s.f (R.LOOP_LAW l) 13 12)
def State.lpPeriod (s : State) (l : Nat) : Nat := max 1 (s.f (R.LOOP_LP_CFG l) 23 0)

/-- Weight of a law header (13 R281). -/
def lawWeight (w : Word) : Nat :=
  if fld w 31 30 = 1 then 1
  else
    let nx := fld w 18 16
    let ni := fld w 13 12
    let nio := fld w 9 8
    1 + (nx * nx + 4 * nx * nio + nio * nio + ni * (1 + nio)) / 32

/-- Evaluations per second of a law header at a period, in 10^-6. -/
def lawLoad (w : Word) (period : Nat) : Nat := lawWeight w * 10 ^ 12 / max 1 period

/-- Committed load, in 10^-6 evaluations per second, leaving one loop out (13 R281). -/
def State.ctlLoad (s : State) (but : Nat) : Nat :=
  (((List.range 24).filter (fun l => s.lpSt l != 0 && l != but)).map
    (fun l => lawLoad (s.r (R.LOOP_LAW l)) (s.lpPeriod l))).foldl (· + ·) 0

/-- Does a loop with a law header and a period fit beside the others: the sum of w × 10^6 / PERIOD_US, over the product of
the periods as its denominator, within 400,000 (13 R281)? -/
def State.loadFits (s : State) (l : Nat) (law : Word) (period : Nat) : Bool :=
  let all := (lawWeight law, max 1 period) ::
    ((List.range 24).filter (fun k => s.lpSt k != 0 && k != l)).map (fun k => (lawWeight (s.r (R.LOOP_LAW k)), s.lpPeriod k))
  let d := all.foldl (fun (x : Nat) e => x * e.2) 1
  decide ((all.map (fun e => e.1 * 10 ^ 6 * (d / e.2))).foldl (· + ·) 0 ≤ 400000 * d)

/-- Newest sample DT of a loop at or before now (13 R280). -/
def State.sampleDT (s : State) (l : Nat) : Option DT :=
  let us := s.dt / 25600
  let ph := s.f (R.LOOP_LP_PHASE l) 23 0
  if us < ph then none else some ((us - (us - ph) % s.lpPeriod l) * 25600)

/-- Enter a loop state (13 R292); U_IRQ_RAW.STATE. -/
def State.setLpSt (s : State) (l st : Nat) : State :=
  if s.lpSt l = st then s
  else (s.w (R.LOOP l 0x044) (unitState [0, 4] st)).uirq (R.LOOP l 0x040) 5

/-- A loop is GATED: a sink channel is the target of a MOTOR outlet whose enable is off, or its cluster is tripped
(13 R286). -/
def State.lpGated (s : State) (l : Nat) : Bool :=
  (s.lpChans l).any (fun u => (s.motorOwned u && !(s.pch u).oe) || s.clTripped (u / 8))

/-! ## Vectors in registers (13 R287) -/

/-- Exponent and mantissa of a word. -/
def State.expo (s : State) (o : Nat) : Int := toSigned 8 (s.f o 7 0)
def State.mant (s : State) (o : Nat) : Int := fdiv (sword (s.r o)) 256

/-- A vector of `n` elements whose exponent word stands at an offset. -/
def State.vec (s : State) (o n : Nat) : BF := ⟨s.expo o, (List.range n).map (fun j => s.mant (o + 4 + 4 * j))⟩

/-- Store a vector, `n` words of mantissas in all. -/
def State.setVec (s : State) (o n : Nat) (v : BF) : State :=
  s.ws o (nw (ofSigned 8 v.e) :: (List.range n).map (fun j => wordOf (v.at j * 256)))

/-- The term of coefficient `i` of the matrix at an offset with an element. -/
def State.ct (s : State) (o i : Nat) (x ex : Int) : Term := term (s.mant (o + 4 + 4 * i)) (s.expo o) x ex

/-- A stage's result: stored, OVF flagged (13 R288). -/
def State.putStage (s : State) (l o n : Nat) (r : Norm) : State :=
  let s := s.setVec o n r.v
  if r.ovf then (s.uflt (R.LOOP l 0x040) 4).uirq (R.LOOP l 0x040) 4 else s

/-! ## Sources (13 R283, R284) -/

/-- Raw value of a source, and whether it is valid (13 R283). -/
def State.srcRaw (s : State) (l code idx : Nat) : Int × Bool :=
  match code with
  | 1 => (s.f (R.AING_AIN_CODE idx) 15 0, s.b (R.AING_AIN_CODE idx) 31)
  | 2 => ((s.r (R.FING_F_FREQ idx)).toNat, s.b (R.FING_F_STAT idx) 31 && !s.b (R.FING_F_STAT idx) 30 &&
      !(s.b R.FING_QUAD_CFG (idx / 2) && (s.fio.quadBad.getD (idx / 2) none).isSome))
  | 3 => ((s.r (R.METER_FLOW_TGT idx)).toNat, true)
  | 4 => ((s.r (R.METER_FLOW_MEAS idx)).toNat, !s.b (R.METER_PSTAT idx) 2)
  | 5 => (sword (s.r (R.METER_PRESS idx)), !s.b (R.METER_PSTAT idx) 3)
  | 6 => (match s.meterOut idx with | some o => (o.out : Int) | none => 0, true)
  | 7 => (sword (s.r (R.LOOP_HOST_VAL l idx)), true)
  | 8 => (sword (s.r (R.LOOP_OUT_RAW (idx / 2) (idx % 2))), s.lpSt (idx / 2) != 0 && s.lpSt (idx / 2) != 4)
  | _ => (0, true)

/-- Is a source's raw value signed? -/
def srcSigned (code : Nat) : Bool := code == 5 || code == 7 || code == 8

/-- Is input `d` (0 r_1, 1 r_2, 2 y_1, 3 y_2) in use? -/
def State.inUsed (s : State) (l d : Nat) : Bool := decide (d % 2 < s.lpNio l) && s.f (R.LOOP_IN_SEL l d) 31 28 != 0

/-- Raw value of an input and whether it is invalid, out of range or stale (13 R284). -/
def State.readIn (s : State) (l d : Nat) : Int × Bool :=
  let code := s.f (R.LOOP_IN_SEL l d) 31 28
  let idx := s.f (R.LOOP_IN_SEL l d) 27 16
  let v := s.srcRaw l code idx
  let lim (w : Word) : Int := if srcSigned code then sword w else w.toNat
  let far := decide (v.1 < lim (s.r (R.LOOP_IN_LO l d))) || decide (lim (s.r (R.LOOP_IN_HI l d)) < v.1)
  let ms := s.f (R.LOOP_IN_STALE l d) 15 0
  let stale := ms != 0 && (match s.ctl.pub.find? (fun e => e.1 == pubKey l code idx) with
    | some e => decide (msDT ms < s.dt - e.2)
    | none => true)
  (v.1, code != 0 && (!v.2 || far || stale))

/-- The INPUT stage: last good values stand in for bad ones; runs of bad and good samples are counted (13 R284, R297). -/
def State.evInput (s : State) (l : Nat) : State :=
  let x := s.lp l
  let rs := (List.range 4).map (fun d => s.readIn l d)
  let get (d : Nat) : Int × Bool := rs.getD d (0, false)
  let good := (List.range 4).map (fun d => if (get d).2 then x.good.getD d 0 else (get d).1)
  let run (b : Bool) (n : Nat) : Nat := if b then min (n + 1) 255 else 0
  let s := s.setLp l { x with good := good,
                              bad := (List.range 4).map (fun d => run (get d).2 (x.bad.getD d 0)),
                              okN := (List.range 4).map (fun d => run (!(get d).2) (x.okN.getD d 0)) }
  let el (d : Nat) : List Term :=
    if d % 2 < s.lpNio l then
      let m := ratio24 (good.getD d 0 - sword (s.r (R.LOOP_IN_OFS l d))) 1
      let g := R.LOOP_IN_GAIN l d
      [term (m.at 0) m.e (s.mant g) (s.expo g)]
    else []
  s.putStage l (R.LOOP_ST_INPUT l 0) 4 (stage ((List.range 4).map el) (s.expo (R.LOOP_ST_INPUT l 0)))

/-! ## OBSERVER (13 R289, R290) -/

/-- u for a raw output: converted back through OUT_OFS and OUT_GAIN (13 R294). -/
def State.outBack (s : State) (l m : Nat) (raw : Int) : BF :=
  let g := sword (s.r (R.LOOP_OUT_GAIN l m))
  let n := raw - sword (s.r (R.LOOP_OUT_OFS l m))
  if g = 0 then ⟨0, [(Config.unscaled n).toInt]⟩
  else if g < 0 then ratio24 (-n) (-g) else ratio24 n g

/-- The u of the previous sample: the previous OUTPUT before its clamp, or the manual or safe output, which the first AUTO
sample after MANUAL takes too (13 R289, R292). -/
def State.prevU (s : State) (l m : Nat) : BF :=
  match s.lpSt l with
  | 1 => s.outBack l m (sword (s.r (R.LOOP_MAN_OUT l m)))
  | 4 => s.outBack l m (sword (s.r (R.LOOP_SAFE_OUT l m)))
  | _ =>
    if (s.lp l).uMan then s.outBack l m (sword (s.r (R.LOOP_OUT_RAW l m)))
    else
      let v := s.vec (R.LOOP_ST_FEEDBACK l 0) 2
      ⟨v.e, [v.at m]⟩

/-- The OBSERVER stage. -/
def State.evObserver (s : State) (l : Nat) : State :=
  let i := s.vec (R.LOOP_ST_INPUT l 0) 4
  if s.lpLut l then s.setVec (R.LOOP_ST_OBSERVER l 0) 6 ⟨i.e, [i.at 2]⟩
  else
    let nx := s.lpNx l
    let no := s.lpNio l
    let x := s.vec (R.LOOP_ST_OBSERVER l 0) 6
    let inn := (stage ((List.range no).map (fun m =>
      unit (i.at (2 + m)) i.e :: (List.range nx).map (fun j => s.ct (R.LOOP_COEF_C l 0) (6 * m + j) (-(x.at j)) x.e))) 0).v
    let row (k : Nat) : List Term :=
      (List.range nx).map (fun j => s.ct (R.LOOP_COEF_A l 0) (6 * k + j) (x.at j) x.e) ++
      (List.range no).map (fun j => s.ct (R.LOOP_COEF_B l 0) (2 * k + j) ((s.prevU l j).at 0) (s.prevU l j).e) ++
      (List.range no).map (fun j => s.ct (R.LOOP_COEF_L l 0) (2 * k + j) (inn.at j) inn.e)
    s.putStage l (R.LOOP_ST_OBSERVER l 0) 6 (stage ((List.range nx).map row) x.e)

/-! ## INTEGRATOR and FEEDBACK (13 R289 to R291, R294) -/

/-- The errors e_m = r_m − y_m. -/
def State.evError (s : State) (l : Nat) : State :=
  let i := s.vec (R.LOOP_ST_INPUT l 0) 4
  let e := (stage ((List.range (s.lpNio l)).map (fun m => [unit (i.at m) i.e, unit (-(i.at (2 + m))) i.e])) (s.lp l).err.e).v
  s.setLp l { s.lp l with err := e }

/-- Would integration push channel m further into its limit (13 R291)? -/
def State.windup (s : State) (l m : Nat) : Bool :=
  let k := s.mant (R.LOOP_COEF_KI l 0 + 4 + 4 * (2 * m + m)) * s.mant (R.LOOP_COEF_GI l 0 + 4 + 4 * m) * (s.lp l).err.at m
  (decide (0 < k) && s.b (R.LOOP_LP_STAT l) (26 + m)) || (decide (k < 0) && s.b (R.LOOP_LP_STAT l) (24 + m))

/-- The INTEGRATOR stage in AUTO. -/
def State.evIntegrate (s : State) (l : Nat) : State :=
  if s.lpGated l then s
  else
    let x := s.vec (R.LOOP_ST_INTEGRATOR l 0) 2
    let e := (s.lp l).err
    let el (m : Nat) : List Term :=
      if s.windup l m then [unit (x.at m) x.e] else [unit (x.at m) x.e, s.ct (R.LOOP_COEF_GI l 0) m (e.at m) e.e]
    s.putStage l (R.LOOP_ST_INTEGRATOR l 0) 2 (stage ((List.range (s.lpNi l)).map el) x.e)

/-- The LUT gain g for the error (13 R290). -/
def State.lutGain (s : State) (l : Nat) : BF :=
  let e := (s.lp l).err
  let ro := R.LOOP_COEF_E_RANGE l 0
  let rm := s.mant (ro + 4)
  let k := e.e - s.expo ro
  let n0 := e.at 0 * 2 ^ k.toNat * (if rm < 0 then -1 else 1)
  let d0 := (rm.natAbs : Int) * 2 ^ (-k).toNat
  let nd : Int × Int := if rm = 0 then ((Config.errRatio (e.at 0)).toInt, 2 ^ 20) else (n0, d0)
  let d := nd.2
  let p := (clamp (-d) d nd.1 + d) * 16
  let i := (min (fdiv p d) 31).toNat
  let go := R.LOOP_COEF_G l 0
  let g0 := s.mant (go + 4 + 4 * i)
  let g1 := s.mant (go + 4 + 4 * (i + 1))
  let r := ratio24 (g0 * d + (g1 - g0) * (p - i * d)) d
  ⟨r.e + s.expo go - 23, r.m⟩

/-- Terms of v_m but for the integral states. -/
def State.fbTerms (s : State) (l m : Nat) : List Term :=
  let i := s.vec (R.LOOP_ST_INPUT l 0) 4
  if s.lpLut l then
    let g := (s.lp l).gain
    let e := (s.lp l).err
    [s.ct (R.LOOP_COEF_N l 0) 0 (i.at 0) i.e, term (g.at 0) g.e (e.at 0) e.e]
  else
    let x := s.vec (R.LOOP_ST_OBSERVER l 0) 6
    (List.range (s.lpNio l)).map (fun j => s.ct (R.LOOP_COEF_N l 0) (2 * m + j) (i.at j) i.e) ++
      (List.range (s.lpNx l)).map (fun j => s.ct (R.LOOP_COEF_KX l 0) (6 * m + j) (-(x.at j)) x.e)

/-- Terms of v_m from the integral states. -/
def State.kiTerms (s : State) (l m : Nat) : List Term :=
  let x := s.vec (R.LOOP_ST_INTEGRATOR l 0) 2
  (List.range (s.lpNi l)).map (fun j => s.ct (R.LOOP_COEF_KI l 0) (2 * m + j) (x.at j) x.e)

/-- The FEEDBACK stage. -/
def State.evFeedback (s : State) (l : Nat) : State :=
  s.putStage l (R.LOOP_ST_FEEDBACK l 0) 2
    (stage ((List.range (s.lpNio l)).map (fun m => s.fbTerms l m ++ s.kiTerms l m)) (s.expo (R.LOOP_ST_FEEDBACK l 0)))

/-- What the integral states must add to v_m for the raw output held: a quotient, its denominator positive (13 R294). -/
def State.presetGap (s : State) (l m : Nat) : Int × Int :=
  let raw := sword (s.r (R.LOOP_OUT_RAW l m)) - sword (s.r (R.LOOP_OUT_OFS l m))
  let g := sword (s.r (R.LOOP_OUT_GAIN l m))
  let b := (stage [s.fbTerms l m] 0).v
  let base := exact (b.at 0) b.e
  if g = 0 then (exact (Config.unscaled raw).toInt 0 - base, 2 ^ 151)
  else
    let n := raw * 2 ^ 151 - g * base
    if g < 0 then (-n, -g * 2 ^ 151) else (n, g * 2 ^ 151)

/-- A quotient by coefficients of KI, whose exponent is taken out, as an element. -/
def kiQuot (n d ek : Int) : BF :=
  let r := if d < 0 then ratio24 (-n) (-d) else ratio24 n d
  ⟨r.e - ek + 23, r.m⟩

/-- Preset the integral states on entry to AUTO; BUMP where an output could not be preset (13 R294). -/
def State.evPreset (s : State) (l : Nat) : State :=
  let ni := s.lpNi l
  let k (m j : Nat) : Int := s.mant (R.LOOP_COEF_KI l 0 + 4 + 4 * (2 * m + j))
  let ek := s.expo (R.LOOP_COEF_KI l 0)
  let x := s.vec (R.LOOP_ST_INTEGRATOR l 0) 2
  let a := s.presetGap l 0
  let b := s.presetGap l 1
  let det := k 0 0 * k 1 1 - k 0 1 * k 1 0
  -- one state: the other's share is taken off first
  let alone (m : Nat) (g : Int × Int) : BF :=
    let o := 1 - m
    let share := if ni = 2 then k m o * x.at o * 2 ^ (x.e + ek - 46 + 302).toNat else 0
    kiQuot (g.1 * 2 ^ 302 - g.2 * share) (g.2 * 2 ^ 302 * k m m) ek
  let xi : List BF :=
    if ni = 2 ∧ k 0 0 ≠ 0 ∧ k 1 1 ≠ 0 ∧ det ≠ 0 then
      [kiQuot (a.1 * b.2 * k 1 1 - b.1 * a.2 * k 0 1) (a.2 * b.2 * det) ek,
       kiQuot (b.1 * a.2 * k 0 0 - a.1 * b.2 * k 1 0) (a.2 * b.2 * det) ek]
    else
      (List.range ni).map (fun m => if k m m = 0 ∨ (ni = 2 ∧ det = 0 ∧ m = 1) then ⟨x.e, [x.at m]⟩
        else alone m (if m = 0 then a else b))
  let bump := (List.range (s.lpNio l)).any (fun m => decide (ni ≤ m) || k m m == 0 || (ni == 2 && det == 0 && m == 1))
  let s := s.putStage l (R.LOOP_ST_INTEGRATOR l 0) 2 (stage (xi.map (fun v => [unit (v.at 0) v.e])) x.e)
  (s.setLp l { s.lp l with preset := false, uMan := false }).wb (R.LOOP_LP_STAT l) 30 bump

/-! ## OUTPUT and sinks (13 R285) -/

/-- Unclamped raw output m. -/
def State.rawOut (s : State) (l m : Nat) : Int :=
  let v := s.vec (R.LOOP_ST_FEEDBACK l 0) 2
  shr (v.at m * sword (s.r (R.LOOP_OUT_GAIN l m))) (23 - v.e) + sword (s.r (R.LOOP_OUT_OFS l m))

/-- Write a raw output to its sink; a duty outside the sink's range is limited to it. -/
def State.sink (s : State) (l m : Nat) (raw : Int) : State :=
  let s := s.w (R.LOOP_OUT_RAW l m) (wordOf raw)
  let n := s.f (R.LOOP_OUT_SEL l m) 27 16
  match s.f (R.LOOP_OUT_SEL l m) 31 28 with
  | 1 => s.engineDuty n (clamp 0 65535 raw).toNat
  | 2 => (s.engineDuty n (clamp 0 65535 raw).toNat).engineDuty (n + 1) (clamp 0 65535 (-raw)).toNat
  | _ => s

/-- Set SAT_HI and SAT_LO of an output; becoming clamped raises the unit event SAT. -/
def State.setSat (s : State) (l m : Nat) (hi lo : Bool) : State :=
  let was := s.b (R.LOOP_LP_STAT l) (26 + m) || s.b (R.LOOP_LP_STAT l) (24 + m)
  let s := (s.wb (R.LOOP_LP_STAT l) (26 + m) hi).wb (R.LOOP_LP_STAT l) (24 + m) lo
  if (hi || lo) && !was then s.uirq (R.LOOP l 0x040) 3 else s

/-- Clamped raw output m of an AUTO evaluation, with its flags (13 R285). -/
def State.evOutput (s : State) (l m : Nat) : State × Int :=
  let r := s.rawOut l m
  let lo := sword (s.r (R.LOOP_U_MIN l m))
  let hi := sword (s.r (R.LOOP_U_MAX l m))
  (s.setSat l m (decide (hi < r)) (decide (r < lo)), clamp lo hi r)

/-- Channels of a loop. -/
def State.lpOuts (s : State) (l : Nat) : List Nat := List.range (s.lpNio l)

/-- MAN_OUT := SAFE_OUT, or := the present raw outputs. -/
def State.manSafe (s : State) (l : Nat) : State :=
  [0, 1].foldl (fun (s : State) m => s.w (R.LOOP_MAN_OUT l m) (s.r (R.LOOP_SAFE_OUT l m))) s
def State.manHere (s : State) (l : Nat) : State :=
  [0, 1].foldl (fun (s : State) m => s.w (R.LOOP_MAN_OUT l m) (s.r (R.LOOP_OUT_RAW l m))) s

/-- SAFE_OUT to the sinks. -/
def State.sinkSafe (s : State) (l : Nat) : State :=
  (s.lpOuts l).foldl (fun (s : State) m => s.sink l m (sword (s.r (R.LOOP_SAFE_OUT l m)))) s

/-! ## Supervision (13 R297, R298) -/

/-- A condition is detected or clears: its live bit, and at detection its fault, event and record. -/
def State.setLive (s : State) (l k : Nat) (b : Bool) : State := s.wb (R.LOOP_LP_STAT l) (16 + k) b
def State.detect (s : State) (l k : Nat) : State :=
  let fr := R.LOOP l 0x040
  let new := !s.b (R.LOOP_LP_STAT l) (16 + k)
  let s := ((s.uflt fr k).uirq fr k).setLive l k true
  if new then s.evUnit (R.LOOP l 0) k l else s

/-- A mantissa with an exponent word at one offset and its mantissa at another, in 2^-151. -/
def State.limit (s : State) (eo mo : Nat) : Int := exact (s.mant mo) (s.expo eo)

/-- Following error of the sample at `t` (13 R297): new live channels in AUTO, clearing in AUTO and HOLD. -/
def State.supFe (s : State) (l : Nat) (t : DT) : State × Bool :=
  let x := s.lp l
  let ms := s.f (R.LOOP_SUP_TIME l) 15 0
  let eo := R.LOOP_FE_LIMIT l 0
  let big (m : Nat) : Bool := decide (s.limit eo (R.LOOP_FE_LIMIT l (m + 1)) < exact ((x.err.at m).natAbs : Int) x.err.e)
  let on := s.lpSt l == 2 && !s.lpGated l
  let since := [0, 1].map (fun m => if on && big m then some ((x.feSince.getD m none).getD t) else none)
  let hit (m : Nat) : Bool := decide (m < s.lpNio l) && on && ms != 0 && (match since.getD m none with
    | some t0 => decide (max t0 x.autoAt + msDT ms ≤ t)
    | none => false)
  let live (m : Nat) : Bool := hit m || (x.fe.testBit m && (s.lpGated l || big m))
  let fe := (if live 0 then 1 else 0) + (if live 1 then 2 else 0)
  let new := [0, 1].any (fun m => hit m && !x.fe.testBit m)
  let s := s.setLp l { x with fe := fe, feSince := since }
  (if new then s.detect l 0 else s.setLive l 0 (fe != 0), new)

/-- Loss of an input in use, or an uncorrectable error in the loop's state (13 R297, 06 R115). -/
def State.supLoss (s : State) (l : Nat) (ue : Bool) : State × Bool :=
  let x := s.lp l
  let n := max 1 (s.f (R.LOOP_SUP_CFG l) 23 16)
  let hit (d : Nat) : Bool := s.inUsed l d && decide (n ≤ x.bad.getD d 0)
  let live (d : Nat) : Bool := hit d || (x.loss.testBit d && decide (x.okN.getD d 0 < n))
  let m := ((List.range 4).map (fun d => if live d then 2 ^ d else 0)).foldl (· + ·) 0
  let new := (List.range 4).any (fun d => hit d && !x.loss.testBit d) || ue
  let s := s.setLp l { x with loss := m }
  let s := if ue then (s.flt (R.CTLENG 0) 1) else s
  (if new then s.detect l 1 else s.setLive l 1 (m != 0), new)

/-- Samples of a freeze sub-window (13 R297). -/
def State.subLen (s : State) (l : Nat) : Nat :=
  max 1 ((s.f (R.LOOP_SUP_TIME l) 31 16 * 1000 + 8 * s.lpPeriod l - 1) / (8 * s.lpPeriod l))

/-- Add a sample to the running sub-window. -/
def SubWin.add (w : Option SubWin) (y u : Int) : SubWin :=
  match w with
  | none => ⟨y, y, u, u⟩
  | some w => ⟨min w.loY y, max w.hiY y, min w.loU u, max w.hiU u⟩

/-- Do the last eight sub-windows show a frozen measurement under a moving output? -/
def frozen (l : List SubWin) (band drive : Int) : Bool :=
  match l with
  | [] => false
  | w :: t =>
    let a := t.foldl (fun (x : SubWin) v => ⟨min x.loY v.loY, max x.hiY v.hiY, min x.loU v.loU, max x.hiU v.hiU⟩) w
    decide (a.hiY - a.loY < band) && decide (drive < a.hiU - a.loU)

/-- Freeze of a channel (13 R297), on the raw outputs this evaluation formed: detected in AUTO; in the other states the
sub-windows run on so that it can clear. -/
def State.supFrz (s : State) (l : Nat) (us : List Int) : State × Bool :=
  let x := s.lp l
  let off := s.f (R.LOOP_SUP_TIME l) 31 16 == 0
  if off ∨ s.lpGated l = true then
    let s := s.setLp l { x with cnt := 0, cur := [none, none], subs := [[], []], frz := if off then 0 else x.frz }
    (if off then s.setLive l 2 false else s, false)
  else
    let i := s.vec (R.LOOP_ST_INPUT l 0) 4
    let cur := [0, 1].map (fun m => some (SubWin.add (x.cur.getD m none) (exact (i.at (2 + m)) i.e) (us.getD m 0)))
    let full := decide (s.subLen l ≤ x.cnt + 1)
    let subs := [0, 1].map (fun m =>
      let q := x.subs.getD m []
      if full then (match cur.getD m none with | some w => (q.drop (q.length - 7)) ++ [w] | none => q) else q)
    let eight (m : Nat) : Bool := decide ((subs.getD m []).length = 8)
    let fz (m : Nat) : Bool := decide (m < s.lpNio l) &&
      frozen (subs.getD m []) (s.limit (R.LOOP_FREEZE_BAND l 0) (R.LOOP_FREEZE_BAND l (m + 1)))
        (s.r (R.LOOP_FREEZE_DRIVE l m)).toNat
    let hit (m : Nat) : Bool := full && s.lpSt l == 2 && eight m && fz m && !x.frz.testBit m
    let live (m : Nat) : Bool := hit m || (x.frz.testBit m && (fz m || !eight m))
    let frz := (if live 0 then 1 else 0) + (if live 1 then 2 else 0)
    let s := s.setLp l { x with cnt := if full then 0 else x.cnt + 1, cur := if full then [none, none] else cur,
                                subs := subs, frz := frz }
    (if hit 0 || hit 1 then s.detect l 2 else s.setLive l 2 (frz != 0), hit 0 || hit 1)

/-- Action of a condition: 0 NONE, 1 HOLD, 2 MANUAL_SAFE, 3 SAFE (13 R298). -/
def State.supAct (s : State) (l k : Nat) : Nat := s.f (R.LOOP_SUP_CFG l) (31 - 2 * k) (30 - 2 * k)

/-- The most severe action of the conditions detected at a sample acts (13 R298). The package's SAFE entry is the
caller's. -/
def State.supActOn (s : State) (l : Nat) (new : List Nat) : State :=
  let sev := (new.map (fun k => s.supAct l k)).foldl max 0
  let st := s.lpSt l
  if sev = 3 ∧ 1 ≤ st ∧ st ≤ 3 then (s.setLpSt l 4).sinkSafe l
  else if sev = 2 ∧ (st = 2 ∨ st = 3) then ((s.setLpSt l 1).manSafe l).sinkSafe l
  else if sev = 1 ∧ st = 2 then
    let cause := ((new.filter (fun k => s.supAct l k == 1)).map (fun k => 2 ^ k)).foldl (· + ·) 0
    (s.setLpSt l 3).setLp l { s.lp l with cause := cause, clear := none }
  else s

/-- Follow, in HOLD, since when the causing conditions are clear (13 R292). -/
def State.supClear (s : State) (l : Nat) : State :=
  let x := s.lp l
  if s.lpSt l ≠ 3 then s
  else
    let live := (List.range 3).any (fun k => x.cause.testBit k && s.b (R.LOOP_LP_STAT l) (16 + k))
    s.setLp l { x with clear := if live then none else some (x.clear.getD s.dt) }

/-! ## LOOP_MODE (13 R292, R296) -/

/-- Is some condition live? -/
def State.lpLive (s : State) (l : Nat) : Bool := s.f (R.LOOP_LP_STAT l) 18 16 != 0

/-- Does a LOOP_MODE match a row of R292: to 0 OFF, 1 MANUAL, 2 AUTO, by a role? -/
def State.modeFits (s : State) (l to_ role : Nat) : Bool :=
  match s.lpSt l, to_ with
  | 4, 0 | 4, 1 => decide (2 ≤ role) && !s.lpLive l
  | 4, _ => false
  | _, 0 => true
  | 0, 1 => true
  | 1, 2 => (s.mode == 3 || s.mode == 4) && !s.lpLive l
  | 2, 1 | 3, 1 => true
  | _, _ => false

/-- Loops that a loop's LOOP sources name. -/
def State.lpSources (s : State) (l : Nat) : List Nat :=
  ((List.range 4).filter (fun d => s.inUsed l d && s.f (R.LOOP_IN_SEL l d) 31 28 == 8)).map
    (fun d => s.f (R.LOOP_IN_SEL l d) 27 16 / 2)

/-- Loops reached from a list through LOOP sources in at most `n` steps. -/
def State.lpReach (s : State) : Nat → List Nat → List Nat
  | 0, _ => []
  | n + 1, q =>
    let r := (List.range 24).filter (fun k => q.any (fun l => (s.lpSources l).contains k))
    r ++ s.lpReach n r

/-- DETAIL of the first check that fails for a loop that leaves OFF (13 R281, R285, R283). -/
def State.lpFault (s : State) (l : Nat) : Option Nat :=
  if !s.loadFits l (s.r (R.LOOP_LAW l)) (s.lpPeriod l) then some 0x61
  else if (List.range 24).any (fun k => k != l && s.lpSt k != 0 && (s.lpChans k).any (fun u => (s.lpChans l).contains u)) then some 0x62
  else if (s.lpReach 24 [l]).contains l then some 0x63
  else if (List.range 4).any (fun d => s.inUsed l d && s.f (R.LOOP_IN_SEL l d) 31 28 == 6 &&
      oMeter s.tbl (s.f (R.LOOP_IN_SEL l d) 27 16) != 3) then some 0x64
  else none

/-- A loop leaves OFF (13 R292). -/
def State.lpStart (s : State) (l : Nat) : State :=
  let s := (s.setVec (R.LOOP_ST_OBSERVER l 0) 6 ⟨0, []⟩).setVec (R.LOOP_ST_INTEGRATOR l 0) 2 ⟨0, []⟩
  let s := (s.manSafe l).setLpSt l 1
  s.setLp l { LoopSt.reset with last := s.dt }

/-- A loop goes OFF: SAFE_OUT is written once; LOOP_MODEs that wait cannot be met (13 R292). -/
def State.lpOff (s : State) (l : Nat) : State :=
  let s := (if s.lpSt l = 0 then s else s.sinkSafe l).manSafe l
  let s := (s.lp l).cmds.foldl (fun (s : State) e => if e.2 = s.lpSt l then s.ok e.1 0 0 else s.refuse e.1 0x0701 0x12 0) s
  let s := ((s.setLpSt l 0).setLp l LoopSt.reset).w (R.LOOP_LP_STAT l) (s.r (R.LOOP_LP_STAT l) &&& 0xFFFF#32)
  { s with ctl := { s.ctl with queue := s.ctl.queue.filter (fun e => e.2 != l) } }

/-- A LOOP_MODE takes effect at a sample (13 R292). -/
def State.modeAct (s : State) (l : Nat) (c : Cmd) (to_ : Nat) : State :=
  let st := s.lpSt l
  if st = to_ then s.ok c 0 0
  else if !s.modeFits l to_ (s.cmdRole c) then s.refuse c 0x0701 0x12 0
  else if to_ = 2 then
    let x := { s.lp l with
      preset := true, uMan := true, autoAt := s.dt, feSince := [none, none], cnt := 0, cur := [none, none],
      subs := [[], []] }
    ((s.setLpSt l 2).setLp l x).ok c 0 0
  else
    -- MANUAL: from AUTO and HOLD with the present raw output, from SAFE with SAFE_OUT
    let s := if st = 4 then s.manSafe l else s.manHere l
    (s.setLpSt l 1).ok c 0 0

/-- The LOOP_MODEs that wait for a loop's sample act in order. -/
def State.modesAct (s : State) (l : Nat) : State :=
  let q := (s.lp l).cmds
  q.foldl (fun (s : State) e => s.modeAct l e.1 e.2) (s.setLp l { s.lp l with cmds := [] })

/-! ## Evaluation (13 R282, R289, R292) -/

/-- OUTPUT of an evaluation, by the loop's state: the raw outputs formed. -/
def State.formOut (s : State) (l : Nat) : State × List Int :=
  match s.lpSt l with
  | 2 =>
    let a := s.evOutput l 0
    let b := if 1 < s.lpNio l then a.1.evOutput l 1 else (a.1, 0)
    (b.1, [a.2, b.2])
  | 1 => ([0, 1].foldl (fun (s : State) m => s.setSat l m false false) s,
      [0, 1].map (fun m => sword (s.r (R.LOOP_MAN_OUT l m))))
  | 4 => ([0, 1].foldl (fun (s : State) m => s.setSat l m false false) s,
      [0, 1].map (fun m => sword (s.r (R.LOOP_SAFE_OUT l m))))
  | _ => (s, [0, 1].map (fun m => sword (s.r (R.LOOP_OUT_RAW l m))))

/-- The stages of an evaluation up to FEEDBACK. -/
def State.evStages (s : State) (l : Nat) : State :=
  let s := ((s.evInput l).evObserver l).evError l
  if s.lpSt l ≠ 2 then s
  else
    let s := if s.lpLut l then s.setLp l { s.lp l with gain := s.lutGain l } else s
    let s := if (s.lp l).preset then s.evPreset l else s.evIntegrate l
    s.evFeedback l

/-- An evaluation of a loop's sample at `t`; `ue`: its state had an uncorrectable error (13 R289, R292, R297, R298). -/
def State.evaluate (s : State) (l : Nat) (t : DT) (ue : Bool) : State :=
  let s := s.modesAct l
  if s.lpSt l = 0 then s
  else
    let s := s.evStages l
    let st := s.lpSt l
    let (s, us) := s.formOut l
    let (s, a) := s.supFe l t
    let (s, b) := s.supLoss l ue
    let (s, c) := s.supFrz l us
    let s := s.supActOn l ((if a then [0] else []) ++ (if b then [1] else []) ++ (if c then [2] else []))
    let s := if s.lpSt l = st ∧ st ≠ 3 then (s.lpOuts l).foldl (fun (s : State) m => s.sink l m (us.getD m 0)) s else s
    let s := (s.supClear l).inc (R.LOOP_LP_STAT l) 15 0 1
    (s.publish (pubKey l 8 (2 * l))).publish (pubKey l 8 (2 * l + 1))

/-- A loop moves to MANUAL with SAFE_OUT (13 R293). -/
def State.lpToManual (s : State) (l : Nat) : State := ((s.setLpSt l 1).manSafe l).sinkSafe l

/-- Loops at the end of a drain: AUTO and HOLD move to MANUAL; on SAFE entry MANUAL too takes SAFE_OUT (13 R293). -/
def State.loopsOpen (s : State) (safe : Bool) : State :=
  (List.range 24).foldl (fun (s : State) l =>
    if s.lpSt l = 2 ∨ s.lpSt l = 3 ∨ (safe = true ∧ s.lpSt l = 1) then s.lpToManual l else s) s

/-- Is some loop in SAFE: the cause LOOP_SAFE lasts (13 R293)? -/
def State.anyLoopSafe (s : State) : Bool := (List.range 24).any (fun l => s.lpSt l == 4)

/-! ## Trace (13 R299) -/

/-- A vector's element as a trace word: mantissa and exponent. -/
def bfWord (v : BF) (j : Nat) : Word := wordOf (v.at j * 256 + (ofSigned 8 v.e : Int))

/-- Probe word of a node (13 R299). -/
def State.probeWord (s : State) (p : Nat) : Word :=
  let w := s.r (R.TRACE_PROBE p)
  let l := fld w 28 24
  let el := fld w 7 0
  let v (o n : Nat) : Word := if el < n then bfWord (s.vec o n) el else 0
  if 24 ≤ l then 0
  else
    match fld w 15 8 with
    | 0 => v (R.LOOP_ST_INPUT l 0) 4
    | 1 => v (R.LOOP_ST_OBSERVER l 0) 6
    | 2 => v (R.LOOP_ST_INTEGRATOR l 0) 2
    | 3 => v (R.LOOP_ST_FEEDBACK l 0) 2
    | 4 => if el < 2 then bfWord (s.lp l).err el else 0
    | 5 => (match el with
      | 0 => s.r (R.LOOP_ST_INPUT l 0)
      | 1 => s.r (R.LOOP_ST_OBSERVER l 0)
      | 2 => s.r (R.LOOP_ST_INTEGRATOR l 0)
      | 3 | 4 => s.r (R.LOOP_ST_FEEDBACK l 0)
      | _ => 0)
    | 6 => if el < 2 then s.r (R.LOOP_OUT_RAW l el) else 0
    | 7 => if el = 0 then bfWord (s.lp l).gain 0 else 0
    | 8 => if el = 0 then putBit (s.r (R.LOOP_LP_STAT l)) 31 (s.lpSt l != 0 && s.lpGated l) else 0
    | _ => 0

/-- A trace word as a value in 2^-151, by its node. -/
def probeVal (node : Nat) (w : Word) : Int :=
  match node with
  | 5 => toSigned 8 (fld w 7 0) * 2 ^ 151
  | 6 => sword w * 2 ^ 151
  | 8 => (w.toNat : Int) * 2 ^ 151
  | _ => exact (fdiv (sword w) 256) (toSigned 8 (fld w 7 0))

/-- STATE of the trace: 0 IDLE, 1 ARMED, 2 TRIGGERED, 3 DONE. -/
def State.trSt (s : State) : Nat := s.f R.TRACE_STAT 31 28

/-- Samples the trace RAM holds. -/
def State.trCap (s : State) : Nat := 65536 / (s.f R.TRACE_CFG 20 16 + 1)

/-- The trace is DONE: source 228. -/
def State.trDone (s : State) : State := (s.wf R.TRACE_STAT 31 28 3).irq (R.TRACE 0) 0

/-- The trace triggers: POST samples follow. -/
def State.trTrigger (s : State) : State :=
  let s := (s.wf R.TRACE_STAT 31 28 2).wf R.TRACE_TRIG_POS 15 0 s.ctl.trace.length
  let s := { s with ctl := { s.ctl with post := s.f R.TRACE_DEPTH 31 16 } }
  if s.f R.TRACE_DEPTH 31 16 = 0 then s.trDone else s

/-- A write of CTRL.ARM. -/
def State.traceArm (s : State) : State :=
  let n := s.f R.TRACE_CFG 20 16
  if n = 0 ∨ 16 < n ∨ s.trCap < s.f R.TRACE_DEPTH 15 0 + s.f R.TRACE_DEPTH 31 16 then s.flt (R.TRACE 0) 0
  else
    let s := { s with ctl := { s.ctl with trace := [], post := 0, prev := none,
                                          events := s.f (R.LOOP (s.f R.TRACE_TRIG 20 16) 0x048) 7 0 } }
    (s.w R.TRACE_STAT 0x10000000#32).w R.TRACE_TRIG_POS 0

/-- A write of CTRL.FORCE: triggers at once. -/
def State.traceForce (s : State) : State := if s.trSt = 1 then s.trTrigger else s

/-- A write of CTRL.STOP: DONE with what it holds. -/
def State.traceStop (s : State) : State := if s.trSt = 1 ∨ s.trSt = 2 then s.trDone else s

/-- Does the trigger's condition hold at this sample (13 R299)? -/
def State.trHit (s : State) (now : Int) (ev : Nat) : Bool :=
  let th := exact (fdiv (sword (s.r R.TRACE_THRESH)) 256) (toSigned 8 (s.f R.TRACE_THRESH 7 0))
  let rise := match s.ctl.prev with | some p => decide (p < th) && decide (th ≤ now) | none => false
  let fall := match s.ctl.prev with | some p => decide (th ≤ p) && decide (now < th) | none => false
  match s.f R.TRACE_TRIG 31 28 with
  | 1 => rise
  | 2 => fall
  | 3 => rise || fall
  | 4 => (bitsSet 8 ev).any (fun i => !s.ctl.events.testBit i && s.b R.TRACE_TRIG i)
  | _ => false

/-- Record a sample; before the trigger only the newest PRE samples are kept. -/
def State.trRecord (s : State) : State :=
  let n := s.f R.TRACE_CFG 20 16
  let w := nw (ticks s.dt) :: (List.range n).map (fun k => s.probeWord k)
  let q := s.ctl.trace ++ [w]
  let q := if s.trSt = 1 then q.drop (q.length - s.f R.TRACE_DEPTH 15 0) else q
  ({ s with ctl := { s.ctl with trace := q } }).wf R.TRACE_STAT 15 0 q.length

/-- A sample after the trigger: one less to take. -/
def State.trCount (s : State) : State :=
  let k := s.ctl.post - 1
  let s := { s with ctl := { s.ctl with post := k } }
  if k = 0 then s.trDone else s

/-- Note the compared value and the event bits of a sample. -/
def State.trNote (s : State) (now : Int) (ev : Nat) : State := { s with ctl := { s.ctl with prev := some now, events := ev } }

/-- Event bits of the trigger's loop. -/
def State.trEvents (s : State) : Nat := s.f (R.LOOP (min 23 (s.f R.TRACE_TRIG 20 16)) 0x048) 7 0

/-- Value of the probe the trigger compares. -/
def State.trValue (s : State) : Int :=
  let p := s.f R.TRACE_TRIG 27 24
  probeVal (s.f (R.TRACE_PROBE p) 15 8) (s.probeWord p)

/-- One sample of the trace, after an evaluation of CLOCK_LOOP (13 R299). -/
def State.traceSample (s : State) : State :=
  if s.trSt = 1 ∨ s.trSt = 2 then
    let fire := s.trSt == 1 && decide (s.f R.TRACE_DEPTH 15 0 ≤ s.ctl.trace.length) && s.trHit s.trValue s.trEvents
    let s' := (if fire then s.trTrigger else s).trNote s.trValue s.trEvents
    if s'.trSt = 3 then s'
    else if s'.trSt = 2 then s'.trRecord.trCount
    else s'.trRecord
  else s

/-! ## Coefficient images (13 R295, R296) -/

/-- Is a word of the coefficient region wrong: reserved code, field out of range, bits that must be 0 (13 R283 to R290,
R300)? `o` is the page offset, `w` the words of the region by page offset. -/
def coefBad (w : Nat → Word) (o : Nat) : Bool :=
  let v := w o
  let code := fld v 31 28
  let idx := fld v 27 16
  let low := fld v 15 0
  let nio := if fld (w 0x200) 31 30 = 1 then 1 else fld (w 0x200) 9 8
  if o < 0x180 then
    match (o - 0x100) % 0x20 / 4 with
    | 0 => decide (8 < code) || low != 0 || !(match code with
        | 0 => idx == 0 | 1 => decide (idx < 16) | 2 => decide (idx < 12) | 6 => decide (idx < 1024) | 8 => decide (idx < 48)
        | _ => decide (idx < 4))
    | 5 => fld v 31 16 != 0
    | 6 | 7 => v != 0
    | _ => false
  else if o < 0x1C0 then
    match (o - 0x180) % 0x20 / 4 with
    | 0 => decide (2 < code) || low != 0 || (code == 1 && decide (48 ≤ idx)) || (code == 2 && (decide (46 < idx) || idx % 2 == 1)) ||
        (code == 0 && idx != 0)
    | 3 | 4 => decide ((o - 0x180) / 0x20 < nio) && decide (sword (w ((o - 0x180) / 0x20 * 0x20 + 0x190)) ≤ sword (w ((o - 0x180) / 0x20 * 0x20 + 0x18C)))
    | 6 | 7 => v != 0
    | _ => false
  else if o = 0x1C0 then fld v 23 16 == 0 || bit v 24
  else if o = 0x200 then
    fld v 29 19 != 0 || fld v 15 14 != 0 || fld v 11 10 != 0 || fld v 7 0 != 0 || (match fld v 31 30 with
      | 0 => !(decide (1 ≤ fld v 18 16) && decide (fld v 18 16 ≤ 6) && decide (1 ≤ fld v 9 8) && decide (fld v 9 8 ≤ 2) &&
          decide (fld v 13 12 ≤ fld v 9 8))
      | 1 => !(fld v 18 16 == 0 && fld v 9 8 == 1 && decide (fld v 13 12 ≤ 1))
      | _ => true)
  else false

end Sys2Proof.Machine
end

