-- ==== Sys2Proof/Machine/GnssOps.lean ====
section
/-!
DEFINITION. The RF link, tracking channels and searches of the GNSS baseband (16) as shared operations.
-/
namespace Sys2Proof.Machine

/-! ## Signals (16 R338, R342) -/

/-- Signals of the L5 chain. -/
def sigL5 (g : Nat) : Bool := g == 2 || g == 4 || g == 6 || g == 8

/-- Signals whose code comes from code memory. -/
def sigMem (g : Nat) : Bool := g == 1 || g == 3 || g == 5

/-- Signals a search may look for. -/
def sigSearch (g : Nat) : Bool := g == 0 || g == 2 || g == 4 || g == 6 || g == 7 || g == 8 || g == 9

/-- Is a PRN in a signal's range? -/
def prnOk (g p : Nat) : Bool :=
  match g with
  | 3 | 4 => decide (1 ≤ p) && decide (p ≤ 50)
  | 7 | 8 => decide (193 ≤ p) && decide (p ≤ 202)
  | 9 => decide (120 ≤ p) && decide (p ≤ 158)
  | _ => decide (1 ≤ p) && decide (p ≤ 63)

/-- Primary period in ms. -/
def sigMs (g : Nat) : Nat := match g with | 1 | 5 => 10 | 3 => 4 | _ => 1

/-- Primary length in chips. -/
def sigChips (g : Nat) : Nat := match g with | 0 | 7 | 9 => 1023 | 3 => 4092 | _ => 10230

/-- Secondary length for a replica (0 DATA, 1 PILOT, 2 COMBINED); 1 where none is wiped. -/
def secLen (g rep : Nat) : Nat :=
  match g, rep with
  | 2, 0 | 8, 0 => 10
  | 2, _ | 8, _ => 20
  | 3, 0 => 1
  | 3, _ => 25
  | 4, 0 => 20
  | 4, _ => 100
  | 6, 0 => 5
  | 6, _ => 100
  | _, _ => 1

/-- Is a channel's configuration valid (16 R347)? -/
def State.gchValid (s : State) (u : Nat) : Bool :=
  let c := s.r (R.GCH_CH_CFG u)
  let g := fld c 31 28
  let rep := fld c 18 17
  let coh := fld c 14 8
  let tap (o hi lo : Nat) : Int := toSigned 9 (s.f o hi lo)
  let ve := tap (R.GCH_CH_TAPS0 u) 24 16
  let vl := tap (R.GCH_CH_TAPS0 u) 8 0
  let e := tap (R.GCH_CH_TAPS1 u) 24 16
  let l := tap (R.GCH_CH_TAPS1 u) 8 0
  let m1 := tap (R.GCH_CH_TAPS2 u) 24 16
  let m2 := tap (R.GCH_CH_TAPS2 u) 8 0
  decide (g ≤ 9) && prnOk g (fld c 27 20) && decide (rep ≤ 2) && (rep == 0 || !(g == 0 || g == 7 || g == 9)) &&
    (!bit c 16 || decide (1 < secLen g rep)) &&
    decide (1 ≤ coh) && decide (coh ≤ 100) && coh % sigMs g == 0 &&
    decide (ve < e) && decide (e < 0) && decide (0 < l) && decide (l < vl) && decide (4 ≤ l - e) && decide (l - e ≤ 64) &&
    decide (m1.natAbs ≤ 128) && decide (m2.natAbs ≤ 128) && decide (s.f (R.GCH_CODE_PH_HI u) 13 0 < sigChips g)

/-! ## Samples (16 R340) -/

def State.gch (s : State) (u : Nat) : GChan := SMap.get (fun _ => GChan.reset) s.gnss.chans u
def State.setGch (s : State) (u : Nat) (c : GChan) : State :=
  { s with gnss := { s.gnss with chans := SMap.put (fun _ => GChan.reset) s.gnss.chans u c } }

/-- DT of sample n, rounded to the nearest DT unit. -/
def State.sampleAt (s : State) (n : Nat) : DT := s.r64 R.RFCTL_SAMPLE0_DT_LO + (2 * n * 1280000 + 3069) / (2 * 3069)

/-- First sample at or after a DT. -/
def State.sampleFrom (s : State) (t : DT) : Nat := ((t - s.r64 R.RFCTL_SAMPLE0_DT_LO) * 3069 + 1279999) / 1280000

/-! ## Channel states (16 R346) -/

/-- STATE: 0 OFF, 1 ARMED, 2 RUN, 3 HOLD, 4 ERROR. -/
def State.gchSt (s : State) (u : Nat) : Nat := s.f (R.GCH_U u 0x04) 7 0

def State.setGchSt (s : State) (u st : Nat) : State :=
  if s.gchSt u = st then s else (s.w (R.GCH_U u 0x04) (unitState [0] st)).uirq (R.GCH_U u 0) 5

/-- Latch a channel's fault with its event. -/
def State.gchFlt (s : State) (u k : Nat) : State := (s.uflt (R.GCH_U u 0) k).uirq (R.GCH_U u 0) k

/-- The chain a channel's samples come from. -/
def State.gchChain (s : State) (u : Nat) : Nat :=
  2 * s.f (R.GCH_CH_CFG u) 19 19 + (if sigL5 (s.f (R.GCH_CH_CFG u) 31 28) then 1 else 0)

/-- May a channel accumulate: its chain present, the island in RUN? -/
def State.gchFed (s : State) (u : Nat) : Bool := s.b R.RFCTL_CHAIN_STAT (s.gchChain u) && s.f R.CLOCK_ISL_STAT 9 8 == 0

/-- The NCOs advance by `n` samples (16 R342). -/
def State.gchAdvance (s : State) (u : Nat) (c : GChan) (n : Nat) : GChan :=
  let g := s.f (R.GCH_CH_CFG u) 31 28
  let len := sigChips g * 2 ^ 32
  let p := c.code + c.rate * n
  { c with carr := c.carr + c.freq * n, code := p % len,
           sec := (c.sec + p / len) % secLen g (s.f (R.GCH_CH_CFG u) 18 17), n0 := c.n0 + n }

/-- Buffers in use on a channel's page change. -/
def State.setBufs (s : State) (u : Nat) (add sub : Nat) : State :=
  s.wf (R.GCH_PORT_STAT (u / 8)) 2 0 (s.f (R.GCH_PORT_STAT (u / 8)) 2 0 + add - sub)

/-- A channel reaches OFF: buffers are released. -/
def State.gchOff (s : State) (u : Nat) : State :=
  let c := s.gch u
  (((s.setBufs u 0 c.bufs).setGch u GChan.reset).wb (R.GCH_CH_STAT u) 30 false).setGchSt u 0

/-- Stream buffers a configuration needs (16 R345). -/
def State.gchBufs (s : State) (u : Nat) : Nat :=
  if sigMem (s.f (R.GCH_CH_CFG u) 31 28) then (if s.f (R.GCH_CH_CFG u) 18 17 = 2 then 2 else 1) else 0

/-- START of a channel (16 R345 to R347). -/
def State.gchStart (s : State) (u : Nat) : State :=
  if s.gchSt u ≠ 0 then s
  else if !s.gchValid u then s.gchFlt u 3
  else
    let n := s.gchBufs u
    if 4 < s.f (R.GCH_PORT_STAT (u / 8)) 2 0 + n then s.gchFlt u 2
    else
      let t := s.r64 (R.GCH_START_LO u) / 256 * 256
      let late := decide (t < s.dt + usDT 2)
      let hi := s.r (R.GCH_CODE_PH_HI u)
      let c : GChan := { GChan.reset with
        freq := sword (s.r (R.GCH_CARR_FREQ u)), rate := (s.r (R.GCH_CODE_RATE u)).toNat,
        coh := s.f (R.GCH_CH_CFG u) 14 8,
        code := fld hi 13 0 * 2 ^ 32 + (s.r (R.GCH_CODE_PH_LO u)).toNat, sec := fld hi 31 24, bufs := n,
        startAt := if late then s.dt + usDT 2 else t }
      (((s.setBufs u n 0).setGch u c).wb (R.GCH_CH_STAT u) 31 late).setGchSt u 1

/-- STOP of a channel. -/
def State.gchStop (s : State) (u : Nat) : State := if s.gchSt u = 0 then s else s.gchOff u

/-- UPDATE of a channel in RUN (16 R347). -/
def State.gchUpdate (s : State) (u : Nat) : State :=
  if s.gchSt u ≠ 2 ∧ s.gchSt u ≠ 3 then s
  else if !s.gchValid u then s.gchFlt u 3
  else (s.setGch u { s.gch u with upd := some s.dt }).wb (R.GCH_CH_STAT u) 30 true

/-- A write of CH_CTRL. -/
def State.gchCtrl (s : State) (u : Nat) (v : Word) : State :=
  let s := if bit v 1 then s.gchStop u else s
  let s := if bit v 0 then s.gchStart u else s
  if bit v 2 then s.gchUpdate u else s

/-- ARMED becomes RUN at the first sample at or after its start. -/
def State.gchRun (s : State) (u : Nat) : State :=
  let c := s.gch u
  let s := (s.setGch u { c with n0 := s.sampleFrom c.startAt }).setGchSt u 2
  if s.gchFed u then s else s.setGchSt u 3

/-- Channels follow the presence of their chains and the island's clock: RUN to HOLD, HOLD to RUN (16 R346). -/
def State.gchFollow (s : State) (u : Nat) : State :=
  if s.gchSt u = 2 ∧ s.gchFed u = false then s.setGchSt u 3
  else if s.gchSt u = 3 ∧ s.gchFed u = true then
    let c := s.gch u
    let n := s.sampleFrom s.dt
    (s.setGch u { s.gchAdvance u c (n - c.n0) with gap := true }).setGchSt u 2
  else s

/-- Channels that are not OFF. -/
def State.gchLive (s : State) : List Nat := s.gnss.chans.map (·.1)

/-- The newest dump of a channel, from the accumulators of the interval (16 R344, R348). -/
def State.gchDump (s : State) (u : Nat) (acc : List Int) : State :=
  let c := s.gch u
  let n := c.coh * 61380
  let d := s.gchAdvance u c n
  let t := s.sampleAt d.n0
  let ovf := acc.any (fun a => decide (2 ^ 31 - 1 < a.natAbs))
  let sat (a : Int) : Int := clamp (-(2 ^ 31 - 1)) (2 ^ 31 - 1) a
  let s := (s.w64 (R.GCH_DMP_DT_LO u) t).ws (R.GCH_DMP_CODE_LO u)
    ([nw (d.code % 2 ^ 32), nw (d.sec * 2 ^ 24 + d.code / 2 ^ 32), wordOf (fdiv d.carr (2 ^ 32)), wordOf d.carr] ++
      (List.range 14).map (fun i => wordOf (sat (acc.getD i 0))))
  let s := s.w (R.GCH_DMP_FLAGS u) (nw ((s.f (R.GCH_DMP_FLAGS u) 31 16 + 1) % 2 ^ 16 * 2 ^ 16 + (if ovf then 4 else 0) +
    (if c.gap then 2 else 0) + (if c.applied then 1 else 0)))
  let s := (s.inc (R.GCH_CH_STAT u) 15 0 1).uirq (R.GCH_U u 0) 0
  let s := if ovf then s.gchFlt u 1 else s
  -- an update that landed 2 µs before the end transfers now
  let due := match d.upd with | some x => decide (x + usDT 2 ≤ t) | none => false
  let d := { d with gap := false, applied := due }
  if due then
    (s.setGch u { d with upd := none, freq := sword (s.r (R.GCH_CARR_FREQ u)), rate := (s.r (R.GCH_CODE_RATE u)).toNat,
                         coh := s.f (R.GCH_CH_CFG u) 14 8 }).wb (R.GCH_CH_STAT u) 30 false
  else s.setGch u d

/-- Words of a channel's dump record (16 R348). -/
def dumpWords : Nat := 21

/-! ## Ownership (16 R349) -/

/-- Is a channel host-owned? -/
def State.gchHost (s : State) (u : Nat) : Bool := s.b (R.GCH_CL_OWN (u / 8)) (u % 8)

/-- A write of CL_OWN: channels that change hands are stopped; observations of host-owned channels read 0. -/
def State.ownWrite (s : State) (p : Nat) (v : Word) : State :=
  let old := s.r (R.GCH_CL_OWN p)
  let s := s.w (R.GCH_CL_OWN p) (v &&& 0xFF#32)
  (List.range 8).foldl (fun (s : State) k =>
    let u := 8 * p + k
    if bit old k = bit v k then s
    else
      let s := if s.gchSt u = 0 then s else s.gchOff u
      (List.range 9).foldl (fun (s : State) j => s.w (R.GCH_OBS u j) 0) s) s

/-! ## Searches (16 R351 to R353) -/

def State.gctx (s : State) (x : Nat) : GCtx := s.gnss.ctx.getD x GCtx.reset
def State.setGctx (s : State) (x : Nat) (c : GCtx) : State := { s with gnss := { s.gnss with ctx := s.gnss.ctx.set x c } }

/-- PHASE: 0 IDLE, 1 WAIT_SLOTS, 2 CAPTURE, 3 SEARCH, 4 DONE. -/
def State.ctxPhase (s : State) (x : Nat) : Nat := s.f (R.ACQ_CTX_STAT x) 3 0

/-- Capture slots in use follow the phases. -/
def State.noteSlots (s : State) : State :=
  let used := ((List.range 4).map (fun x => if s.ctxPhase x = 2 ∨ s.ctxPhase x = 3 then (s.gctx x).nsum else 0)).foldl (· + ·) 0
  s.wf R.ACQ_STAT 6 0 (64 - used)

def State.setPhase (s : State) (x p : Nat) : State := (s.wf (R.ACQ_CTX_STAT x) 3 0 p).noteSlots

/-- A chain is absent: captures restart, channels hold (16 R352, R346). -/
def State.ctxGap (s : State) : State :=
  (List.range 4).foldl (fun (s : State) x =>
    if s.ctxPhase x = 2 ∧ s.b R.RFCTL_CHAIN_STAT (s.gctx x).chain = false then s.setPhase x 1 else s) s

/-- The context of a job. -/
def State.jobCtx (s : State) (j : Nat) : Option Nat :=
  (List.range 4).find? (fun x => decide ((s.gctx x).job = some j))

/-- Give a search job a context at its acceptance (16 R351): parameters at bytes 12 to 21 of the START. -/
def State.ctxTake (s : State) (j x sig prn ant nsum : Nat) (centre : Int) (span : Nat) : State :=
  let c : GCtx := { GCtx.reset with
    job := some j, nsum := nsum, centre := centre, span := span, chain := 2 * ant + (if sigL5 sig then 1 else 0),
    tenfold := sigL5 sig }
  let s := (s.setGctx x c).wb R.ACQ_STAT (8 + x) true
  let s := s.w (R.ACQ_CTX_STAT x) (nw (s.f (R.JOBS_JOB_STAT j) 31 24 * 2 ^ 24 + sig * 2 ^ 20 + prn * 2 ^ 12))
  let s := s.w (R.ACQ_CTX_BINS x) (nw ((2 * (span / 500) + 1) * 65536))
  (s.w64 (R.ACQ_CTX_CAP_DT_LO x) 0).w (R.ACQRES_CTX_SUM x) 0

/-- A free context. -/
def State.freeCtx (s : State) : Option Nat := (List.range 4).find? (fun x => (s.gctx x).job.isNone)

/-- A search leaves its context; results stay (16 R353). -/
def State.ctxFree (s : State) (x phase : Nat) : State :=
  ((s.setGctx x { s.gctx x with job := none }).wb R.ACQ_STAT (8 + x) false).setPhase x phase

/-- Bins of a search, searched so far; metrics and peaks in the summary (16 R352, R353). -/
def State.ctxSum (s : State) (x : Nat) (partialBit : Bool) : State :=
  let c := s.gctx x
  let best := (c.peaks.map (·.metric)).foldl max 0
  let bins := s.f (R.ACQ_CTX_BINS x) 15 0
  let re := s.b (R.ACQRES_CTX_SUM x) 29
  s.w (R.ACQRES_CTX_SUM x) (nw ((if partialBit then 2 ^ 31 else 0) +
    (if s.f R.ACQ_CFG 15 0 ≤ best then 2 ^ 30 else 0) + (if re then 2 ^ 29 else 0) + c.peaks.length * 2 ^ 16 + bins))

/-- Keep the four strongest of the cells, none within ±2 code samples and ±1 bin of a stronger one (16 R352). -/
def keepPeaks : List Peak → List Peak → List Peak
  | [], kept => kept
  | p :: t, kept =>
    let near := kept.any (fun k =>
      let d := (p.cell + 16368 - k.cell) % 16368
      decide (min d (16368 - d) ≤ 2) && decide ((p.bin - k.bin).natAbs ≤ 1))
    keepPeaks t (if near || decide (4 ≤ kept.length) then kept else kept ++ [p])

/-- Strongest first. -/
def sortPeaks (l : List Peak) : List Peak := sortKey (fun p => 0xFFFF - min p.metric 0xFFFF) l

/-- Words of peak `rank` of a context; 0 for an invalid rank. -/
def State.peakWords (s : State) (x rank : Nat) : List Word :=
  let c := s.gctx x
  match c.peaks[rank]? with
  | some p => [nw (p.cell * (if c.tenfold then 10 else 1)), wordOf (c.centre + 500 * p.bin), nw (min p.metric 0xFFFF), nw (ticks p.cap)]
  | none => [0, 0, 0, 0]

/-- A bin-block cell of a search completes; at the last block of a bin the cells found there are kept, at the last bin the
search is DONE (16 R352, R353). -/
def State.searchCell (s : State) (x j : Nat) (found : List (Nat × Nat)) : State :=
  let c := s.gctx x
  if c.block + 1 < c.nsum then s.setGctx x { c with block := c.block + 1 }
  else
    let done_ := s.f (R.ACQ_CTX_BINS x) 15 0
    let total := s.f (R.ACQ_CTX_BINS x) 31 16
    let bin : Int := (done_ : Int) - (c.span / 500 : Nat)
    let new := found.map (fun f => Peak.mk (min f.2 0xFFFF) bin (f.1 % 16368) c.cap)
    let s := s.setGctx x { c with block := 0, peaks := keepPeaks (sortPeaks (c.peaks ++ new)) [] }
    let s := (s.wf (R.ACQ_CTX_BINS x) 15 0 (done_ + 1)).jobProgress j (100 * (done_ + 1) / max 1 total)
    if done_ + 1 < total then s
    else
      let best := ((s.gctx x).peaks.map (·.metric)).foldl max 0
      let s := ((s.ctxSum x false).ctxFree x 4).irq (R.ACQ 0) x
      s.jobDone j (nw ((if s.f R.ACQ_CFG 15 0 ≤ best then 2 ^ 31 else 0) + x * 65536 + total)) (nw best)

/-- A search is suspended: its slots are released; resumed, it captures afresh (16 R353). -/
def State.ctxSuspend (s : State) (x : Nat) : State :=
  let started := s.ctxPhase x == 2 || s.ctxPhase x == 3
  let s := (s.setGctx x { s.gctx x with block := 0 }).setPhase x 1
  if started then s.wb (R.ACQRES_CTX_SUM x) 29 true else s

/-- A search is cancelled: the completed bins' peaks stay with PARTIAL = 1. -/
def State.ctxCancel (s : State) (x : Nat) : State := (s.ctxSum x true).ctxFree x 0

/-- A search failed. -/
def State.searchFail (s : State) (x j detail : Nat) : State := ((s.ctxSum x true).ctxFree x 0).jobFail j detail

/-! ## Link, chains, antennas (16 R339 to R341, 01 R19) -/

/-- The RF die is hot (04 R81). -/
def State.rfHot (s : State) : Bool := s.pkg.hot.getD 2 false

/-- Chains that deliver samples. -/
def State.chainsNow (s : State) : Nat := if s.gnss.link && !s.rfHot then s.f R.RFCTL_CHAIN_CFG 3 0 else 0

/-- CHAIN_STAT follows the link, the die and CHAIN_CFG; channels and captures follow it. -/
def State.followChains (s : State) : State :=
  let now := s.chainsNow
  let old := s.f R.RFCTL_CHAIN_STAT 3 0
  let gone := (List.range 4).map (fun k =>
    if now.testBit k then none else some ((s.gnss.gone.getD k none).getD s.dt))
  let s := { s with gnss := { s.gnss with gone := gone } }
  let s := if now = old then s else (s.wf R.RFCTL_CHAIN_STAT 3 0 now).irq (R.RFCTL 0) 1
  let s := s.ctxGap
  s.gchLive.foldl (fun (s : State) u => s.gchFollow u) s

/-- The sample link carries no valid frame for 1 ms (01 R19). -/
def State.linkLoss (s : State) : State :=
  let s := { s with gnss := { s.gnss with link := false } }
  let s := (s.flt (R.RFCTL 0) 4).satInc R.RFCTL_LINK_STAT 15 0 1
  s.followChains

/-- The link carries frames: SAMPLE0_DT at the first since the die's release (16 R340). -/
def State.linkReturn (s : State) : State :=
  let s := if s.gnss.seen then s else s.w64 R.RFCTL_SAMPLE0_DT_LO s.dt
  ({ s with gnss := { s.gnss with link := true, seen := true } }).followChains

/-- Bits of an antenna in ANT_STAT. -/
def State.antSt (s : State) (a : Nat) : Nat := s.f R.RFCTL_ANT_STAT (15 + 16 * a) (14 + 16 * a)

/-- A state change of an antenna: OFF 0, OK 1, OPEN 2, SHORT 3. -/
def State.setAnt (s : State) (a st : Nat) : State :=
  if s.antSt a = st then s else (s.wf R.RFCTL_ANT_STAT (15 + 16 * a) (14 + 16 * a) st).irq (R.RFCTL 0) 0

/-- Note a bias current in 0.1 mA. -/
def State.setBias (s : State) (a cur : Nat) : State := s.wf R.RFCTL_ANT_STAT (11 + 16 * a) (16 * a) cur

/-- Bias follows ANT_CFG: BIAS_EN = 0 is OFF and ends a short; 1 turns it on from OFF (16 R341). -/
def State.antFollow (s : State) : State :=
  [0, 1].foldl (fun (s : State) a =>
    if !s.b R.RFCTL_ANT_CFG (8 * a) then
      ({ s with gnss := { s.gnss with cut := s.gnss.cut.set a none } }).setAnt a 0
    else if s.antSt a = 0 then s.setAnt a 1 else s) s

/-! ## The island (02 R37, 16 R346, R356) -/

/-- The GNSS island goes to GATE, or the package is reset: every channel OFF, contexts idle. Antenna retries last for the
power cycle. -/
def State.gnssOff (s : State) : State :=
  { s with gnss := { Gnss.reset with link := s.gnss.link, seen := s.gnss.seen, retries := s.gnss.retries } }

end Sys2Proof.Machine
end

