-- ==== Sys2Proof/Machine/LookCmds.lean ====
section
/-!
DEFINITION. The meanings of the look-ahead pipeline's commands and events beside the frame: table switches, remote outlets,
external decision and the retire writer (09, 12 R276, 18 R376 to R383).
-/
namespace Sys2Proof.Machine

/-! ## Table switches (09 R192) -/

/-- OUTLET_SWITCH (09 R192): the checks, then the staged set is captured for the next frame boundary. -/
def execOutletSwitch (c : Cmd) (s : State) : Host.Outcome State Fault Refusal :=
  let k := { CmdSpec.mk' 0x0501 2 2 (c.badArg [] []) (!(decide (1 ≤ s.mode) && decide (s.mode ≤ 4))) with
    busy := s.b R.OUTLETWIN_SW_STAT 1 || s.look.captured.isSome }
  match s.tableFault s.look.staged with
  | some (d, x) => done (s.runCmdAs c k 0x20 (nw x) 0 (fun s => s.reply c 0x20 0 d (nw x) 0))
  | none => done (s.runCmd c k (fun s => { s with look := { s.look with captured := some (s.look.staged, c) } }.chg (R.OUTLETWIN 0)))

/-- OUTLET_REVERT (09 R192). -/
def execOutletRevert (c : Cmd) (s : State) : Host.Outcome State Fault Refusal :=
  done (s.runCmd c (CmdSpec.mk' 0x0502 2 2 (c.badArg [] []) (!(decide (1 ≤ s.mode) && decide (s.mode ≤ 4)))) (fun s =>
    let s := ({ s with look := { s.look with staged := s.look.active } }).noteStaged
    (s.chg (R.OUTLETWIN 0)).ok c 0 0))

/-! ## Remote outlets (09 R207, R208; 18 R376, R378, R383) -/

/-- Can an ISO 11783 bus send application messages (18 R373, R376)? -/
def State.canSends (s : State) (b : Nat) : Bool :=
  s.b (R.CAN_CAN_CFG b) 31 && !s.b (R.CAN_CAN_CFG b) 30 && s.b (R.CAN_CAN_ADDR b) 16 && s.f (R.CAN_CAN_STAT b) 1 0 != 2

/-- Can an Ethernet port send remote commands (18 R381, R383)? -/
def State.ethSends (s : State) (p : Nat) : Bool :=
  s.b (R.ETH_ETH_CFG p) 31 && s.f (R.ETH_ETH_STAT p) 1 0 != 0 && s.b (R.ETH_PTP_STAT p) 0

/-- Can the path of a remote record send (09 R207)? -/
def State.pathSends (s : State) (path : Nat) : Bool :=
  match path with
  | 0 | 1 => s.canSends path
  | 2 | 3 => s.ethSends (path - 2)
  | _ => false

/-- 802.1AS time of a port at an own DT, and back (18 R382). -/
def State.ptpNs (s : State) (p : Nat) (t : DT) : Int :=
  match s.comm.ptp.getD p none with
  | some (t0, ns, _) => ns + fdiv (((t : Int) - t0) * 10) 256
  | none => 0
def State.ptpDT (s : State) (p : Nat) (ns : Int) : DT :=
  match s.comm.ptp.getD p none with
  | some (t0, n0, _) => ((t0 : Int) + fdiv ((ns - n0) * 256) 10).toNat
  | none => s.dt

/-- The command's frame on an ISO 11783 bus: destination-specific PGN 0xEF00 with priority 6 (18 R378). -/
def State.sendCan (s : State) (bus addr : Nat) (d0 d1 : Word) : State :=
  let id := nw (2 ^ 31 + 6 * 2 ^ 26 + 0xEF * 65536 + addr % 256 * 256 + s.f (R.CAN_CAN_ADDR bus) 7 0)
  { s with host := { s.host with out := s.host.out ++ [⟨bus, 0, [id, 8, d0, d1]⟩] } }

/-- The command's datagram on an Ethernet port (18 R383). -/
def State.sendUdp (s : State) (p addr : Nat) (d0 d1 : Word) (ns : Int) : State :=
  let net := s.r (R.ETH_IP p) &&& s.r (R.ETH_NETMASK p)
  let m : OutMsg := ⟨8 + p, 3, [setFld net 7 0 addr, nw (s.f (R.ETH_ETH_REM p) 15 0), d0, d1] ++ words64 ns⟩
  { s with host := { s.host with out := s.host.out ++ [m] } }

/-- The next sequence of a remote record (18 R378). -/
def State.remSeq (s : State) (r : Nat) : Nat := SMap.get (fun _ => (0 : Nat)) s.comm.remSeq r

/-- Send one command of a remote record: byte 0, byte 3, bytes 4 to 6 and the T_E in ns it carries on Ethernet. -/
def State.remoteCmd (s : State) (t : SMap Word) (r b0 b3 b46 : Nat) (ns : Int) : State :=
  let path := remPath t r
  let seq := s.remSeq r % 256
  let d0 := nw (b0 + remChannel t r * 256 + b3 % 256 * 2 ^ 24)
  let d1 := nw (b46 % 2 ^ 24 + seq * 2 ^ 24)
  let s := s.setComm { s.comm with remSeq := SMap.put (fun _ => (0 : Nat)) s.comm.remSeq r ((seq + 1) % 256) }
  let s := s.inc R.REMOTE_SENT 31 0 1
  if path ≤ 1 then s.sendCan path (remAddr t r) d0 d1 else s.sendUdp (path - 2) (remAddr t r) d0 d1 ns

/-- Meter speed S of a REMOTE METER_SPEED outlet (10 R225). -/
def State.remoteSpeed (s : State) (t : SMap Word) (id : Nat) : Option Nat :=
  if oKind t id = 5 ∧ oMeter t id = 3 ∧ s.isMetered t id = true then some (((s.meterOut id).map (·.out)).getD 0) else none

/-- Send a SPEED command; what time its Ethernet form carries is a free value (log 5). -/
def State.sendSpeed (s : State) (t : SMap Word) (id : Nat) : State :=
  match s.remoteSpeed t id with
  | some v =>
    let ns := s.freeBits 64
    let s := ns.2.remoteCmd t (oTarget t id) 0xC2 v (v / 256) ns.1
    s.setComm { s.comm with remAt := SMap.put (fun _ => (0 : DT)) s.comm.remAt id s.dt }
  | none => s

/-- A dispatched REMOTE edge awaits its confirmation (09 R208). -/
def State.awaitRemote (s : State) (t : SMap Word) (id : Nat) (e : Edge) (seq : Nat) : State :=
  let r := oTarget t id
  let a : Awaiting :=
    if remReport t r then ⟨id, e.on, e.te, e.te + msDT (remTimeout t r), e.gen, 6, seq⟩
    else ⟨id, e.on, e.te, e.te + usDT (oDelay t id e.on), e.gen, 5, seq⟩
  { s with look := { s.look with awaiting := s.look.awaiting ++ [a] } }

/-- Dispatch an edge now (09 R207). -/
def State.dispatch (s : State) (id : Nat) (e : Edge) : State :=
  let t := s.genTbl e.gen
  let r := oTarget t id
  let s := s.popEdge id
  if s.pathSends (remPath t r) then
    let td : Int := (e.te : Int) - usDT (remLatency t r)
    let late : Int := (s.dt : Int) - td
    let s := if (usDT 250 : Int) < late then (s.inc R.REMOTE_LATE_SENDS 31 0 1).countLate id late.toNat else s
    let seq := s.remSeq r % 256
    let wait := ((e.te : Int) - s.dt).toNat / 25600
    let ns := if remPath t r ≤ 1 then 0 else s.ptpNs (remPath t r - 2) e.te
    let b46 := if remPath t r ≤ 1 then min wait (2 ^ 24 - 1) else 0
    ((s.remoteCmd t r 0xC1 (if e.on then 1 else 0) b46 ns).sendSpeed t id).awaitRemote t id e seq
  else (s.missed id).releaseOld

/-- REMOTE_DISPATCH (09 R207): no earlier than the outlet's oldest edge's dispatch time. -/
def execRemoteDispatch (id : Fin 1024) (s : State) : Host.Outcome State Fault Refusal :=
  done (match (s.q id.val).edges with
    | e :: _ => if e.kind = 5 ∧ e.exec ≤ s.dt then s.dispatch id.val e else s
    | [] => s)

/-- The switching time a report gives (18 R378, R383). -/
def State.reportTime (s : State) (path : Nat) (sof : DT) (data : List Byte) : DT :=
  if path ≤ 1 then sof - usDT (leNat ((data.drop 4).take 3))
  else s.ptpDT (path - 2) (leNat ((data.drop 8).take 8))

/-- The awaited confirmation a report belongs to: its path, address, channel, state and sequence. -/
def State.reported (s : State) (path addr : Nat) (data : List Byte) : Option Awaiting :=
  let chan := leNat ((data.drop 1).take 2)
  let on := (data.getD 3 0) != 0
  s.look.awaiting.find? (fun a =>
    let t := s.genTbl a.gen
    let r := oTarget t a.id
    a.kind == 6 && remPath t r == path && remAddr t r % 256 == addr && remChannel t r == chan && a.on == on &&
      a.seq == (data.getD 7 0).toNat)

/-- REMOTE_REPORT (09 R208, 18 R378, R383): a module's report, its bytes and its start-of-frame DT. -/
def execRemoteReport (path : Fin 4) (addr : Byte) (sof : BitVec 64) (data : List Byte) (s : State) :
    Host.Outcome State Fault Refusal :=
  done (if data.getD 0 0 = 0xC8#8 ∧ s.pathOn path.val = true then
      match s.reported path.val addr.toNat data with
      | some a =>
        let t := s.reportTime path.val sof.toNat data
        (({ s with look := { s.look with awaiting := s.look.awaiting.erase a } }).confirm a.id a.gen a.on t false true).releaseOld
      | none => s
    else s)

/-- REPORT_TIMEOUT (09 R208): the oldest confirmation of an outlet whose report has not arrived in time. -/
def execReportTimeout (id : Fin 1024) (s : State) : Host.Outcome State Fault Refusal :=
  done (match s.look.awaiting.find? (fun a => a.id == id.val && a.kind == 6) with
    | some a =>
      if a.due ≤ s.dt then
        let s := { s with look := { s.look with awaiting := s.look.awaiting.erase a } }
        let s := (s.inc R.REMOTE_TIMEOUTS 31 0 1).irq (R.REMOTE 0) 0
        (s.confirm a.id a.gen a.on (a.exec + usDT (oDelay (s.genTbl a.gen) a.id a.on)) true true).releaseOld
      else s
    | none => s)

/-- Is an outlet on after the newest edge that was dispatched or executed? -/
def State.doneOn (s : State) (id : Nat) : Bool :=
  match (s.q id).edges with
  | e :: _ => !e.on
  | [] => (s.q id).newest

/-- REMOTE_SPEED_PERIOD (10 R225): REM_PERIOD_MS after the newest SPEED command of an outlet that is on. -/
def execRemoteSpeedPeriod (id : Fin 1024) (s : State) : Host.Outcome State Fault Refusal :=
  let t := s.tbl
  let last := SMap.get (fun _ => (0 : DT)) s.comm.remAt id.val
  done (if oAct t id.val = true ∧ s.doneOn id.val = true ∧ last + msDT (s.f R.METER_CFG 23 16) ≤ s.dt ∧
      s.pathSends (remPath t (oTarget t id.val)) = true then s.sendSpeed t id.val else s)

/-! ## External decision (09 R209, 18 R376, R377) -/

/-- One section's command: a change sets its wish from `t` on. -/
def State.wishChange (s : State) (t : DT) (k : Nat) (on : Bool) : State :=
  if (s.look.secWish.getD k (false, 0)).1 = on then s
  else { s with look := { s.look with secWish := s.look.secWish.set k (on, t) } }

/-- TC_SECTION_COMMAND (09 R209, 18 R377): section states from the server, and the start of frame of the command. -/
def execTcSectionCommand (bus : Fin 2) (sof : BitVec 64) (cmds : List (Fin 64 × Bool)) (s : State) :
    Host.Outcome State Fault Refusal :=
  done (if s.tcBus = some bus.val then
      let s := s.setComm { s.comm with tcUp := true }
      if s.b R.PLAN_CFG 31 then cmds.foldl (fun (s : State) x => s.wishChange sof.toNat x.1.val x.2) s else s
    else s)

/-- TC_SERVER_LOST (18 R376, 09 R209): no server status for 6 s. -/
def execTcServerLost (s : State) : Host.Outcome State Fault Refusal :=
  done (let s := s.setComm { s.comm with tcUp := false }
    if s.b R.PLAN_CFG 31 then
      let s := (List.range 64).foldl (fun (s : State) k => s.wishChange s.dt k false) s
      (s.fltOnce (R.PLAN 0) 1).irq (R.PLAN 0) 2
    else s)

/-! ## Retire (09 R210 to R213) -/

/-- RETIRE_SEGMENT_FORM (09 R210): the next segment of an outlet's oldest on-period, where the history reaches. -/
def execRetireSegmentForm (id : Fin 1024) (s : State) : Host.Outcome State Fault Refusal :=
  done (match s.look.opens.find? (fun o => o.id == id.val && !o.dropped) with
    | some o => s.formSeg o
    | none => s)

/-- RETIRE_WRITE (09 R212, R213): the oldest SEG entry whose tiles are all in slots is written. -/
def execRetireWrite (s : State) : Host.Outcome State Fault Refusal :=
  done (match s.look.segs.find? (fun g => s.recHere g.fieldGen && s.sweepReady g.words) with
    | some g => (({ s with look := { s.look with segs := s.look.segs.erase g } }).noteBacklog).writeSweep g.words
    | none => s)

/-! ## Counters (09 R216, R217) -/

/-- CNT_CTRL.CLEAR: the seven counters and LATE_MAX. -/
def State.cntClear (s : State) (v : Word) : State :=
  if bit v 0 then
    let s := (List.range 7).foldl (fun (s : State) k => s.w (R.COMMIT_PLANNED + 4 * k) 0) s
    s.w R.COMMIT_LATE_MAX 0
  else s

/-- LOST_CTRL.CLEAR: the four LOST counters. -/
def State.lostClear (s : State) (v : Word) : State :=
  if bit v 0 then (List.range 4).foldl (fun (s : State) k => s.w (R.RETIRE_LOST_OVF + 4 * k) 0) s else s

end Sys2Proof.Machine
end

