-- ==== Sys2Proof/Machine/JobOps.lean ====
section
/-!
DEFINITION. Long jobs as shared operations (05 R104 to R110): the kinds, their parameters, what a cancel or a failure
leaves, and outlets run by a job.
-/
namespace Sys2Proof.Machine

/-! ## Kinds (05 R108, 04 R69) -/

/-- Least role of a kind: 1 for any role, 2 INTEGRATOR, 3 SERVICE. -/
def kindRole (k : Nat) : Nat :=
  match k with
  | 1 | 2 | 4 => 1
  | 3 => 2
  | _ => 3

/-- Audit class of a kind's START: 0 not audited, 1 run-time, 2 configuration (19 R418). -/
def kindAud (k : Nat) : Nat :=
  match k with
  | 1 | 4 | 9 => 0
  | 2 | 7 => 1
  | _ => 2

/-- Live jobs of a kind at most. -/
def kindMax (k : Nat) : Nat :=
  match k with
  | 1 => 4
  | 4 => 2
  | _ => 1

/-- Kinds a mode permits (04 R69). -/
def kindsIn (mode : Nat) : List Nat :=
  match mode with
  | 1 | 2 => [1, 2, 3, 4, 7, 8]
  | 3 => [1, 2, 4, 7, 8]
  | 4 => [1, 5, 6, 7, 9]
  | 5 => [4, 7]
  | _ => []

/-- `n` bytes of a job's START descriptor from byte `k`, little-endian. -/
def Job.num (b : Job) (k n : Nat) : Nat := leNat ((b.params.drop (k - 8)).take n)

/-- The work of a job is done; its DONE comes with JOB_WORK_COMPLETE. -/
def doneStep : Nat := 2 ^ 32

/-- The job that runs, suspends or cancels in a kind, and the one that runs. -/
def State.activeJob (s : State) (kind : Nat) : Option Nat := s.runningJob kind

/-- The last step of a job begins: it can no longer be suspended or cancelled (05 R106). -/
def State.jobFinal (s : State) (j : Nat) : State := s.wb (R.JOBS_JOB_STAT j) 7 true

/-- The work of a job is complete with these RESULT words (05 R106). -/
def State.jobFinish (s : State) (j : Nat) (r0 r1 : Word) : State :=
  (s.setJob j { s.job j with step := doneStep, res0 := r0, res1 := r1 }).jobFinal j

/-- Step of a job. -/
def State.jobStep (s : State) (j n : Nat) : State := s.setJob j { s.job j with step := n }

/-! ## Parameters of START (05 R104, R108) -/

/-- Bytes from 8 on that the parameters of a kind use. -/
def startUses (k : Nat) : List (Nat × Nat) :=
  match k with
  | 1 => [(8, 9), (12, 21)]
  | 2 => [(8, 9), (12, 27)]
  | 3 => [(8, 9), (12, 35)]
  | 4 => [(8, 9), (12, 23)]
  | 5 => [(8, 9), (12, 13), (16, 40)]
  | 6 => [(8, 9), (12, 16), (18, 21), (24, 35)]
  | 7 => [(8, 9), (12, 12), (16, 27)]
  | 8 => [(8, 9), (12, 23)]
  | 9 => [(8, 9), (12, 36), (40, 51)]
  | _ => [(8, 63)]

/-- A byte to reject unless a condition holds. -/
def need (b : Nat) (ok : Bool) : List Nat := if ok then [] else [b]

/-- PRN range of a searchable signal (16 R338); none where the signal is not searchable. -/
def prnRange (sig : Nat) : Option (Nat × Nat) :=
  match sig with
  | 0x0 | 0x2 | 0x6 => some (1, 63)
  | 0x4 => some (1, 50)
  | 0x7 | 0x8 => some (193, 202)
  | 0x9 => some (120, 158)
  | _ => none

/-- Wrong bytes of a GNSS_SEARCH (16 R351). -/
def searchWrong (c : Cmd) : List Nat :=
  let sig := c.byte 12
  let span := c.num 20 2
  (match prnRange sig with
    | some r => need 13 (decide (r.1 ≤ c.byte 13) && decide (c.byte 13 ≤ r.2))
    | none => [12]) ++
    need 14 (decide (c.byte 14 ≤ 3) && (c.byte 14 < 2 || [2, 4, 6, 8].contains sig)) ++
    need 15 (decide (1 ≤ c.byte 15) && decide (c.byte 15 ≤ 64)) ++
    need 16 (decide ((toSigned 32 (c.num 16 4)).natAbs ≤ 50000)) ++ need 20 (decide (500 ≤ span) && decide (span ≤ 50000))

/-- Wrong bytes of a FIELD_LOAD (08 R168): where the file lies. -/
def State.loadWrong (s : State) (c : Cmd) : List Nat :=
  let a := c.num 12 8
  let n := c.num 20 8
  need 12 (a % 64 == 0 && s.inDram a 1 && !meet a 1 s.fsRange.1 s.fsRange.2) ++
    need 20 (s.inDram a n && !meet a n s.fsRange.1 s.fsRange.2)

/-- Wrong bytes of a FLOW_CALIBRATE (10 R236). -/
def calWrong (c : Cmd) : List Nat :=
  let t := c.num 32 4
  let w := c.num 36 4
  need 12 (decide (c.byte 12 ≤ 3)) ++ need 13 (decide (c.byte 13 ≤ 3)) ++
    need 32 (decide (1000 ≤ t) && decide (t ≤ 600000)) ++ need 36 (decide (10 ≤ w) && decide (w ≤ 3600)) ++
    need 40 (decide (c.byte 40 ≤ 1))

/-- Wrong bytes of a DELAY_LEARN_SWEEP (12 R277). -/
def sweepWrong (c : Cmd) : List Nat :=
  let id := c.num 12 2
  let n := c.num 14 2
  let ok (v : Nat) : Bool := decide (20 ≤ v) && decide (v ≤ 2000)
  need 12 (decide (id < 1024)) ++ need 14 (decide (1 ≤ n) && decide (id + n ≤ 1024)) ++
    need 16 (decide (4 ≤ c.byte 16) && decide (c.byte 16 ≤ 64)) ++ need 18 (ok (c.num 18 2)) ++ need 20 (ok (c.num 20 2))

/-- Wrong bytes of a START (05 R103 check 2): the priority, and parameters of the kind out of range. -/
def State.startWrong (s : State) (c : Cmd) : List Nat :=
  let k := c.byte 8
  let own : List Nat :=
    match k with
    | 1 => if s.variant = .n then [8] else searchWrong c
    | 2 => s.loadWrong c
    | 3 | 4 => []
    | 5 => calWrong c
    | 6 => sweepWrong c
    | 7 => need 12 (decide (1 ≤ c.byte 12) && decide (c.byte 12 ≤ 7)) ++
        need 16 (s.inDram (c.num 16 8) (c.num 24 4))
    | 8 => need 12 (s.inDram (c.num 12 8) (c.num 20 4))
    | 9 => need 36 (decide (c.byte 36 ≤ 3))
    | _ => [8]
  need 9 (decide (c.byte 9 ≤ 3)) ++ own

/-! ## Outlets run by a job (10 R236, 11 R260, 12 R277) -/

/-- The owner of an actuation that is no committed edge. -/
def State.manual (s : State) (id : Nat) : Owner := ⟨id, s.tableGen, false⟩

/-- An outlet is switched on by a job; a region that is open is closed for it first. -/
def State.runOn (s : State) (id : Nat) : State :=
  let t := s.tbl
  let g := oTarget t id
  match oKind t id with
  | 0 | 1 =>
    let n := s.leadChan g
    let s := s.setWant n true
    let s := s.setChan n { s.chan n with own := some (s.manual id) }
    if s.regSt (regionOf n) = 0 then s.requestClose (regionOf n) else s.repull n 3
  | 2 => (s.setBst g { s.bst g with own := some (s.manual id) }).bstRequest g
  | 3 => s.motorEdge (g % 48) true
  | 4 => (s.setDioWant g true).dioFollow g
  | _ => (s.remoteCmd t g 0xC1 1 0 0).sendSpeed t id

/-- An outlet is switched off by a job. -/
def State.runOff (s : State) (id : Nat) : State :=
  let t := s.tbl
  let g := oTarget t id
  match oKind t id with
  | 0 | 1 =>
    let n := s.leadChan g
    if s.chBlocked n then (s.setWant n false).clearOwn n else s.offEdgeAt n (s.manual id)
  | 2 => s.bstForceOff g
  | 3 => s.motorEdge (g % 48) false
  | 4 => (s.setDioWant g false).dioFollow g
  | _ => s.remoteCmd t g 0xC1 0 0 0

/-- Regions of the outlets of a list that are open. -/
def State.openRegions (s : State) (ids : List Nat) : List Nat :=
  (List.range 4).filter (fun g => s.regSt g == 0 && ids.any (fun id => oLocal s.tbl id && regionOf (oTarget s.tbl id) == g))

/-- Regions a job closed, kept as a mask in its first word. -/
def State.jobRegions (s : State) (j : Nat) : List Nat := bitsSet 4 (nth (s.job j).buf 0).toNat

/-- Note regions a job closes. -/
def State.noteRegions (s : State) (j : Nat) (l : List Nat) : State :=
  let b := s.job j
  let m := l.foldl (fun (w : Word) g => setBit w g) (nth b.buf 0)
  s.setJob j { b with buf := m :: b.buf.drop 1 }

/-- A job reopens every region that it closed. -/
def State.reopenRegions (s : State) (j : Nat) : State :=
  let s := (s.jobRegions j).foldl (fun (s : State) g => if s.regSt g = 0 then s else s.openRegion g) s
  let b := s.job j
  s.setJob j { b with buf := 0 :: b.buf.drop 1 }

/-- Actuating outlets of the sections a FLOW_CALIBRATE selects. -/
def State.calOutlets (s : State) (j : Nat) : List Nat :=
  let mask := (s.job j).num 16 8
  (actuating s.tbl).filter (fun id => oSecEn s.tbl id && mask.testBit (oSection s.tbl id))

/-- Outputs of a FLOW_CALIBRATE go off. -/
def State.calOff (s : State) (j : Nat) : State :=
  let ids := s.calOutlets j
  let s := ids.foldl (fun (s : State) id => s.runOff id) s
  { s with meter := { s.meter with out := s.meter.out.filter (fun e => !ids.contains e.1) } }

/-- A job closes a region that is open, and notes it; false where its switch does not close. -/
def State.jobClose (s : State) (j g v : Nat) (closes : Bool) : State × Bool :=
  if s.regSt g ≠ 0 then (s, s.regSt g = 2)
  else
    let t := s.requestClose g
    if closes ∧ t.regSt g = 1 then ((((t.noteRegions j [g]).setField g v).goLive g), true) else ((t.openRegion g), false)

/-- The firmware slot that is not running: 0 A, 1 B (19 R405). -/
def State.otherSlot (s : State) : Nat := if s.b R.UPDATE_IMG_STAT 0 then 0 else 1

/-! ## What a cancel or a failure leaves (05 R108) -/

/-- The buffer a job writes is marked incomplete: the first word of its header is 0 until it completes (log 7). -/
def State.unmark (s : State) (a : Nat) : State := if s.listed a 4 then s.wr32 a 0 else s

/-- The residue of a job that ends before its work is done (05 R108). -/
def State.residue (s : State) (j : Nat) : State :=
  let b := s.job j
  match s.jobKind j with
  | 1 => match s.jobCtx j with | some x => s.ctxCancel x | none => s
  | 2 => s.setJob j { b with vals := [], buf := [] }
  | 3 => if 0 < b.step then s.unmark (b.num 24 8) else s
  | 4 => if 0 < b.step then s.unmark (b.num 12 8) else s
  | 5 => (if b.step = 1 then s.calOff j else s).reopenRegions j
  | 6 => s.reopenRegions j
  | 7 => if 0 < b.step then s.unmark (b.num 16 8) else s
  | 8 => if 0 < b.step then s.wb R.UPDATE_IMG_STAT (3 + s.otherSlot) false else s
  | _ => s.reopenRegions j

/-! ## Ends of a job (05 R106) -/

/-- A job error: the residue, FAILED, and LOAD_FAIL of a FIELD_LOAD (08 R188). -/
def State.failJob (s : State) (j detail : Nat) : State :=
  let k := s.jobKind j
  let s := (s.residue j).jobFail j detail
  if k = 2 then s.fltEv (R.TILEDIR 0) 0 else s

/-- A cancel reaches a job's safe point: the residue, then CANCELLED. -/
def State.endCancelled (s : State) (j detail : Nat) : State :=
  (s.residue j).jobCancelled j detail

/-- Cancel a live job with a DETAIL: at once where it does not run, else CANCELLING (05 R106). -/
def State.cancelJob (s : State) (j detail : Nat) : State :=
  match s.jobSt j with
  | 1 | 4 => s.endCancelled j detail
  | 2 | 3 =>
    let s := match (s.job j).suspend with
      | some c => (s.setJob j { s.job j with suspend := none }).reply c 0x21 c.handle.toNat 0 0 0
      | none => s
    (s.setJob j { s.job j with cancelDetail := detail }).setJobSt j 5
  | _ => s

/-- A mode change cancels the jobs the new mode does not permit (04 R71, 05 R106). -/
def State.cancelKinds (s : State) (mode detail : Nat) : State :=
  (List.range 16).foldl (fun (s : State) j =>
    if liveJob (s.jobSt j) && !(kindsIn mode).contains (s.jobKind j) then s.cancelJob j detail else s) s

end Sys2Proof.Machine
end

