-- ==== Sys2Proof/Machine/AtticOps.lean ====
section
/-!
DEFINITION. The Attic (20): the record writer, the saves of the life statistics, clearing and archiving.
-/
namespace Sys2Proof.Machine

/-- Slots of the event log (20 R427). -/
def evSlots : Nat := 65536

/-- How a torn event slot reads (20 R428). -/
def tornRec : List Word := 0xFD000000#32 :: List.replicate 7 0

/-- Replace the Attic's state. -/
def State.setAttic (s : State) (a : Attic) : State := { s with attic := a }

/-- HELD grew: the warning, once, and FULL (20 R427). -/
def State.noteHeld (s : State) (was : Nat) : State :=
  let n := s.attic.log.length
  let s := if !s.attic.warned && decide (s.f R.EVR_CFG 7 0 * evSlots ≤ n * 100) then
    (s.setAttic { s.attic with warned := true }).irq (R.EVR 0) 0 else s
  if was < evSlots ∧ evSlots ≤ n then (s.flt (R.EVR 0) 0).irq (R.EVR 0) 1 else s

/-- A torn slot is found (20 R428). -/
def State.noteTorn (s : State) (n : Nat) : State :=
  if n = 0 then s else (s.satInc R.EVR_TORN 15 0 n).flt (R.EVR 0) 2

/-- Write a record into the next free slot of the event log; a record for which the log is full goes to the tail only. -/
def State.logRec (s : State) (w : List Word) : State :=
  let n := s.attic.log.length
  if evSlots ≤ n then s.satInc R.EVR_DROPPED 31 0 1
  else ((s.setAttic { s.attic with log := s.attic.log ++ [w] }).lifeKb 0 1).noteHeld n

/-- The writer takes the head of the FIFO and writes it to the log and the tail ring; `torn` says that its first log
slot reads as torn, so that it is retried once in the next (20 R425, R428). -/
def State.writeHead (s : State) (torn : Bool) : State :=
  match s.attic.fifo with
  | [] => s
  | w :: rest =>
    let s := s.setAttic { s.attic with fifo := rest }
    let s :=
      if fld (nth w 0) 23 20 < s.f R.EVR_CFG 11 8 then s
      else
        let s := if torn && decide (s.attic.log.length < evSlots) then
          let n := s.attic.log.length
          ((s.setAttic { s.attic with log := s.attic.log ++ [tornRec] }).noteTorn 1).noteHeld n else s
        s.logRec w
    let tail := s.attic.tail ++ [w]
    (s.setAttic { s.attic with tail := tail.drop (tail.length - 256), tailSeq := (s.attic.tailSeq + 1) % 256 }).lifeKb 1 1

/-- Write every staged record (20 R425). -/
def State.drainFifo (s : State) : State :=
  (List.range s.attic.fifo.length).foldl (fun (s : State) _ => s.writeHead false) s

/-! ## Life statistics (20 R435, R436) -/

/-- Store a word of the life statistics. -/
def State.setLife (s : State) (rec_ word v : Nat) : State :=
  s.setAttic { s.attic with life := SMap.put (fun _ => (0 : Word)) s.attic.life (rec_ * 8 + word) (nw (min v 0xFFFFFFFF)) }

/-- The image the next save writes: the older one. -/
def State.saveImage (s : State) : Nat := if s.attic.imgCount.getD 1 0 < s.attic.imgCount.getD 0 0 then 1 else 0

/-- Save the shadows to MRAM, into the older image; an uncorrectable error leaves that image invalid (20 R435). -/
def State.lifeSave (s : State) (ue : Bool) : State :=
  let i := s.saveImage
  let n := max (s.attic.imgCount.getD 0 0) (s.attic.imgCount.getD 1 0) + 1
  let s := s.setAttic { s.attic with
    imgCount := s.attic.imgCount.set i n, imgOk := s.attic.imgOk.set i (!ue), images := s.attic.images.set i s.attic.life, lastSaveOp := s.pkg.opTicks / 256 }
  let s := ((s.satInc R.LIFE_SAVES 31 0 1).w R.LIFE_LAST_SAVE (nw (s.pkg.opTicks / 256))).lifeKb 3 38
  if ue then s.fltEv (R.LIFE 0) 0 else s

/-- Reload the shadows from the newest valid image (20 R435). -/
def State.lifeReload (s : State) : State :=
  let ok (i : Nat) : Bool := s.attic.imgOk.getD i false
  let c (i : Nat) : Nat := s.attic.imgCount.getD i 0
  let pick : Option Nat :=
    if ok 0 && (!ok 1 || decide (c 1 ≤ c 0)) then some 0 else if ok 1 then some 1 else none
  match pick with
  | some i => s.setAttic { s.attic with life := s.attic.images.getD i [] }
  | none => s.setAttic { s.attic with life := [] }

/-- Temperature bin of a reading in 1/16 °C: bin 0 below −30 °C, ten degrees each, bin 15 from 110 °C on. -/
def tempBin (t : Int) : Nat := (clamp 0 15 (fdiv (t + 640) 160)).toNat

/-- The temperature register of a die. -/
def tempReg (d : Nat) : Nat := R.SUPPLY_TEMP_LOGIC + 4 * d

/-- What is counted each second (20 R436). -/
def State.lifeSecond (s : State) : State :=
  let s := (List.range 4).foldl (fun (s : State) g =>
    if s.regSt g = 0 then s
    else
      let b := min 31 (s.field g / 150)
      s.life (1156 + 4 * g + b / 8) (b % 8) 1) s
  let s := (List.range 3).foldl (fun (s : State) d =>
    let w := s.f (tempReg d) 15 0
    if w = 0x8000 ∨ (d = 2 ∧ s.variant = .n) then s
    else
      let b := tempBin (toSigned 16 w)
      s.life (1173 + 2 * d + b / 8) (b % 8) 1) s
  let s := (s.setLife 1186 0 (s.pkg.opTicks / 256)).setLife 1186 1 s.pkg.pwrCyc
  if s.mode = 3 then s.life 1186 2 1 else s

/-! ## The flush of 04 R79 -/

/-- Write the operating-time checkpoint; `flush` says that a flush writes it (04 R88). -/
def State.optCheckpoint (s : State) (flush : Bool) : State :=
  { s with pkg := { s.pkg with ckpt := s.pkg.opTicks, ckptFlushed := flush } }

/-- Steps 2 to 4 of the flush, with the checkpoint of the totals (04 R79, 10 R235, 20 R435). -/
def State.flush (s : State) : State := ((s.drainFifo.lifeSave false).optCheckpoint true).checkpointTotals

/-! ## Clearing (20 R432) -/

/-- EVR_CLEAR acts: the CLEAR record, then every record at or above EVR.ARCHIVED. -/
def State.clearLog (s : State) : State :=
  let kept := (s.attic.log.drop s.attic.archived).take (evSlots - 1)
  let cleared := s.attic.log.length - kept.length
  let c := namedCode 0x15
  let w := s.eventRec c.1 c.2.1 c.2.2 0xC015 (nw cleared) (nw kept.length)
  let s := (s.setSupp 0xD 0).lifeKb 0 (((kept.length + 1) * 32 + 1023) / 1024)
  let s := (s.setAttic { s.attic with log := w :: kept, archived := 0, evArchived := false, warned := false }).w R.EVR_ARCHIVED 0
  s.noteHeld 0

/-! ## Archiving (20 R433, R434) -/

/-- Words of a byte list. -/
def wordsOf (l : List Byte) : List Word := bytesWords (l.length / 4) l

/-- A section: its 16-byte header and its records. -/
def section_ (kind size : Nat) (recs : List (List Word)) : List Word :=
  let body := recs.flatten
  [nw kind, nw recs.length, nw size, crc32 (body.flatMap wordBytes)] ++ body

/-- The 1,187 life records (20 R437). -/
def State.lifeRecs (s : State) : List (List Word) :=
  (List.range 1187).map (fun r => SMap.getAll (fun _ => (0 : Word)) s.attic.life (r * 8) 8)

/-- The 64-byte header of an archive. -/
def State.archHeader (s : State) (mask : Nat) : List Word :=
  let h := [0x52415A43#32, nw (1 + mask * 65536), s.r R.FUSE_DEVICE_ID_LO, s.r R.FUSE_DEVICE_ID_HI,
    nw (s.pkg.opTicks / 256), nw s.pkg.pwrCyc] ++ List.replicate 9 0
  h ++ [crc32 (h.flatMap wordBytes)]

/-- The whole archive as it stands now. -/
def State.archive (s : State) (mask : Nat) : List Word :=
  s.archHeader mask ++
    (if mask.testBit 0 then section_ 0 32 s.attic.log else []) ++
    (if mask.testBit 1 then section_ 1 64 s.sec.audit else []) ++
    (if mask.testBit 2 then section_ 2 32 s.lifeRecs else [])

/-- What a DONE archive leaves: EVR.ARCHIVED and ARCHIVED_SEQ (20 R434, 19 R419). -/
def State.archiveMarks (s : State) (mask events seq : Nat) : State :=
  let s := if mask.testBit 0 then
    (s.setAttic { s.attic with archived := events, evArchived := true }).w R.EVR_ARCHIVED (nw events) else s
  if mask.testBit 1 then
    ({ s with sec := { s.sec with archSeq := seq, audArchived := true } }).w R.AUDIT_ARCHIVED_SEQ (nw seq)
  else s

/-- The job copies one 4 KB block; the first word of the archive is written last (log 7). -/
def State.archiveBlock (s : State) (j : Nat) : State :=
  let b := s.job j
  let mask := b.num 12 1
  let out := b.num 16 8
  if b.step = 0 then
    let a := s.archive mask
    if b.num 24 4 < 4 * a.length then s.failJob j 0x26
    else if !s.listed out (4 * a.length) then s.failJob j 0x10
    else
      let blk := (a.take 1024).set 0 0
      (s.wrWords out blk).setJob j { b with step := 1, buf := a, vals := [s.attic.log.length, s.sec.audSeq] }
  else if b.step * 1024 < b.buf.length then
    let s := s.wrWords (out + b.step * 4096) ((b.buf.drop (b.step * 1024)).take 1024)
    (s.jobStep j (b.step + 1)).jobProgress j (b.step * 102400 / b.buf.length)
  else if s.jobSt j = 2 ∧ b.step ≠ doneStep then
    let ev := (b.vals.getD 0 0).toNat
    let s := (s.wr32 out (nth b.buf 0)).archiveMarks mask ev (b.vals.getD 1 0).toNat
    s.jobFinish j (nw (4 * b.buf.length)) (if mask.testBit 0 then nw ev else 0)
  else s

end Sys2Proof.Machine
end

