-- ==== Sys2Proof/Machine/FieldOps.lean ====
section
/-!
DEFINITION. Field files, the store of a FIELD_LOAD, the field swap, and the buffers of RASTER_BUILD and COVERAGE_EXPORT (08
R166 to R172, R187) as shared operations.
-/
namespace Sys2Proof.Machine

/-! ## Field file header (08 R167) -/

/-- A field of a header's bytes, little-endian. -/
def hnum (h : List Byte) (k n : Nat) : Nat := leNat ((h.drop k).take n)

def hAxis (h : List Byte) : Nat := hnum h 6 1
def hExtI (h : List Byte) : Nat := hnum h 40 2
def hExtJ (h : List Byte) : Nat := hnum h 42 2
def hTiles (h : List Byte) : Nat := hnum h 44 4
def hSigned (h : List Byte) : Bool := hnum h 48 1 == 1

/-- Bytes of the MAP of a header, without its CRC. -/
def hMapLen (h : List Byte) : Nat := (hExtI h * hExtJ h + 31) / 32 * 4

/-- MAGIC and VERSION. -/
def hMagic (h : List Byte) : Bool := hnum h 0 4 == 0x46465A43 && hnum h 4 2 == 1

/-- HCRC. -/
def hCrc (h : List Byte) : Bool := nw (hnum h 124 4) == crc32 (h.take 124)

/-- Codes and reserved bytes. -/
def hCodes (h : List Byte) : Bool :=
  decide (hAxis h ≤ 2) && decide (hnum h 7 1 ≤ 2) && decide (hnum h 48 1 ≤ 1) && ((h.drop 49).take 75).all (· == 0)

/-- The window limits. -/
def hWindow (h : List Byte) : Bool :=
  let top (k e : Nat) : Bool := decide (toSigned 16 (hnum h k 2) + e - 1 ≤ 32767)
  let i := hExtI h
  let j := hExtJ h
  let lim : Bool :=
    match hAxis h with
    | 0 => decide (1 ≤ i ∧ i ≤ 512 ∧ 1 ≤ j ∧ j ≤ 512)
    | 1 => decide (1 ≤ i ∧ i ≤ 32768 ∧ j = 1)
    | _ => decide (i = 1 ∧ j = 1)
  lim && top 36 i && top 38 j

/-- Identity words of a field: AXIS, CELL, FIELD_ID, ANCHOR (08 R169, 18 R387). -/
def hIds (h : List Byte) : List Word := nw (hnum h 6 2) :: (List.range 7).map (fun k => nw (hnum h (8 + 4 * k) 4))

/-- Length of a file of `tc` tiles. -/
def fileLen (h : List Byte) (tc : Nat) : Nat := 128 + hMapLen h + 4 + tc * 36868 + (if hSigned h then 100 else 0)

/-- Where tile `i` of a file lies after its start. -/
def tileOfs (h : List Byte) (i : Nat) : Nat := 128 + hMapLen h + 4 + i * 36868

/-- Does a CRC-32 follow the bytes it covers? -/
def State.crcAt (s : State) (a n : Nat) : Bool := s.rd32 (a + n) == crc32 (s.rdBytes a n)

/-- The first check of R168 step 1 that a file fails: its DETAIL and RESULT word 0. -/
def State.fileFault (s : State) (a len : Nat) : Option (Nat × Word) :=
  let h := s.rdBytes a 128
  let bits := leNat (s.rdBytes (a + 128) (hMapLen h))
  let nb := hExtI h * hExtJ h
  if len < 128 ∨ !hMagic h then some (0x20, 0)
  else if !hCrc h then some (0x21, 0xFFFFFFFF#32)
  else if !hCodes h then some (0x20, 0)
  else if hAxis h ≠ s.axis then some (0x25, 0)
  else if !hWindow h ∨ len < 128 + hMapLen h + 4 then some (0x20, 0)
  else if !s.crcAt (a + 128) (hMapLen h) then some (0x21, 0xFFFFFFFF#32)
  else if 2 ^ nb ≤ bits ∨ hTiles h = 0 ∨ 58254 < hTiles h ∨ hTiles h ≠ popCount nb bits ∨ len ≠ fileLen h (hTiles h) then
    some (0x20, 0)
  else none

/-- May the file's signature stand (08 R168 step 2, 19 R414)? `sigOk`: the ECDSA verification. -/
def State.signatureOk (s : State) (a : Nat) (sigOk : Bool) : Bool :=
  let h := s.rdBytes a 128
  if hSigned h then
    let g := s.rdBytes (a + tileOfs h (hTiles h)) 4
    sigOk && decide (((s.sec.keys.getD (hnum g 0 1) ⟨0, []⟩).cls) = 4) && hnum g 1 3 == 0
  else !(s.b R.TILEDIR_LOAD_CFG 0 || s.sec.cfgLock)

/-! ## The new store (08 R168 step 3) -/

/-- Memory that the parameters of a job name. -/
def State.jobMem (s : State) (j : Nat) : List (Nat × Nat) :=
  let b := s.job j
  match s.jobKind j with
  | 2 => [(b.num 12 8, b.num 20 8)]
  | 3 => [(b.num 12 8, b.num 20 4), (b.num 24 8, b.num 32 4)]
  | 4 => [(b.num 12 8, b.num 20 4)]
  | 6 => [(b.num 24 8, b.num 32 4)]
  | 7 => [(b.num 16 8, b.num 24 4)]
  | 8 => [(b.num 12 8, b.num 20 4)]
  | 9 => [(b.num 40 8, b.num 48 4)]
  | _ => []

/-- Memory a new store stays out of. -/
def State.takenMem (s : State) : List (Nat × Nat) :=
  s.fsRange :: (0x100000000 + s.f R.HIST_RING_BASE 19 0 * 0x100000, s.f R.HIST_RING_MB 9 0 * 0x100000) ::
    ((List.range 16).filter (fun j => liveJob (s.jobSt j))).flatMap (fun j => s.jobMem j)

/-- The lowest 1 MB boundary with room for `mb` MB. -/
def State.storeRoom (s : State) (mb : Nat) : Option Nat :=
  let avoid := s.takenMem
  ((List.range 7168).map (fun i => dramBase + i * 0x100000)).find? (fun a =>
    s.inDram a (mb * 0x100000) && avoid.all (fun r => !meet a (mb * 0x100000) r.1 r.2))

/-- A job fails with RESULT word 0. -/
def State.failWith (s : State) (j detail : Nat) (r0 : Word) : State :=
  (s.setJob j { s.job j with res0 := r0 }).failJob j detail

/-- FIELD_LOAD steps 1 to 3. -/
def State.loadBegin (s : State) (j : Nat) (sigOk : Bool) : State :=
  let b := s.job j
  let a := b.num 12 8
  let h := s.rdBytes a 128
  match s.fileFault a (b.num 20 8) with
  | some (d, r0) => s.failWith j d r0
  | none =>
    if !s.signatureOk a sigOk then s.failJob j 0x22
    else
      let mb := (hTiles h * 36864 + 0xFFFFF) / 0x100000
      match s.storeRoom mb with
      | none => s.failJob j 0x23
      | some base => (s.setJob j { b with step := 1, vals := [(base : Int), ((mb * 0x100000 : Nat) : Int), 0] }).jobProgress j 0

/-- FIELD_LOAD step 4 for one tile, step 5 after the last. -/
def State.loadTile (s : State) (j : Nat) : State :=
  let b := s.job j
  let a := b.num 12 8
  let h := s.rdBytes a 128
  let i := b.step - 1
  let tc := hTiles h
  if i < tc then
    let src := a + tileOfs h i
    if !s.crcAt src 36864 then s.failWith j 0x21 (nw i)
    else
      let s := s.copy ((b.vals.getD 0 0).toNat + i * 36864) src 36864
      (s.setJob j { b with step := b.step + 1, res0 := nw (i + 1) }).jobProgress j ((i + 1) * 100 / max 1 tc)
  else if s.jobSt j = 2 ∧ b.step = tc + 1 then
    (s.setJob j { b with step := tc + 2, vals := b.vals.set 2 (s.dt : Int) }).jobFinal j
  else s

/-! ## The drain and the swap (08 R168, R169) -/

/-- Identity words of a field generation. -/
def State.idsOf (s : State) (g : Nat) : List Word := ((s.rast.ids.find? (fun e => e.1 == g)).map (·.2)).getD []

/-- Generations the backlog names. -/
def State.backlogGens (s : State) : List Nat :=
  (s.look.segs.map (·.fieldGen) ++ (s.look.opens.filter (fun o => !o.dropped)).map (·.fieldGen)).eraseDups

/-- Discard the backlog of other fields than the one with these identity words. -/
def State.discardOther (s : State) (ids : List Word) : State := s.discardBacklog (fun g => decide (s.idsOf g ≠ ids))

/-- Backlog records of the same field go to the new generation (08 R169). -/
def State.remapBacklog (s : State) (g : Nat) : State :=
  { s with look := { s.look with
      segs := s.look.segs.map (fun e => { e with fieldGen := g }),
      opens := s.look.opens.map (fun o => if o.dropped then o else { o with fieldGen := g }) } }

/-- Write the directory: presence map, rank table, header copy (08 R171). -/
def State.writeDir (s : State) (h map : List Byte) : State :=
  let full := map ++ List.replicate (0x8000 - map.length) 0
  let rank := (List.range 512).map (fun r => nw (popCount (512 * r) (leNat (full.take (64 * r)))))
  ((s.wrBytes dirBase full).wrWords (dirBase + 0x8000) rank).wrBytes (dirBase + 0x9600) h

/-- 2-bit entries of at least `v` in a coverage layer. -/
def covAtLeast (l : List Byte) (v : Nat) : Nat :=
  (l.map (fun b => ((List.range 4).filter (fun i => decide (v ≤ b.toNat / 4 ^ i % 4))).length)).foldl (· + ·) 0

/-- The cell counters are set from the installed store (08 R188). -/
def State.countCov (s : State) (tc : Nat) : State :=
  (List.range 3).foldl (fun (s : State) v =>
    s.w (R.LAYERS_COV1_CELLS + 4 * v)
      (nw (((List.range tc).map (fun i => covAtLeast (s.rdBytes (s.tileAddr i) 16384) (v + 1))).foldl (· + ·) 0))) s

/-- Speculative state of the old field is discarded (08 R169). -/
def State.dropSpeculative (s : State) : State :=
  let s := s.squashAll
  { s with
    look := { s.look with newPlan := [], planDone := false },
    pose := { s.pose with traj := [], newTraj := [], ref := [] },
    rast := { s.rast with probes := [], lastRx := [], trunc := none } }

/-- Live COVERAGE_EXPORT jobs are cancelled with DETAIL FIELD_SWAP (08 R187). -/
def State.cancelExports (s : State) : State :=
  (List.range 16).foldl (fun (s : State) j => if s.jobKind j = 4 then s.cancelJob j 0x03 else s) s

/-- The registers that publish the installed field (08 R168, R188; 07 R135). -/
def State.publishField (s : State) (h : List Byte) (gen base size : Nat) : State :=
  let s := s.w R.TILEDIR_FIELD_STAT (nw (2 ^ 31 + gen * 65536 + hAxis h * 256 + hnum h 7 1))
  let s := s.ws R.TILEDIR_FIELD_ID_LO [nw (hnum h 8 4), nw (hnum h 12 4), nw (hnum h 36 4), nw (hnum h 40 4), nw (hTiles h)]
  let s := s.ws R.POSEIN_ANCHOR_LAT_LO ((List.range 5).map (fun k => nw (hnum h (16 + 4 * k) 4)))
  (s.wf R.LPDDR_FS_BASE 19 0 ((base - dramBase) / 0x100000)).wf R.LPDDR_FS_SIZE 11 0 (size / 0x100000)

/-- The swap: flush, free the slots, install the new store and field (08 R168 step 6, R169). -/
def State.fieldSwap (s : State) (j : Nat) : State :=
  let b := s.job j
  let a := b.num 12 8
  let h := s.rdBytes a 128
  let gen := s.rast.genCtr % 255 + 1
  let s := (s.flushPantry.freePantry).discardOther (hIds h)
  let s := s.writeDir h (s.rdBytes (a + 128) (hMapLen h))
  let s := s.publishField h gen (b.vals.getD 0 0).toNat (b.vals.getD 1 0).toNat
  let s := { s with rast := { s.rast with genCtr := gen, ids := [(gen, hIds h)] } }
  let s := (s.remapBacklog gen).countCov (hTiles h)
  let s := (s.dropSpeculative.resumePose.cancelExports).irq (R.TILEDIR 0) 0
  s.jobFinish j (nw (hTiles h)) (nw gen)

/-- No field is loaded any more (08 R170, R189). -/
def State.clearField (s : State) : State :=
  let s := (s.wb R.TILEDIR_FIELD_STAT 31 false).wf R.TILEDIR_FIELD_STAT 23 16 0
  ((s.w R.TILEDIR_TILE_COUNT 0).wf R.LPDDR_FS_BASE 19 0 0).wf R.LPDDR_FS_SIZE 11 0 0

/-! ## RASTER_BUILD (08 R172) -/

/-- A ring: its class, rate indices and vertices (E, N) in mm. -/
structure Ring where
  cls : Nat
  rx : Word
  pts : List (Int × Int)
  deriving DecidableEq, Repr

/-- The rings of a list of words; none where a class or a vertex count is out of range or the list ends within a ring. -/
def parseRings : Nat → List Word → Option (List Ring)
  | 0, l => if l = [] then some [] else none
  | n + 1, l =>
    match l with
    | [] => some []
    | w0 :: t =>
      let cnt := fld w0 23 0
      let cls := fld w0 31 24
      if 4 < cls ∨ cnt < 3 ∨ 65535 < cnt ∨ t.length < 1 + 2 * cnt then none
      else
        let rx := t.headD 0
        if cls ≠ 4 ∧ rx ≠ 0 then none
        else
          let vs := (t.drop 1).take (2 * cnt)
          let pts := (List.range cnt).map (fun i => (sword (nth vs (2 * i)), sword (nth vs (2 * i + 1))))
          match parseRings n (t.drop (1 + 2 * cnt)) with
          | some r => some (⟨cls, rx, pts⟩ :: r)
          | none => none

/-- Does a ray from a centre toward +E cross an edge? The centre is given in half mm. -/
def crosses (e n : Int) (p q : Int × Int) : Bool :=
  let n1 := 2 * p.2
  let n2 := 2 * q.2
  if (n1 ≤ n ∧ n < n2) ∨ (n2 ≤ n ∧ n < n1) then
    -- (E at N = n) > e, cleared of the denominator
    let d := n2 - n1
    let x := (2 * p.1) * d + (n - n1) * (2 * q.1 - 2 * p.1)
    if 0 < d then decide (e * d < x) else decide (x < e * d)
  else false

/-- Inside test of a ring (08 R172). -/
def Ring.has (r : Ring) (e n : Int) : Bool :=
  ((r.pts.zip (r.pts.drop 1 ++ r.pts.take 1)).filter (fun pq => crosses e n pq.1 pq.2)).length % 2 == 1

/-- Pitch of the cells along E and across N in half mm, and N of lane 0's lower side: FIELD cells, TRACK lanes, CYCLIC angle
cells of 2^-11 turn in 2^-32 turn (08 R161, R166; log 7). -/
structure Grid where
  ge : Int
  gn : Int
  n0 : Int
  nx : Nat
  ny : Nat

def State.gridOf (s : State) (h : List Byte) : Grid :=
  let c : Int := match hnum h 7 1 with | 0 => 50 | 1 => 100 | _ => 200
  let lane : Int := s.f R.LAYERS_LANE_CFG 15 0
  match hAxis h with
  | 0 => ⟨2 * c, 2 * c, 0, 256, 256⟩
  | 1 => ⟨2 * c, 2 * lane, -16 * 2 * lane, 2048, 32⟩
  | _ => ⟨2 ^ 22, 2 * lane, -16 * 2 * lane, 2048, 32⟩

/-- Centre of a cell, or of a block of `k` by `k` cells, in half mm. -/
def Grid.centre (g : Grid) (ti tj : Int) (x y k : Nat) : Int × Int :=
  ((2 * (ti * g.nx + x) + k) * g.ge / 2, g.n0 + (2 * (tj * g.ny + y) + k) * g.gn / 2)

/-- Boundary code of a cell (08 R172). -/
def codeAt (rings : List Ring) (p : Int × Int) : Nat :=
  let inC (k : Nat) : Bool := rings.any (fun r => r.cls == k && r.has p.1 p.2)
  if inC 2 then 3 else if inC 3 then 0 else if inC 1 then 2 else if inC 0 then 1 else 0

/-- Rate indices of a prescription block. -/
def rxAtCentre (rings : List Ring) (p : Int × Int) : Word :=
  match (rings.filter (fun r => r.cls == 4 && r.has p.1 p.2)).getLast? with
  | some r => r.rx
  | none => 0

/-- Boundary layer of a tile. -/
def Grid.bndLayer (g : Grid) (rings : List Ring) (ti tj : Int) : List Byte :=
  (List.range 16384).map (fun b =>
    BitVec.ofNat 8 (((List.range 4).map (fun i =>
      codeAt rings (g.centre ti tj ((4 * b + i) % g.nx) ((4 * b + i) / g.nx) 1) * 4 ^ i)).foldl (· + ·) 0))

/-- Prescription layer of a tile. -/
def Grid.rxLayer (g : Grid) (rings : List Ring) (ti tj : Int) : List Byte :=
  (List.range 1024).flatMap (fun k =>
    wordBytes (rxAtCentre rings (g.centre ti tj (8 * (k % (g.nx / 8))) (8 * (k / (g.nx / 8))) 8)))

/-- Is a tile present: some cell is not outside? -/
def present (bnd : List Byte) : Bool := bnd.any (· != 0)

/-- Tiles that the rings' bounding box touches. -/
def Grid.boxTiles (g : Grid) (rings : List Ring) : List (Int × Int) :=
  let es := rings.flatMap (fun r => r.pts.map (fun p => 2 * p.1))
  let ns := rings.flatMap (fun r => r.pts.map (fun p => 2 * p.2))
  if es = [] then []
  else
    let te := g.ge * g.nx
    let tn := g.gn * g.ny
    let e := minMax es
    let n := minMax ns
    let lo := fdiv (n.1 - g.n0) tn
    let is_ := (List.range ((fdiv e.2 te - fdiv e.1 te).toNat + 1)).map (fun (i : Nat) => fdiv e.1 te + (i : Int))
    let js := (List.range ((fdiv (n.2 - g.n0) tn - lo).toNat + 1)).map (fun (i : Nat) => lo + (i : Int))
    js.flatMap (fun j => is_.map (fun i => (i, j)))

/-- Is a tile inside a header's window? -/
def inWindow (h : List Byte) (t : Int × Int) : Bool :=
  let oi := toSigned 16 (hnum h 36 2)
  let oj := toSigned 16 (hnum h 38 2)
  decide (oi ≤ t.1 ∧ t.1 < oi + hExtI h ∧ oj ≤ t.2 ∧ t.2 < oj + hExtJ h)

/-- The header and rings of a polygon list; none where R172 calls it FORMAT. -/
def State.polygons (s : State) (a len : Nat) : Option (List Byte × List Ring) :=
  let h := s.rdBytes a 128
  if len < 128 ∨ len % 4 ≠ 0 ∨ !hMagic h ∨ !hCrc h ∨ !hCodes h ∨ !hWindow h ∨ hTiles h ≠ 0 then none
  else (parseRings 4096 (s.rdWords (a + 128) ((len - 128) / 4))).map (fun r => (h, r))

/-- Does a tile outside the window have a cell that is not outside? -/
def Grid.outOfWindow (g : Grid) (h : List Byte) (rings : List Ring) : Bool :=
  (g.boxTiles rings).any (fun t => !inWindow h t && present (g.bndLayer rings t.1 t.2))

/-- One present tile is appended to the output: its map bit, its record and CRC. -/
def State.buildTile (s : State) (j : Nat) (g : Grid) (h : List Byte) (rings : List Ring) (i row : Nat) : State :=
  let b := s.job j
  let ti := toSigned 16 (hnum h 36 2) + (i : Int)
  let tj := toSigned 16 (hnum h 38 2) + (row : Int)
  let bnd := g.bndLayer rings ti tj
  if !present bnd then s
  else
    let out := b.num 24 8
    let n := b.res0.toNat
    let rec_ := List.replicate 16384 (0 : Byte) ++ bnd ++ g.rxLayer rings ti tj
    let bit_ := row * hExtI h + i
    let m := out + 128 + bit_ / 8
    let s := s.wr8 m (s.rd8 m ||| BitVec.twoPow 8 (bit_ % 8))
    let s := s.wrBytes (out + tileOfs h n) (rec_ ++ wordBytes (crc32 rec_))
    s.setJob j { b with res0 := nw (n + 1) }

/-- Tiles of a row that are present. -/
def Grid.rowTiles (g : Grid) (h : List Byte) (rings : List Ring) (row : Nat) : Nat :=
  ((List.range (hExtI h)).filter (fun (i : Nat) =>
    present (g.bndLayer rings (toSigned 16 (hnum h 36 2) + (i : Int)) (toSigned 16 (hnum h 38 2) + (row : Int))))).length

/-- The finished file: map CRC and header (08 R167); FLAGS says unsigned (log 7). -/
def State.buildEnd (s : State) (j : Nat) (h : List Byte) : State :=
  let b := s.job j
  let out := b.num 24 8
  let n := b.res0.toNat
  let h := h.take 44 ++ natLE 4 n ++ [0] ++ (h.drop 49).take 75
  let s := s.wr32 (out + 128 + hMapLen h) (crc32 (s.rdBytes (out + 128) (hMapLen h)))
  let s := s.wrBytes out (h ++ wordBytes (crc32 h))
  s.jobFinish j (nw n) (nw (tileOfs h n))

/-- RASTER_BUILD: the checks and the empty map, then one tile row, then the finished file (08 R172). -/
def State.buildRow (s : State) (j : Nat) : State :=
  let b := s.job j
  match s.polygons (b.num 12 8) (b.num 20 4) with
  | none => s.failJob j 0x20
  | some (h0, rings) =>
    let h := h0.take 48 ++ [0] ++ h0.drop 49
    let g := s.gridOf h
    let out := b.num 24 8
    let room := b.num 32 4
    if b.step = 0 then
      if g.outOfWindow h rings then s.failJob j 0x24
      else if room < tileOfs h 0 then s.failJob j 0x26
      else if !s.listed out room then s.failJob j 0x10
      else
        let s := s.wrBytes out (List.replicate (tileOfs h 0) 0)
        s.setJob j { b with step := 1, res0 := 0 }
    else if b.step ≤ hExtJ h then
      let row := b.step - 1
      if room < tileOfs h (b.res0.toNat + g.rowTiles h rings row) then s.failJob j 0x26
      else
        let s := (List.range (hExtI h)).foldl (fun (s : State) i => s.buildTile j g h rings i row) s
        (s.jobStep j (b.step + 1)).jobProgress j (b.step * 100 / hExtJ h)
    else if s.jobSt j = 2 ∧ b.step = hExtJ h + 1 then s.buildEnd j h
    else s

/-! ## COVERAGE_EXPORT (08 R187) -/

/-- The export header, with its CRC. -/
def State.exportHeader (s : State) (t : DT) : List Byte :=
  let h := natLE 4 0x56435A43 ++ natLE 2 1 ++ natLE 1 (s.f R.TILEDIR_FIELD_STAT 9 8) ++ natLE 1 (s.f R.TILEDIR_FIELD_STAT 1 0) ++
    wordBytes (s.r R.TILEDIR_FIELD_ID_LO) ++ wordBytes (s.r R.TILEDIR_FIELD_ID_HI) ++
    natLE 4 (s.f R.TILEDIR_FIELD_STAT 23 16) ++ wordBytes (s.r R.TILEDIR_TILE_COUNT) ++ natLE 8 t ++ List.replicate 28 0
  h ++ wordBytes (crc32 h)

/-- The tile of an ordinal: the map bit with that many 1 bits below it. -/
def State.ordTile (s : State) (ord : Nat) : Tile :=
  let ei := s.f R.TILEDIR_EXTENT 15 0
  let nb := ei * s.f R.TILEDIR_EXTENT 31 16
  let map := leNat (s.rdBytes dirBase 0x8000)
  let b := ((bitsSet nb map)[ord]?).getD 0
  ⟨toSigned 16 (s.f R.TILEDIR_ORIGIN 15 0) + ((b % max 1 ei : Nat) : Int),
   toSigned 16 (s.f R.TILEDIR_ORIGIN 31 16) + ((b / max 1 ei : Nat) : Int)⟩

/-- COVERAGE_EXPORT: the header without its first word (log 7), then one tile, then the first word. -/
def State.exportTile (s : State) (j : Nat) : State :=
  let b := s.job j
  let out := b.num 12 8
  let tc := (s.r R.TILEDIR_TILE_COUNT).toNat
  if b.step = 0 then
    if b.num 20 4 < 64 + tc * 16392 then s.failJob j 0x26
    else if !s.listed out (64 + tc * 16392) then s.failJob j 0x10
    else ((s.wrBytes out (s.exportHeader s.dt)).wr32 out 0).jobStep j 1
  else if b.step ≤ tc then
    let i := b.step - 1
    let t := s.ordTile i
    let l := s.rdBytes (s.tileAddr i) 16384
    let s := s.wrBytes (out + 64 + i * 16392) (natLE 2 (ofSigned 16 t.x) ++ natLE 2 (ofSigned 16 t.y) ++ l ++ wordBytes (crc32 l))
    (s.jobStep j (b.step + 1)).jobProgress j (b.step * 100 / max 1 tc)
  else if s.jobSt j = 2 ∧ b.step = tc + 1 then (s.wr32 out 0x56435A43#32).jobFinish j 0 0
  else s

end Sys2Proof.Machine
end

