-- ==== Sys2Proof/Machine/FieldCmds.lean ====
section
/-!
DEFINITION. The meanings of FIELD_LOAD's steps, FIELD_UNLOAD, RASTER_BUILD and COVERAGE_EXPORT (08 R168 to R172, R187). A job's
DMA waits for the zero fill of LPDDR4X (06 R114).
-/
namespace Sys2Proof.Machine

/-- The job of a kind that can do work now. -/
def State.worker (s : State) (kind : Nat) : Option Nat := if s.b R.LPDDR_CFG 4 then s.activeJob kind else none

/-- FIELD_LOAD_TILE_COPY (08 R168 steps 1 to 4): the checks and the store, then one tile at a time, then FINAL_STEP; `sigOk`
is the outcome of the signature's verification. -/
def execFieldLoadTileCopy (sigOk : Bool) (s : State) : Host.Outcome State Fault Refusal :=
  done (match s.worker 2 with
    | some j =>
      if s.b (R.JOBS_JOB_STAT j) 7 then s
      else if (s.job j).step = 0 then (if s.jobSt j = 2 then s.loadBegin j sigOk else s)
      else s.loadTile j
    | none => s)

/-- The header of the file a FIELD_LOAD has staged, once its last step runs. -/
def State.stagedFile (s : State) (j : Nat) : Option (List Byte) :=
  if s.b (R.JOBS_JOB_STAT j) 7 ∧ (s.job j).step ≠ doneStep then some (s.rdBytes ((s.job j).num 12 8) 128) else none

/-- FIELD_LOAD_DRAIN_END (08 R168 step 5, R169). -/
def execFieldLoadDrainEnd (s : State) : Host.Outcome State Fault Refusal :=
  done (match s.activeJob 2 with
    | some j =>
      match s.stagedFile j with
      | some h =>
        let b := s.job j
        let end_ := (b.vals.getD 2 0).toNat + msDT (s.f R.TILEDIR_LOAD_CFG 15 8)
        if b.step = hTiles h + 2 ∧ ((s.backlogGens.filter (· != 0)) = [] ∨ end_ ≤ s.dt) then
          (s.discardOther (hIds h)).jobStep j (hTiles h + 3)
        else s
      | none => s
    | none => s)

/-- FIELD_SWAP (08 R168 step 6): never while PREDICT or a PROBE window runs. -/
def execFieldSwap (s : State) : Host.Outcome State Fault Refusal :=
  done (match s.activeJob 2 with
    | some j =>
      match s.stagedFile j with
      | some h => if (s.job j).step = hTiles h + 3 ∧ s.look.stage ≠ 1 ∧ s.look.stage ≠ 2 then s.fieldSwap j else s
      | none => s
    | none => s)

/-- FIELD_UNLOAD (08 R170). -/
def execFieldUnload (c : Cmd) (s : State) : Host.Outcome State Fault Refusal :=
  done (s.runCmd c (CmdSpec.mk' 0x0401 2 1 (c.badArg [] []) (!(s.mode == 1 || s.mode == 2))) (fun s =>
    let s :=
      if s.fieldLoaded then
        let s := (s.flushPantry.freePantry).discardBacklog (fun _ => true)
        (s.clearField.cancelExports).irq (R.TILEDIR 0) 0
      else s
    s.ok c 0 0))

/-- RASTER_BUILD_ROW (08 R172). -/
def execRasterBuildRow (s : State) : Host.Outcome State Fault Refusal :=
  done (match s.worker 3 with
    | some j => if (s.job j).step = doneStep then s else s.buildRow j
    | none => s)

/-- COVERAGE_EXPORT_TILE (08 R187): a step of the job in a slot. -/
def execCoverageExportTile (slot : Fin 16) (s : State) : Host.Outcome State Fault Refusal :=
  let j := slot.val
  done (if s.b R.LPDDR_CFG 4 = true ∧ s.jobKind j = 4 ∧ (s.jobSt j = 2 ∨ s.jobSt j = 3 ∨ s.jobSt j = 5) ∧ (s.job j).step ≠ doneStep then
      s.exportTile j
    else s)

end Sys2Proof.Machine
end

