-- ==== Sys2Proof/Machine/AtticCmds.lean ====
section
/-!
DEFINITION. The meanings of the Attic's commands and events (20).
-/
namespace Sys2Proof.Machine

/-- Is the Attic open (04 R75 step 9)? -/
def State.atticOpen (s : State) : Bool := decide (9 ≤ s.pkg.bootStep) && !s.pkg.cellar

/-- EVENT_RECORD_WRITE (20 R425, R428). -/
def execEventRecordWrite (ecc : Bool) (s : State) : Host.Outcome State Fault Refusal :=
  done (if s.atticOpen then s.writeHead ecc else s)

/-- EVR_CLEAR (20 R432). -/
def execEvrClear (c : Cmd) (s : State) : Host.Outcome State Fault Refusal :=
  let no := !([1, 2, 4, 5].contains s.mode) || !s.attic.evArchived
  done (s.runCmd c (CmdSpec.mk' 0x0D01 3 2 (c.badArg [] []) no) (fun s => s.clearLog.ok c 0 0))

/-- ARCHIVE_BLOCK (20 R434). -/
def execArchiveBlock (s : State) : Host.Outcome State Fault Refusal :=
  done (match s.worker 7 with
    | some j => s.archiveBlock j
    | none => s)

/-- LIFE_STATS_SAVE (20 R435). -/
def execLifeStatsSave (ue : Bool) (s : State) : Host.Outcome State Fault Refusal :=
  done (if s.atticOpen then s.lifeSave ue else s)

/-- LIFE_SECOND_TICK (20 R436). -/
def execLifeSecondTick (s : State) : Host.Outcome State Fault Refusal :=
  done (if s.pkg.cellar then s else s.lifeSecond)

/-- OPT_CHECKPOINT (04 R88). -/
def execOptCheckpoint (s : State) : Host.Outcome State Fault Refusal :=
  done (if s.atticOpen then s.optCheckpoint false else s)

end Sys2Proof.Machine
end

