-- ==== Sys2Proof/Machine/PoseCmds.lean ====
section
/-!
DEFINITION. The meanings of the pose commands and events (07).
-/
namespace Sys2Proof.Machine

/-- A record for the HOST source is accepted into the FIFO or dropped (07 R140). -/
def State.offerPose (s : State) (rec_ : List Word) : State :=
    let t := recDT rec_
    let late : Bool := match s.pose.hostNewest with | some n => decide (t ≤ n) | none => false
    if late = true ∨ s.dt + msDT 100 < t ∨ fld (nth rec_ 8) 27 19 ≠ 0 ∨ fld (nth rec_ 9) 15 0 ≠ 0 then s.flt (R.POSEIN 0) 0
    else
      let full := decide (4 ≤ s.pose.hostQ.length)
      let s := if full then s.flt (R.POSEIN 0) 1 else s
      { s with pose := { s.pose with
          hostQ := (if full then s.pose.hostQ.drop 1 else s.pose.hostQ) ++ [rec_], hostNewest := some t } }

/-- The ten words held are submitted, from an interface with an open session; while poses come over the ring they are
rejected (07 R140, 18 R393). -/
def State.submitPose (s : State) (o : Origin) : State :=
  let session := match o.slot with | some k => s.slotRole k != 0 | none => false
  if !session then s.flt (R.POSEIN 0) 2
  else if s.b R.SYSNET_CFG 15 then s.flt (R.POSEIN 0) 0
  else s.offerPose ((List.range 10).map (fun k => s.r (R.POSEIN_HOST_POSE k)))

/-- HOST_POSE_SUBMIT (07 R140): the write to HOST_POSE9 lands and submits the ten words held. -/
def hostPoseWrite (o : Origin) (v : Word) (s : State) : State := (s.w (R.POSEIN_HOST_POSE 9) v).submitPose o

/-- HOST_POSE_FUSE (07 R140): the oldest queued record whose DT has come is fused. -/
def execHostPoseFuse (s : State) : Host.Outcome State Fault Refusal :=
  done (match s.pose.hostQ with
    | l :: t => if recDT l ≤ s.dt then ({ s with pose := { s.pose with hostQ := t } }).measure 2 l else s
    | [] => s)

/-- A word kept for a master by a read of the first of its group (02 R32). -/
def State.keep (s : State) (o : Origin) (a : Nat) (v : Word) : State :=
  { s with host := { s.host with caps := SMap.put (fun _ => none) s.host.caps (o.code * 2 ^ 24 + a) (some v) } }

/-- A word of a master's capture, where it has one. -/
def State.captured (s : State) (o : Origin) (a : Nat) : Option Word :=
  SMap.get (fun _ => none) s.host.caps (o.code * 2 ^ 24 + a)

/-- What a read returned. -/
def State.returns (s : State) (l : List Word) : State := { s with host := { s.host with readData := l } }

/-- POSE_MEASUREMENT_FUSE (07 R138, R142, R143, R146). -/
def execPoseMeasurementFuse (src : Fin 4) (rec : List Word) (s : State) : Host.Outcome State Fault Refusal :=
  done (s.measure src.val (padWords 10 rec))

/-- Odometry that can carry the pose alone: TRACK or CYCLIC with counts (07 R142). -/
def State.odoLive (s : State) : Bool := s.axis != 0 && s.pose.odoLast.isSome

/-- The pose has gone without a qualifying measurement for STALE_MS (07 R138, R142). -/
def poseStale (s : State) : State :=
  let since := match s.pose.lastQual with | some t => s.dt - t | none => s.staleDT
  if s.staleDT ≤ since then
    let act := s.f R.POSEIN_SRC_STAT 1 0
    let s := match s.bestFresh with
      | some k => if act ≠ 0 ∧ k ≠ act then s.activate k else s
      | none => s
    if s.poseSt = 2 then s.setPoseSt (if s.imuLive || s.odoLive then 1 else 0) else s
  else s

/-- POSE_STALE. -/
def execPoseStale (s : State) : Host.Outcome State Fault Refusal := done (poseStale s)

/-- DR_MAX_EXPIRE (07 R142). -/
def execDrMaxExpire (s : State) : Host.Outcome State Fault Refusal :=
  let since := match s.pose.lastQual with | some t => s.dt - t | none => s.dt
  done (if s.poseSt = 1 ∧ msDT (s.f R.POSEIN_TIMING 31 16) ≤ since then s.setPoseSt 0 else s)

/-- Are two DTs within 50 ms of each other (07 R141)? -/
def near50 (a b : DT) : Bool := decide (a ≤ b + msDT 50) && decide (b ≤ a + msDT 50)

/-- FIX, HUNC and U of an NMEA 2000 measurement at a DT (18 R379, R380). -/
def State.n2kQuality (s : State) (bus : Nat) (t : DT) : Nat × Nat × Int :=
  match s.pose.n2kGnss with
  | some (d, m, hdop, u) =>
    if t ≤ d + sDT 2 then
      (match m with | 1 => 1 | 2 => 2 | 4 => 4 | 5 => 3 | _ => 0,
        min 0xFFFF ((hdop * s.f (R.CAN_CAN_CFG bus) 15 0 + 99) / 100), u)
    else (1, 0xFFFF, u)
  | none => (1, 0xFFFF, 0)

/-- Position, speed and course within 50 ms form one measurement; the older part is discarded otherwise (07 R141). -/
def State.n2kForm (s : State) (bus : Nat) (done_ : DT) : State :=
  match s.pose.n2kPos, s.pose.n2kSpd with
  | some (tp, e, n), some (tv, v, c) =>
    if near50 tp tv then
      let q := s.n2kQuality bus done_
      let t := done_ - usDT (s.f R.POSEIN_N2K_LAT 15 0)
      let rate : Option Int := match s.pose.n2kPrev with
        | some (t0, _, c0) =>
          if t0 < tv ∧ 500000 ≤ v.natAbs then some (rnd (angDiff c c0 * 25600000000) ((tv : Int) - t0)) else none
        | none => none
      let hd := match s.pose.n2kHdg with | some (_, h) => some h | none => none
      let w8 := q.1 * 2 ^ 28 + 2 ^ 18 + (if rate.isSome then 2 ^ 17 else 0) + (if hd.isSome then 2 ^ 16 else 0) + q.2.1
      let l := [nw t, nw (t / 2 ^ 32), wordOf e, wordOf n, wordOf q.2.2, nw (hd.getD c), wordOf v, wordOf (rate.getD 0),
        nw w8, 0xFFFF0000#32]
      let s := { s with pose := { s.pose with n2kPos := none, n2kSpd := none, n2kPrev := some (tv, v, c) } }
      s.measure 3 l
    else if tp < tv then { s with pose := { s.pose with n2kPos := none } }
    else { s with pose := { s.pose with n2kSpd := none } }
  | _, _ => s

/-- The bus NMEA 2000 pose is taken from: the lowest-numbered that enables it (18 R379). -/
def State.n2kBus (s : State) : Option Nat := (List.range 6).find? (fun b => s.b (R.CAN_CAN_CFG b) 28)

/-- One part of an NMEA 2000 measurement arrives (07 R141, 18 R379). -/
def n2kPart (bus : Nat) (sof : DT) (p : N2kPart) (s : State) : State :=
  if s.n2kBus = some bus then
    match p with
    | .position e n => ({ s with pose := { s.pose with n2kPos := some (sof, sword e, sword n) } }).n2kForm bus sof
    | .cogSog v c => ({ s with pose := { s.pose with n2kSpd := some (sof, sword v, c.toNat) } }).n2kForm bus sof
    | .gnss m h u => { s with pose := { s.pose with n2kGnss := some (sof, m, h, sword u) } }
    | .heading h => { s with pose := { s.pose with n2kHdg := some (sof, h.toNat) } }
  else s

/-- N2K_POSE_MEASUREMENT. -/
def execN2kPoseMeasurement (bus : Fin 6) (sof : BitVec 64) (part : N2kPart) (s : State) :
    Host.Outcome State Fault Refusal := done (n2kPart bus.val sof.toNat part s)

/-- N2K_GNSS_DATA_TIMEOUT (18 R380): without a PGN 129029 for 2 s the data of the last one count no more. -/
def execN2kGnssDataTimeout (s : State) : Host.Outcome State Fault Refusal :=
  done (match s.pose.n2kGnss with
    | some (d, _) => if d + sDT 2 ≤ s.dt then { s with pose := { s.pose with n2kGnss := none } } else s
    | none => s)

/-- A raw 16-bit value of an IMU burst (07 R144). -/
def imuRaw (le : Bool) (data : List Byte) (o : Nat) : Int :=
  let a := (data.getD o 0).toNat
  let b := (data.getD (o + 1) 0).toNat
  toSigned 16 (if le then a + 256 * b else 256 * a + b)

/-- An axis of the sensor named by an XMAP or YMAP code: the axis number and its sign (07 R144). -/
def imuAxis (code : Nat) : Nat × Int := (code / 2, if code % 2 = 0 then 1 else -1)

/-- Sensor values carried into the body axes; body z is x × y (07 R144). -/
def imuBody (cfg : Word) (v : List Int) : List Int :=
  let x := imuAxis (fld cfg 26 24)
  let y := imuAxis (fld cfg 29 27)
  let zi := 3 - x.1 - y.1
  let zs : Int := (if (x.1 + 1) % 3 = y.1 then 1 else -1) * x.2 * y.2
  [x.2 * v.getD x.1 0, y.2 * v.getD y.1 0, zs * v.getD zi 0]

/-- The stationary condition on a sample (07 R145): speed below 50 mm/s, gyro magnitude below 0.5 °/s. -/
def State.isStill (s : State) (g : List Int) : Bool :=
  let m := (g.map (fun x => x * x)).foldl (· + ·) 0
  let gs := sword (s.r R.IMU_GSCALE)
  decide (s.speed.natAbs < 50000) && decide (m * gs * gs * 720 * 720 < 2 ^ 80)

/-- Raw gyro and accelerometer values of a burst (07 R144). -/
def State.imuRaws (s : State) (data : List Byte) : List Int :=
  let cfg := s.r R.IMU_CFG
  let d := data.take (fld cfg 23 16)
  [R.IMU_OFFS_G, R.IMU_OFFS_A].flatMap (fun o =>
    [imuRaw (bit cfg 7) d (fld (s.r o) 7 0), imuRaw (bit cfg 7) d (fld (s.r o) 15 8),
      imuRaw (bit cfg 7) d (fld (s.r o) 23 16)])

/-- Samples in a row at intervals of 2 ms to 20 ms, this one included (07 R144). -/
def State.imuRunAt (s : State) (t : DT) : Nat :=
  match s.pose.imuLast with
  | some p => if p + msDT 2 ≤ t ∧ t ≤ p + msDT 20 then s.pose.imuRun + 1 else 0
  | none => 0

/-- Take a sample's values: counts, SATURATED, LIVE and the stationary condition (07 R144, R145). -/
def State.imuTake (s : State) (t : DT) (data : List Byte) : State :=
  let raw := s.imuRaws data
  let run := s.imuRunAt t
  let g := imuBody (s.r R.IMU_CFG) (raw.take 3)
  let still := s.isStill g
  let pose := { s.pose with
    imuLast := some t, imuRun := run, gyro := g, accel := imuBody (s.r R.IMU_CFG) (raw.drop 3),
    stillSince := if still then some (s.pose.stillSince.getD s.dt) else none }
  let s := ({ s with pose := pose }).inc R.IMU_STAT 31 16 1
  let s := if raw.any (fun x => x == -32768 || x == 32767) then s.flt (R.IMU 0) 1 else s
  let s := if 10 ≤ run then s.wb R.IMU_STAT 0 true else s
  if still then s else s.wb R.IMU_STAT 1 false

/-- While STATIONARY the z-gyro is averaged into GBIAS_Z; BIAS_VALID after 10 s (07 R145, log 5). -/
def State.imuBias (s : State) : State :=
  if s.b R.IMU_STAT 1 then
    let s := { s.w R.IMU_GBIAS_Z (Config.fused s.freeCtr 16) with freeCtr := s.freeCtr + 1 }
    match s.pose.stillSince with
    | some t0 => if t0 + sDT 12 ≤ s.dt then s.wb R.IMU_STAT 2 true else s
    | none => s
  else s

/-- The fused state at a sample, as the filter propagates it (07 R140, R146, log 5). -/
def State.imuPropagate (s : State) (t : DT) : State :=
  if s.imuLive = true ∧ s.poseSt ≠ 0 then
    let c := s.freeCtr
    let p := [nw t, nw (t / 2 ^ 32), Config.fused c 2, Config.fused c 3, Config.fused c 4, Config.fused c 5,
      Config.fused c 6, Config.fused c 7, s.r (R.POSEIN_LAST_POSE 8), s.r (R.POSEIN_LAST_POSE 9)]
    let s := { s with freeCtr := c + 1, pose := { s.pose with fusedLog := p :: s.pose.fusedLog } }
    if s.poseSt = 1 then s.setFused p else s
  else s

/-- An IMU sample (07 R144 to R146, R155). -/
def imuSample (t : DT) (data : List Byte) (s : State) : State :=
  if s.b R.IMU_CFG 31 then ((s.imuTake t data).imuBias).imuPropagate t else s

/-- IMU_DRDY_SAMPLE. -/
def execImuDrdySample (edge : BitVec 64) (data : List Byte) (s : State) : Host.Outcome State Fault Refusal :=
  done (imuSample edge.toNat data s)

/-- IMU_LOST (07 R142, R144). -/
def execImuLost (s : State) : Host.Outcome State Fault Refusal :=
  let quiet := match s.pose.imuLast with | some t => decide (t + msDT 20 ≤ s.dt) | none => true
  done (if s.b R.IMU_CFG 31 && quiet then
      let s := ((s.flt (R.IMU 0) 0).wb R.IMU_STAT 0 false).irq (R.IMU 0) 0
      let s := { s with pose := { s.pose with imuRun := 0 } }
      if s.poseSt = 1 then s.setPoseSt 0 else s
    else s)

/-- IMU_STATIONARY_DETECT (07 R145). -/
def execImuStationaryDetect (s : State) : Host.Outcome State Fault Refusal :=
  done (match s.pose.stillSince with
    | some t => if t + sDT 2 ≤ s.dt then s.wb R.IMU_STAT 1 true else s
    | none => s)

/-- Sensed hitch angle `k` (0, 1): (code − ZERO) × SPAN × 2^-28 turn; none while its AIN is invalid (07 R148). -/
def State.sensed (s : State) (k : Nat) : Option Nat :=
  let ch := if k = 0 then s.f R.GEOM_KIN 23 16 else s.f R.GEOM_KIN 31 24
  let cal := s.r (if k = 0 then R.GEOM_HITCH1_CAL else R.GEOM_HITCH2_CAL)
  let code := s.r (R.AING_AIN_CODE ch)
  if bit code 31 then some (angOf (((fld code 15 0 : Int) - fld cal 15 0) * toSigned 16 (fld cal 31 16) * 16)) else none

/-- Is hitch angle `k` taken from its sensor (HITCHn_SRC)? -/
def State.isSensed (s : State) (k : Nat) : Bool :=
  (if k = 0 then s.f R.GEOM_KIN 9 8 else s.f R.GEOM_KIN 13 12) == 1

/-- The hitch angle in use: sensed, or the estimate, with HITCH_SRC_LOST where the sensor is invalid (07 R148). -/
def State.useHitch (s : State) (k : Nat) : State :=
  let est := if k = 0 then s.pose.est1 else s.pose.est2
  let reg := if k = 0 then R.GEOM_HITCH_ANGLE1 else R.GEOM_HITCH_ANGLE2
  if s.isSensed k then
    match s.sensed k with
    | some a => s.w reg (nw a)
    | none => (s.w reg (nw est)).flt (R.GEOM 0) 1
  else s.w reg (nw est)

/-- Since when sensed and estimated differ by more than HITCH_TOL (07 R148). -/
def State.watchHitch (s : State) (k : Nat) : State :=
  let est := if k = 0 then s.pose.est1 else s.pose.est2
  let apart := match s.isSensed k, s.sensed k with
    | true, some a => decide (s.f R.GEOM_HITCH_TOL 15 0 * 65536 < (angDiff a est).natAbs)
    | _, _ => false
  let was := s.pose.hitchDiff.getD k none
  { s with pose := { s.pose with hitchDiff := s.pose.hitchDiff.set k (if apart then some (was.getD s.dt) else none) } }

/-- HITCH_ESTIMATE_TICK (07 R148): both estimates advance 1 ms unless the pose is INVALID. -/
def execHitchEstimateTick (s : State) : Host.Outcome State Fault Refusal :=
  let s1 := if s.poseSt = 0 then s
    else
      let g := s.heun s.speed (sword (s.r (R.POSEIN_LAST_POSE 7))) s.pose.est1 s.pose.est2 1000
      { s with pose := { s.pose with est1 := g.1, est2 := g.2 } }
  done ((((s1.useHitch 0).useHitch 1).watchHitch 0).watchHitch 1)

/-- HITCH_SENSED_RESTART (07 R148): each sensed angle restarts its estimate. -/
def execHitchSensedRestart (s : State) : Host.Outcome State Fault Refusal :=
  let e1 := match s.isSensed 0, s.sensed 0 with | true, some a => a | _, _ => s.pose.est1
  let e2 := match s.isSensed 1, s.sensed 1 with | true, some a => a | _, _ => s.pose.est2
  done { s with pose := { s.pose with est1 := e1, est2 := e2 } }

/-- HITCH_DISAGREE (07 R148): over HITCH_TOL for 500 ms. -/
def execHitchDisagree (hitch : Fin 2) (s : State) : Host.Outcome State Fault Refusal :=
  done (match s.pose.hitchDiff.getD hitch.val none with
    | some t =>
      if t + msDT 500 ≤ s.dt then (s.fltEv (R.GEOM 0) 0).forceEpoch 4 else s
    | none => s)

/-- The fused states that bracket a DT: the newest at or before it and the oldest at or after it. -/
def bracket (t : DT) : List (List Word) → Option (List Word) → Option (List Word × List Word)
  | [], _ => none
  | l :: rest, later =>
    if recDT l ≤ t then later.map (fun b => (l, b))
    else bracket t rest (some l)

/-- The bracket of a DT among the fused states kept, newest first. -/
def State.bracketAt (s : State) (t : DT) : Option (List Word × List Word) :=
  match s.pose.fusedLog.find? (fun l => recDT l == t) with
  | some l => some (l, l)
  | none => bracket t s.pose.fusedLog none

/-- Fused states older than the newest one at or before a DT are no more needed. -/
def trimLog (t : DT) : List (List Word) → List (List Word)
  | [] => []
  | l :: rest => if recDT l ≤ t then [l] else l :: trimLog t rest

/-- POSE_HISTORY_ENTRY (07 R155): the next boundary is bracketed; its interpolated entry is written. -/
def execPoseHistoryEntry (s : State) : Host.Outcome State Fault Refusal :=
  done (
    let f := s.pose.histNext
    if s.histCap = 0 ∨ s.mode = 0 ∨ s.poseSt = 0 then s
    else
      match s.bracketAt f with
      | none => s
      | some (a, b) =>
        let e := s.histForm f a b
        let s := e.2.histPush e.1
        { s with pose := { s.pose with fusedLog := trimLog f s.pose.fusedLog } })

/-- HISTORY_INVALID_ENTRY (07 R155): an INVALID entry; the first after a valid one raises source 120. -/
def execHistoryInvalidEntry (s : State) : Host.Outcome State Fault Refusal :=
  done (
    let f := s.pose.histNext
    let precedes := s.pose.fusedLog.any (fun l => decide (recDT l ≤ f))
    if s.histCap = 0 ∨ s.mode = 0 ∨ s.dt < f ∨ (precedes ∧ s.dt < f + s.staleDT) then s
    else
      let wasValid := decide (0 < s.pose.histN) && entryValid (s.histEntry 0)
      let s := s.histPush (s.histInvalid f)
      if wasValid then s.irq (R.HIST 0) 0 else s)

/-- CYCLIC_INDEX (07 R158): the index sets the angle, flags INDEX_ERR, or re-syncs. -/
def execCyclicIndex (s : State) : Host.Outcome State Fault Refusal :=
  done (
    if s.axis = 2 then
      let n := s.f R.GEOM_COUNTS_PER_TURN 23 0
      let off := ((s.pose.idxCount.natAbs : Int) - n).natAbs
      let ok := !s.pose.idxSeen || decide (off ≤ 2)
      let resync := ok && s.pose.idxSeen && !s.pose.idxOk
      let s := { s with pose := { s.pose with
        theta := (s.r R.GEOM_ANGLE_OFS).toNat, idxCount := 0, idxSeen := true, idxOk := ok, odoLast := some s.dt } }
      let s := if ok then s else (s.flt (R.GEOM 0) 2).setPoseSt 0
      if resync then s.forceEpoch 6 else s
    else s)

end Sys2Proof.Machine
end

