-- ==== Sys2Proof/Machine/PosnOps.lean ====
section
/-!
DEFINITION. Positioning solutions, RTK corrections, the GNSS-time mapping and the time pulses (17) as shared operations.
-/
namespace Sys2Proof.Machine

def State.setPosn (s : State) (p : Posn) : State := { s with posn := p }
def State.pin (s : State) (n : Nat) : TimePin := s.posn.pins.getD n TimePin.reset
def State.setPin (s : State) (n : Nat) (p : TimePin) : State :=
  { s with posn := { s.posn with pins := s.posn.pins.set n p } }

/-- One second in ns. -/
def secNs : Int := 1000000000

/-! ## Solutions (17 R358, R361) -/

/-- Age of the corrections in DT units. -/
def State.corrAge (s : State) : Option DT := s.posn.corr.map (fun t => s.dt - t)

/-- Are corrections held and within AGE_MAX? -/
def State.corrOk (s : State) : Bool :=
  match s.corrAge with
  | some a => decide (a ≤ sDT (s.f R.GNSSCTL_CORR_CFG 7 0))
  | none => false

/-- FIX of a solution: the highest row of R358 whose conditions hold. -/
def State.fixOf (s : State) (q : GnssSol) : Nat :=
  let rtk := s.b R.GNSSCTL_CFG 1 && s.corrOk && decide (5 ≤ q.rtkSats)
  if rtk && q.validated && !s.posn.float then 4
  else if rtk then 3
  else if s.b R.GNSSCTL_CFG 0 && q.sbasFresh && decide (4 ≤ q.sbasSats) then 2
  else if (if 1 < q.constellations then 5 else 4) ≤ q.sats then 1
  else 0

/-- Length in mm of the baseline between the configured antenna offsets (07 R146), rounded down. -/
def State.baseline (s : State) : Nat :=
  let d (a b : Nat) : Nat := (sword (s.r b) - sword (s.r a)).natAbs
  let x := d R.GEOM_ANT0_X R.GEOM_ANT1_X
  let y := d R.GEOM_ANT0_Y R.GEOM_ANT1_Y
  let z := d R.GEOM_ANT0_Z R.GEOM_ANT1_Z
  isqrt (x * x + y * y + z * z)

/-- Does the measured baseline agree with the configured one? -/
def State.baseAgrees (s : State) (mm : Nat) : Bool :=
  decide (((mm : Int) - s.baseline).natAbs ≤ s.f R.GNSSCTL_HDG_CFG 15 0)

/-- HDG_VALID of a solution (17 R361). -/
def State.hdgOk (s : State) (q : GnssSol) : Bool :=
  s.b R.GNSSCTL_CFG 2 && q.baseFixed && s.baseAgrees q.baseMm && decide (500 ≤ s.baseline)

/-- Report FIX with its source and, on leaving RTK fixed, its record (17 R358). -/
def State.setFix (s : State) (f : Nat) : State :=
  let old := s.f R.GNSSCTL_STAT 31 28
  if old = f then s
  else
    let s := (s.wf R.GNSSCTL_STAT 31 28 f).irq (R.GNSSCTL 0) 0
    if old = 4 ∧ f < 4 then s.evNow 0x12 (nw f) else s

/-- GNSSCTL.STAT of the newest epoch (17 R362). -/
def State.setGnssStat (s : State) (q : GnssSol) : State :=
  let age := match s.corrAge with | some a => min 255 (a / msDT 100) | none => 255
  ((s.wf R.GNSSCTL_STAT 21 16 (min 63 q.sats)).wf R.GNSSCTL_STAT 15 8 (min 255 q.pdop)).wf R.GNSSCTL_STAT 7 0 age

/-- The heading check of an epoch: HDG_STAT, its source, BASELINE after 10 epochs of disagreement (17 R361). -/
def State.setHeading (s : State) (q : GnssSol) (v : Bool) : State :=
  let bad := if s.b R.GNSSCTL_CFG 2 && !s.baseAgrees q.baseMm then s.posn.baseBad + 1 else 0
  let was := s.b R.GNSSCTL_HDG_STAT 0
  let s := s.setPosn { s.posn with baseBad := bad }
  let s := (s.wf R.GNSSCTL_HDG_STAT 31 16 (min 0xFFFF q.baseMm)).wb R.GNSSCTL_HDG_STAT 0 v
  let s := if bad = 10 then s.fltEv (R.GNSSCTL 0) 1 else s
  if was = v then s else s.irq (R.GNSSCTL 0) 2

/-- The INTERNAL record of a solution (07 R139): the epoch's DT, FIX and HDG_VALID as the service sets them. A record
without a position carries HUNC unknown. -/
def solRecord (q : GnssSol) (fix : Nat) (hdg : Bool) : List Word :=
  let w8 := putBit (setFld (nth q.rec_ 8 &&& 0x0007FFFF#32) 31 28 fix) 16 hdg
  let w8 := if fix = 0 then setFld w8 15 0 0xFFFF else w8
  [nw q.dt.toNat, nw (q.dt.toNat / 2 ^ 32)] ++ ((padWords 10 q.rec_).drop 2).take 6 ++ [w8, nth q.rec_ 9 &&& 0xFFFF0000#32]

/-- Observation records of the service's own channels (16 R350). -/
def State.observe (s : State) (l : List (Fin 256 × List Word)) : State :=
  l.foldl (fun (s : State) e => if s.gchHost e.1.val then s else s.ws (R.GCH_OBS e.1.val 0) (padWords 9 e.2)) s

/-! ## Time state (17 R363, R367 to R369) -/

/-- TP_STAT state of a pin: 0 NO_TIME, 1 LOCKED, 2 SLEWING, 3 HOLDOVER, 4 FLAGGED, 5 STOPPED, 6 STEP_PENDING. -/
def State.tpSt (s : State) (n : Nat) : Nat := s.f R.TPULSE_TP_STAT (4 * n + 3) (4 * n)

/-- A pin changes state: its record and source 334; a stopped pin is inactive. -/
def State.setTpSt (s : State) (n st : Nat) : State :=
  if s.tpSt n = st then s
  else
    let s := ((s.wf R.TPULSE_TP_STAT (4 * n + 3) (4 * n) st).irq (R.TPULSE 0) 2).evNow 0x11 (nw (16 * n + st))
    if st = 5 ∨ st = 0 then s.setPin n { s.pin n with stop := none, next := none } else s

/-- Both pins change state. -/
def State.setTime (s : State) (st : Nat) : State := (s.setTpSt 0 st).setTpSt 1 st

/-- Present time uncertainty in ns (17 R367). -/
def State.timeUnc (s : State) : Word :=
  if 3 ≤ s.tpSt 0 ∧ s.tpSt 0 ≤ 5 then
    nw (min 0xFFFFFFFF (s.posn.u0 + (s.f R.TPULSE_HOLDOVER 31 16 * (s.dt - s.posn.lossAt) + sDT 1 - 1) / sDT 1))
  else s.r R.TPULSE_T_UNC

/-- Replace the GNSS-time mapping under MAP_SEQ (02 R34). -/
def State.setMap (s : State) (adt : Nat) (ans : Int) (rate : Word) : State :=
  (((s.w64 R.TIME_GNSS_ADT_LO adt).w64 R.TIME_GNSS_ANS_LO (ans % 2 ^ 64).toNat).w R.TIME_GNSS_RATE rate).inc
    R.TIME_MAP_SEQ 31 0 2

/-- No pulse before a GNSS instant. -/
def State.firstPulse (s : State) (t : Int) : State :=
  (s.setPin 0 { s.pin 0 with first := t }).setPin 1 { s.pin 1 with first := t }

/-- A time state's first solution (17 R367): the mapping is set, the first pulse comes at the second after next. -/
def State.timeFirst (s : State) (q : GnssSol) : State :=
  let s := s.setMap q.dt.toNat q.timeNs q.rate
  (s.firstPulse ((fdiv q.timeNs secNs + 2) * secNs)).setTime 1

/-- The first GNSS second at least 600 ms after an instant (17 R369). -/
def stepSecond (t : Int) : Int := (fdiv (t + 600000000 + secNs - 1) secNs) * secNs

/-- A solution in HOLDOVER, FLAGGED or STOPPED with error `e` (17 R367). -/
def State.timeReturn (s : State) (q : GnssSol) : State :=
  let now := s.gnssNs q.dt.toNat
  let e := q.timeNs - now
  if e.natAbs < 1000 then (s.setPosn { s.posn with slew := e }).setTime 2
  else (s.setPosn { s.posn with step := e, stepAt := stepSecond now }).setTime 6

/-- An outage of the time pulse ends with a timing solution: its length is counted (20 R436). -/
def State.countOutage (s : State) : State :=
  let sec := (s.dt - s.posn.holdAt) / sDT 1
  let bin := if sec = 0 then 0 else min 15 (sec.log2 + 1)
  s.life (1179 + bin / 8) (bin % 8) 1

/-- A timing solution: DT_STAT.GNSS_VALID, the uncertainty, and the time state (17 R363, R367). -/
def State.timing (s : State) (q : GnssSol) : State :=
  let st := s.tpSt 0
  let unc := if 3 ≤ st ∧ st ≤ 5 then s.timeUnc else q.unc
  let s := s.setPosn { s.posn with timing := some q.dt.toNat, leap := (match q.leap with | some l => some l | none => s.posn.leap) }
  let s := ((if st = 0 then s.timeFirst q else if 3 ≤ st ∧ st ≤ 5 then s.countOutage.timeReturn q else s).w R.TPULSE_T_UNC unc).wb
    R.TIME_DT_STAT 3 true
  s

/-- The loss of timing (17 R367, R370): HOLDOVER; a step that waits is abandoned. -/
def State.timeLoss (s : State) : State :=
  let u := (s.r R.TPULSE_T_UNC).toNat
  let u := if s.tpSt 0 = 6 then s.posn.step.natAbs + u else u
  (s.setPosn { s.posn with u0 := u, lossAt := s.posn.timing.getD s.dt, holdAt := s.dt, slew := 0, step := 0 }).setTime 3

/-- The mapping of a new GNSS second (17 R363, R368): the fit while LOCKED, at most 50 ns of slew while SLEWING. -/
def State.timeInstall (s : State) (adt : Nat) (ans : Int) (rate : Word) : State :=
  match s.tpSt 0 with
  | 1 => s.setMap adt ans rate
  | 2 =>
    let d := clamp (-50) 50 s.posn.slew
    let left := s.posn.slew - d
    let s := (s.setMap adt (s.gnssNs adt + d) rate).setPosn { s.posn with slew := left }
    if left = 0 then s.setTime 1 else s
  | _ => s

/-! ## Pulses (17 R364 to R366) -/

/-- Configuration in force for a pulse at a GNSS instant: EN, POL and HOLD_POLICY of the register, the rest from the second
at which a write takes effect. -/
def State.tpCfg (s : State) (n : Nat) (at_ : Int) : Word :=
  let v := s.r (R.TPULSE_TP_CFG n)
  if (s.pin n).chg ≤ at_ then v else (v &&& 0xD0000000#32) ||| ((s.pin n).cfg &&& 0x2FFFFFFF#32)

/-- Period in ns. -/
def tpPeriod (c : Word) : Int :=
  match fld c 25 24 with | 0 => 1000000000 | 1 => 500000000 | 2 => 200000000 | _ => 100000000

/-- After a write of TP_CFGn whose old value was `old`: a new period, timebase or width waits for the next whole second; a
step at that second acts first (17 R364, R370). -/
def State.tpWrite (s : State) (n : Nat) (old : Word) : State :=
  let now := s.gnssNs s.dt
  let inForce := if (s.pin n).chg ≤ now then old else (s.pin n).cfg
  let next := (fdiv now secNs + 1) * secNs
  let next := if s.tpSt n = 6 ∧ s.posn.stepAt = next then next + secNs else next
  let s := s.setPin n { s.pin n with cfg := inForce, chg := next }
  if s.b (R.TPULSE_TP_CFG n) 31 then s else s.setPin n { s.pin n with stop := none, next := none }

/-- May a pin pulse: EN set, a time state that pulses, the leap-second count known for UTC? -/
def State.tpRuns (s : State) (n : Nat) (c : Word) : Bool :=
  bit c 31 && s.tpSt n != 0 && s.tpSt n != 5 && (!bit c 29 || s.posn.leap.isSome)

/-- The ideal instant of a pulse in ps of DT (17 R365). -/
def State.tpIdeal (s : State) (n : Nat) (at_ : Int) : Int :=
  let k : Int := 2 ^ 40 + sword (s.r R.TIME_GNSS_RATE)
  -- the slew decided for the second of the pulse
  let d := if s.tpSt n = 2 ∧ fdiv (s.gnssNs s.dt) secNs < fdiv at_ secNs then clamp (-50) 50 s.posn.slew else 0
  let ans : Int := s.r64 R.TIME_GNSS_ANS_LO + d
  let cable := s.f R.TPULSE_CABLE (16 * n + 15) (16 * n)
  fdiv ((s.r64 R.TIME_GNSS_ADT_LO : Int) * 625 * k + 16000 * (at_ - ans) * 2 ^ 40) (16 * k) - toSigned 16 cable * 1000

/-- The grid point nearest an ideal instant, ties later (17 R365). -/
def pulseGrid (i : Int) : Int := fdiv (i + 1250) 2500

/-- The next pulse of a pin, in GNSS ns. -/
def State.tpNext (s : State) (n : Nat) : Int :=
  let now := s.gnssNs s.dt
  let after (p : Int) : Int := (fdiv now p + 1) * p
  let a := after (tpPeriod (s.tpCfg n now))
  let p := max a (s.pin n).first
  -- a change of period between now and the pulse
  if (s.pin n).chg ≤ p ∧ now < (s.pin n).chg then max (s.pin n).first (min a (s.pin n).chg) else p

/-- Seconds from 1970-01-01 to 1980-01-06. -/
def gpsUnix : Int := 315964800

/-- The TIME_PULSE_INFO message (17 R366). -/
def State.tpMessage (s : State) (n : Nat) (at_ : Int) (c : Word) (om : Bool) : List Word :=
  let i := s.tpIdeal n at_
  let g := pulseGrid i
  let utc := bit c 29
  let inst := if utc then at_ - s.posn.leap.getD 0 * secNs + gpsUnix * secNs else at_
  let w (x : Int) (k : Nat) : Word := nw ((x % 2 ^ 64).toNat / 2 ^ k)
  let flags := (if utc then 1 else 0) + (if om then 6 else 0) + (if s.posn.leap.isSome then 8 else 0)
  let epoch := s.f R.TIME_GNSS_EPOCH 15 0 + (if om then 1 else 0)
  [nw (1 + n * 256 + (s.pin n).seq * 65536), w inst 0, w inst 32, w (64 * g) 0, w (64 * g) 32, wordOf (i - 2500 * g),
   (if om then wordOf s.posn.step else s.timeUnc),
   nw (s.tpSt n + flags * 256 + (ofSigned 8 (s.posn.leap.getD 0)) * 65536 + epoch % 256 * 2 ^ 24)]

/-- Offset of INFOn_0. -/
def infoOfs (n : Nat) : Nat := if n = 0 then R.TPULSE_INFO0_ 0 else R.TPULSE_INFO1_ 0

/-- Publish the message of the next pulse once it is near enough (17 R366). -/
def State.tpPublish (s : State) (n : Nat) : State :=
  let at_ := s.tpNext n
  let c := s.tpCfg n at_
  let lead := min 500000000 (tpPeriod c / 2)
  let told := match (s.pin n).next with | some e => decide (at_ ≤ e.1) | none => false
  if !s.tpRuns n c || told || decide (s.gnssNs s.dt < at_ - lead) then s
  else
    let om := decide (s.tpSt n = 6 ∧ at_ = s.posn.stepAt)
    let p := s.pin n
    let s := s.setPin n { p with seq := (p.seq + 1) % 65536 }
    let t := (64 * pulseGrid (s.tpIdeal n at_)).toNat
    let s := (s.ws (infoOfs n) (s.tpMessage n at_ c om)).irq (R.TPULSE 0) 0
    s.setPin n { s.pin n with next := some (at_, t, om) }

/-- Issue an announced pulse (17 R364). -/
def State.tpPulse (s : State) (n : Nat) : State :=
  match (s.pin n).next with
  | some (at_, t, om) =>
    let c := s.tpCfg n at_
    if s.tpRuns n c ∧ t ≤ s.dt ∧ om = false ∧ (s.pin n).stop = none then
      (s.setPin n { s.pin n with stop := some (t + usDT (fld c 19 0)), next := none }).irq (R.TPULSE 0) 1
    else s
  | none => s

/-- The pulse's width has passed. -/
def State.tpEnd (s : State) (n : Nat) : State :=
  match (s.pin n).stop with
  | some t => if t ≤ s.dt then s.setPin n { s.pin n with stop := none } else s
  | none => s

/-- The shortest period of the enabled pins. -/
def State.tpShort (s : State) : Int :=
  (List.range 2).foldl (fun m n =>
    let c := s.r (R.TPULSE_TP_CFG n)
    if bit c 31 then min m (tpPeriod c) else m) secNs

/-- The step at second S (17 R369). -/
def State.tpStep (s : State) : State :=
  if s.tpSt 0 = 6 ∧ s.posn.stepAt ≤ s.gnssNs s.dt then
    let e := min s.posn.step s.tpShort
    let at_ := s.posn.stepAt
    -- DT of S on the old scale
    let k : Int := 2 ^ 40 + sword (s.r R.TIME_GNSS_RATE)
    let adt := (s.r64 R.TIME_GNSS_ADT_LO : Int) + fdiv ((at_ - s.r64 R.TIME_GNSS_ANS_LO) * 256 * 2 ^ 40) (10 * k)
    let s := ((s.setMap adt.toNat (at_ + e) (s.r R.TIME_GNSS_RATE)).inc R.TIME_GNSS_EPOCH 15 0 1).irq (R.TIME 0) 1
    let s := (s.satInc R.TPULSE_TP_STAT 31 16 1).fltEv (R.TPULSE 0) 0
    let s := s.firstPulse (at_ + secNs)
    let left := s.posn.step - e
    if left = 0 then (s.setPosn { s.posn with step := 0 }).setTime 1
    else s.setPosn { s.posn with step := left, stepAt := at_ + secNs }
  else s

/-! ## Corrections (17 R359, R360) -/

/-- One bit step of CRC-24Q. -/
def crc24Bit (c : Nat) (b : Bool) : Nat :=
  let c2 := c * 2 % 2 ^ 24
  if (c.testBit 23) != b then c2 ^^^ 0x864CFB else c2

/-- CRC-24Q of bytes. -/
def crc24 (l : List Byte) : Nat :=
  l.foldl (fun c x => [7, 6, 5, 4, 3, 2, 1, 0].foldl (fun c i => crc24Bit c (x.getLsbD i)) c) 0

/-- The number a big-endian byte list spells. -/
def beNat (l : List Byte) : Nat := l.foldl (fun n b => n * 256 + b.toNat) 0

/-- `n` bits from bit `i` of a message, most significant first. -/
def msgBits (l : List Byte) (i n : Nat) : Nat :=
  let e := (i + n + 7) / 8
  beNat ((l.take e).drop (i / 8)) / 2 ^ (8 * e - i - n) % 2 ^ n

/-- MSM types that are taken: GPS, Galileo, QZSS, BeiDou. -/
def msmType (t : Nat) : Bool :=
  [1074, 1094, 1114, 1124].any (fun b => decide (b ≤ t) && decide (t ≤ b + 3))

/-- The ambiguities are reset: the next record is at most float (17 R360). -/
def State.baseChange (s : State) (id : Nat) : State := (s.setPosn { s.posn with float := true }).evNow 0x13 (nw id)

/-- A reference point: a new station ID, or a move of more than 1.0 m, in units of 0.1 mm. -/
def State.takeBase (s : State) (id : Nat) (x y z : Int) : State :=
  let ch := match s.posn.base with
    | some (i, a, b, c) => i != id || decide (10 ^ 8 < (x - a) * (x - a) + (y - b) * (y - b) + (z - c) * (z - c))
    | none => false
  let s := s.setPosn { s.posn with base := some (id, x, y, z) }
  if ch then s.baseChange id else s

/-- DT of an MSM epoch time in ms of the week: the instant nearest now, on the mapping in force; now where there is none. -/
def State.msmDt (s : State) (ms : Nat) : DT :=
  if s.b R.TIME_DT_STAT 3 then
    let week : Int := 604800000000000
    let d := ((ms : Int) * 1000000 - s.gnssNs s.dt + week / 2) % week - week / 2
    ((s.dt : Int) + fdiv (d * 256) 10).toNat
  else s.dt

/-- A frame's message; the answer tells whether it was taken (1), discarded (0). -/
def State.rtcmMsg (s : State) (m : List Byte) : Nat × State :=
  let t := msgBits m 0 12
  let id := msgBits m 12 12
  let short := (0, s.satInc R.GNSSCTL_RTCM_STAT 15 0 1)
  if t = 1005 ∨ t = 1006 then
    if m.length < (if t = 1005 then 19 else 21) then short
    else (1, s.takeBase id (toSigned 38 (msgBits m 34 38)) (toSigned 38 (msgBits m 74 38)) (toSigned 38 (msgBits m 114 38)))
  else if msmType t then
    if m.length < 7 then short
    else
      let ms := msgBits m 24 30 + (if 1124 ≤ t then 14000 else 0)
      -- bit 54: more messages of this epoch follow
      if msgBits m 54 1 = 1 then (1, s)
      else (1, s.setPosn { s.posn with corr := some (s.msmDt ms), corrLost := false })
  else if t = 1033 then (1, s)
  else (0, s.satInc R.GNSSCTL_RTCM_STAT 31 16 1)

/-- What the byte stream yields: frames taken, frames discarded, the state, the bytes of a frame that goes on. `on`: the
feed is the one chosen; frames of another feed are discarded. -/
def State.rtcmBytes (on : Bool) : Nat → State → Nat → Nat → List Byte → Nat × Nat × State × List Byte
  | 0, s, a, d, l => (a, d, s, l)
  | _ + 1, s, a, d, [] => (a, d, s, [])
  | k + 1, s, a, d, b :: t =>
    if b ≠ 0xD3#8 then State.rtcmBytes on k s a d t
    else
      let l := b :: t
      let n := beNat ((l.take 3).drop 1)
      if l.length < 3 ∨ (n < 1024 ∧ l.length < n + 6) then (a, d, s, l)
      else
        let good := decide (n < 1024 ∧ 2 ≤ n ∧ crc24 (l.take (n + 3)) = beNat ((l.drop (n + 3)).take 3))
        let rest := if n < 1024 then l.drop (n + 6) else t
        if !on then State.rtcmBytes on k s a (d + 1) rest
        else if !good then State.rtcmBytes on k (s.satInc R.GNSSCTL_RTCM_STAT 15 0 1) a (d + 1) rest
        else
          let r := s.rtcmMsg ((l.drop 3).take n)
          State.rtcmBytes on k r.2 (a + r.1) (d + 1 - r.1) rest

/-- Bytes of feed `src` (0 RTCM_FEED, 1 to 4 the streams): frames taken and discarded. -/
def State.rtcmFeed (s : State) (src : Nat) (data : List Byte) : Nat × Nat × State :=
  let on := s.f R.GNSSCTL_CORR_CFG 18 16 == src
  let held := if on && s.posn.rtcmSrc == src then s.posn.rtcm else []
  let l := held ++ data
  let r := State.rtcmBytes on (l.length + 1) s 0 0 l
  let s := r.2.2.1
  (r.1, r.2.1, if on then s.setPosn { s.posn with rtcm := r.2.2.2, rtcmSrc := src } else s)

end Sys2Proof.Machine
end

