-- ==== Sys2Proof/Machine/MeterCmds.lean ====
section
/-!
DEFINITION. The meanings of the metering commands, of FLOW_CALIBRATE, FIELD_SELFTEST and DELAY_LEARN_SWEEP (10 R220, R235 to
R237; 11 R261; 12 R277).
-/
namespace Sys2Proof.Machine

/-! ## Rates and totals (10 R220, R235) -/

/-- RATE_SWITCH (10 R220): the staged tables act at the next frame boundary. -/
def execRateSwitch (c : Cmd) (s : State) : Host.Outcome State Fault Refusal :=
  done (s.runCmd c (CmdSpec.mk' 0x0510 2 2 (c.badArg [] []) false) (fun s =>
    ({ s with meter := { s.meter with rateReq := s.meter.rateReq ++ [c] } }).chg (R.METER 0)))

/-- TOTALS_RESET (10 R220, R235): it acts at the next frame boundary. -/
def execTotalsReset (c : Cmd) (s : State) : Host.Outcome State Fault Refusal :=
  let wrong := need 8 (decide (c.byte 8 < 16)) ++ need 9 (decide (c.byte 9 < 4))
  done (s.runCmd c (CmdSpec.mk' 0x0511 1 1 (c.badArg [(8, 9)] wrong) false) (fun s =>
    { s with meter := { s.meter with resetReq := s.meter.resetReq ++ [c] } }))

/-- TOTALS_CHECKPOINT (10 R235). -/
def execTotalsCheckpoint (s : State) : Host.Outcome State Fault Refusal :=
  done (if s.pkg.cellar then s else s.checkpointTotals)

/-- FLOW_METER_LOST (10 R237). -/
def execFlowMeterLost (p : Fin 4) (s : State) : Host.Outcome State Fault Refusal :=
  let old (t : Option DT) : Bool := match t with | some x => decide (x + sDT 2 ≤ s.dt) | none => true
  let tgt : Bool := match s.meter.tgtSince.getD p.val none with | some x => decide (x + sDT 2 ≤ s.dt) | none => false
  done (if s.b (R.METER_PCFG p.val) 23 = true ∧ tgt = true ∧ old (s.meter.flowLast.getD p.val none) = true then
      ((s.w (R.METER_FLOW_MEAS p.val) 0).wb (R.METER_PSTAT p.val) 2 true).fltEv (R.METER 0) 3
    else s)

/-! ## FLOW_CALIBRATE (10 R236) -/

/-- Start of the running step, and the flow count there. -/
def Job.since (b : Job) : DT := (b.vals.getD 0 0).toNat

/-- Flow-meter pulses since the RUN step began. -/
def State.calPulses (s : State) (b : Job) : Nat :=
  let fin := fld (s.r (R.METER_PCFG (b.num 13 1 % 4))) 27 24
  ((s.r (R.FING_F_COUNT fin)).toNat + 2 ^ 32 - (b.vals.getD 1 0).toNat) % 2 ^ 32

/-- Is an outlet that the job runs stopped by a protection action or a trip? -/
def State.outletStopped (s : State) (id : Nat) : Bool :=
  let g := oTarget s.tbl id
  match oKind s.tbl id with
  | 0 | 1 => s.chSt g == cFault || s.regSt (regionOf g) != 2 || s.regTripped (regionOf g) || s.fieldSafe
  | 2 => s.bstBlocked g
  | 3 => s.clTripped (g % 48 / 8)
  | 4 => s.dioWant g && !s.dioConducts g
  | _ => false

/-- The RUN step ends: outputs off; the job waits for its measurement (10 R236). -/
def State.runEnds (s : State) (j measure : Nat) : State :=
  let b := s.job j
  let meth := b.num 12 1
  let pulses := s.calPulses b
  let stop := (s.calOutlets j).any s.outletStopped
  let reached := if meth = 0 then decide (b.num 28 4 ≤ pulses) else decide (b.num 28 4 ≤ measure)
  let late := decide (b.since + msDT (b.num 32 4) ≤ s.dt)
  if !stop && !reached && !late then s
  else
    let s := s.calOff j
    let s := s.setJob j { s.job j with step := 3, vals := [s.dt, b.vals.getD 1 0, (pulses : Int), (measure : Int)] }
    if stop then s.failJob j 0x44
    else if meth = 0 ∧ pulses < 100 then s.failJob j 0x40
    else s

/-- CAL_STEP_END (10 R236): `measure` is what was measured outside the model: revolutions in Q16.16 for METER, the mean AIN
code for PZERO and PSPAN; `unstable`: its standard deviation was above 1 % of its mean. -/
def execCalStepEnd (measure : BitVec 32) (unstable : Bool) (s : State) : Host.Outcome State Fault Refusal :=
  done (match s.activeJob 5 with
    | some j =>
      let b := s.job j
      if b.step = 1 then s.runEnds j measure.toNat
      else if b.step = 2 ∧ b.since + sDT 2 ≤ s.dt then
        (if unstable then s.failJob j 0x43 else s.setJob j { b with step := 4, vals := [s.dt, 0, 0, (measure.toNat : Int)] })
      else s
    | none => s)

/-- Is a calibration job in WAIT? -/
def State.calWaits (s : State) (j : Nat) : Bool := s.jobKind j == 5 && s.jobSt j == 2 && (s.job j).step == 3

/-- CAL_MEASURE (10 R220, R236). -/
def execCalMeasure (c : Cmd) (s : State) : Host.Outcome State Fault Refusal :=
  let h := s.findJob c.handle.toNat
  let conflict := match h with | some j => !s.calWaits j | none => false
  let k := CmdSpec.mk' 0x0512 3 2 (c.badArg [(8, 11)] []) conflict
  done (s.runCmd c { k with noJob := h.isNone } (fun s =>
    match s.findJob c.handle.toNat with
    | some j =>
      let b := s.job j
      ((s.setJob j { b with step := 4, vals := b.vals ++ [(c.num 8 4 : Int)] }).chg (R.METER 0)).ok c 0 0
    | none => s))

/-- CAL_WAIT_EXPIRE (10 R236). -/
def execCalWaitExpire (s : State) : Host.Outcome State Fault Refusal :=
  done (match s.activeJob 5 with
    | some j =>
      let b := s.job j
      if b.step = 3 ∧ b.since + sDT (b.num 36 4) ≤ s.dt then s.failJob j 0x42 else s
    | none => s)

/-- Register a method writes, and its old value. -/
def State.calReg (s : State) (meth p : Nat) : Nat × Int :=
  match meth with
  | 0 => (R.METER_PPU p, (s.r (R.METER_PPU p)).toNat)
  | 1 => (R.METER_UNITS_PER_REV p, (s.r (R.METER_UNITS_PER_REV p)).toNat)
  | 2 => (R.METER_PZERO p, s.f (R.METER_PZERO p) 15 0)
  | _ => (R.METER_PSPAN p, sword (s.r (R.METER_PSPAN p)))

/-- Quotient of a calibration, rounded to nearest and kept in the register's range; a zero divisor gives a free value
(log 5). -/
def State.calDiv (s : State) (n d lo hi : Int) : Int × State :=
  if d = 0 then
    let f := s.freeBits 32
    (clamp lo hi (toSigned 33 f.1), f.2)
  else (clamp lo hi (rdiv n d), s)

/-- The new value of a method (10 R236). -/
def State.calNew (s : State) (b : Job) (meth : Nat) : Int × State :=
  let meas := b.vals.getD 4 0
  match meth with
  | 0 => s.calDiv (b.vals.getD 2 0 * 2 ^ 32) meas 1 (2 ^ 32 - 1)
  | 1 => s.calDiv (meas * 2 ^ 16) (b.vals.getD 3 0) 1 (2 ^ 32 - 1)
  | 2 => (clamp 0 0xFFFF (b.vals.getD 3 0), s)
  | _ => s.calDiv (b.num 28 4 : Int) (b.vals.getD 3 0 - s.f (R.METER_PZERO (b.num 13 1 % 4)) 15 0) (-2 ^ 31) (2 ^ 31 - 1)

/-- An audited write made by a job: a REG_WRITE or RECORD_WRITE record with origin FIRMWARE (19 R417). -/
def fwWrite (typ o idx : Nat) (vals : List (Word × Word)) : AudRec :=
  { typ := typ, origin := 0x30, role := 0xF, result := 0, sess := 0, changed := 2 ^ vals.length - 1, w3 := nw o, w4 := nw idx, vals := vals }

/-- APPLY: the last step writes the new value (10 R236). Where the log has no room for its record, the job fails with a
DETAIL the spec does not give (log 5). -/
def State.calApply (s : State) (j : Nat) : State :=
  let b := s.job j
  let meth := b.num 12 1
  let old := s.calReg meth (b.num 13 1 % 4)
  let r := (s.jobFinal j).calNew b meth
  let s := r.2
  if b.num 40 1 = 0 ∧ old.2.natAbs < 4 * (r.1 - old.2).natAbs then s.failJob j 0x41
  else if !s.audCfg 1 then
    let d := s.freeBits 8
    d.2.failJob j d.1
  else
    let v := wordOf r.1
    let s := (s.audit (fwWrite 1 old.1 0 [(wordOf old.2, v)])).w old.1 v
    let s := ((s.storeWrite old.1 v).chg (R.METER 0)).reopenRegions j
    s.jobFinish j v (wordOf old.2)

/-- CAL_APPLY (10 R236). -/
def execCalApply (s : State) : Host.Outcome State Fault Refusal :=
  done (match s.activeJob 5 with
    | some j => if (s.job j).step = 4 ∧ s.jobSt j = 2 then s.calApply j else s
    | none => s)

/-! ## FIELD_SELFTEST (11 R261) -/

/-- Channels a self-test selects, from a number on. -/
def Job.testChans (b : Job) (n : Nat) : List Nat := (bitsSet 192 (b.num 12 24)).filter (fun c => decide (n ≤ c))

/-- One channel's tests are over: its result. -/
def State.testResult (s : State) (j n flt res ind : Nat) : State :=
  let b := s.job j
  let i := b.vals.length
  let v := s.field (regionOf n)
  let s := s.wrBytes (b.num 40 8 + 16 * i) (natLE 1 n ++ natLE 1 flt ++ [0, 0] ++ natLE 4 res ++ natLE 4 ind ++ natLE 4 v)
  let s := (bitsSet 6 flt).foldl (fun (s : State) k => s.chFault n k) s
  let bad := (nth b.buf 1).toNat + (if flt = 0 then 0 else 1)
  let s := s.setJob j { s.job j with step := n + 1, vals := b.vals ++ [(n : Int)], buf := [nth (s.job j).buf 0, nw bad] }
  s.jobProgress j ((i + 1) * 100 / max 1 (b.testChans 0).length)

/-- SELFTEST_CHANNEL_DONE (11 R261): the next selected channel's tests: whether its region's switch closed and the field
voltage there, the fault bits collected, resistance and inductance of the coil. With none left the job completes. -/
def execSelftestChannelDone (closes : Bool) (v : BitVec 16) (flt : Byte) (res ind : BitVec 32) (s : State) :
    Host.Outcome State Fault Refusal :=
  done (match s.activeJob 9 with
    | some j =>
      let b := s.job j
      if b.step = doneStep then s
      else
        match b.testChans b.step with
        | [] =>
          if s.jobSt j = 2 then (s.reopenRegions j).jobFinish j (nw b.vals.length) (nth b.buf 1) else s
        | n :: _ =>
          if b.num 48 4 < 16 * (b.vals.length + 1) then s.failJob j 0x26
          else if !s.listed (b.num 40 8 + 16 * b.vals.length) 16 then s.failJob j 0x10
          else
            let r := s.jobClose j (regionOf n) v.toNat closes
            let tests := b.num 36 1
            let coil := decide (2 ≤ tests)
            if r.2 then
              r.1.testResult j n (if tests = 0 then 0 else flt.toNat) (if coil then res.toNat else 0) (if coil then ind.toNat else 0)
            else r.1.failJob j 0x50
    | none => s)

/-! ## DELAY_LEARN_SWEEP (12 R277) -/

/-- Lower median of results. -/
def lowerMedian (l : List Nat) : Nat := ((sortKey id l)[(l.length - 1) / 2]?).getD 0

/-- One outlet's line of the result buffer; the count of seeded outlets is in the job's second word. -/
def State.sweepLine (s : State) (j id code band : Nat) (on off : List Nat) : State :=
  let b := s.job j
  let line := natLE 2 id ++ natLE 1 code ++ natLE 1 band ++ natLE 4 (lowerMedian on) ++ natLE 4 (lowerMedian off) ++
    natLE 2 on.length ++ natLE 2 off.length
  let s := s.wrBytes (b.num 24 8 + 16 * b.step) line
  let n := (nth b.buf 1).toNat + (if code = 0 then 1 else 0)
  let s := s.setJob j { s.job j with step := b.step + 1, buf := [nth (s.job j).buf 0, nw n] }
  s.jobProgress j ((b.step + 1) * 100 / max 1 (b.num 14 2))

/-- The medians become the learned delays of the band in force, as one audited write; runs, counters and suspect state are
cleared (12 R277). -/
def State.seed (s : State) (id band on off : Nat) : State :=
  let x := s.learnOf id
  let v (b : Bool) : Word := nw (x.val b band)
  let s := s.audit (fwWrite 2 (R.MOTION 0x32C) id [(v true, nw (on * 256)), (v false, nw (off * 256))])
  let y := (x.put true band (on * 256)).put false band (off * 256)
  (s.setLearn id { y with on := LearnDir.reset, off := LearnDir.reset }).chg (R.MOTION 0)

/-- Verdict on an outlet that was swept: SEEDED 0, FEW_RESULTS 1, OUT_OF_BOUNDS 2, FAULT 4. -/
def State.sweepCode (s : State) (id reps : Nat) (fault : Bool) (on off : List Nat) : Nat :=
  let ok (b : Bool) (l : List Nat) : Bool :=
    decide ((oBounds s.tbl id b).1 ≤ lowerMedian l) && decide (lowerMedian l ≤ (oBounds s.tbl id b).2)
  if fault then 4 else if 2 * on.length < reps ∨ 2 * off.length < reps then 1
  else if ok true on && ok false off then 0 else 2

/-- SWEEP_OUTLET_DONE (12 R277): the next outlet's actuations: whether its region's switch closed and the field voltage,
whether a fault ended them, the results in each direction in µs. With none left the job completes. -/
def execSweepOutletDone (closes : Bool) (v : BitVec 16) (fault : Bool) (on off : List (BitVec 24)) (s : State) :
    Host.Outcome State Fault Refusal :=
  done (match s.activeJob 6 with
    | some j =>
      let b := s.job j
      let id := b.num 12 2 + b.step
      if b.step = doneStep then s
      else if b.num 14 2 ≤ b.step then
        (if s.jobSt j = 2 then
          let n := nth b.buf 1
          (s.reopenRegions j).jobFinish j n (nw (b.num 14 2 - n.toNat))
         else s)
      else if b.num 32 4 < 16 * (b.step + 1) then s.failJob j 0x26
      else if !s.listed (b.num 24 8 + 16 * b.step) 16 then s.failJob j 0x10
      else if !(oEn s.tbl id && oLocal s.tbl id) then s.sweepLine j id 3 0 [] []
      else
        let g := regionOf (oTarget s.tbl id)
        let r := s.jobClose j g v.toNat closes
        if r.2 then
          let s := r.1
          let band := (s.region g).band
          let on := (on.map (·.toNat)).take (b.num 16 1)
          let off := (off.map (·.toNat)).take (b.num 16 1)
          let code := s.sweepCode id (b.num 16 1) fault on off
          if code = 0 ∧ !s.audCfg 1 then
            let d := s.freeBits 8
            d.2.failJob j d.1
          else
            let s := if code = 0 then s.seed id band (lowerMedian on) (lowerMedian off) else s
            s.sweepLine j id code band on off
        else r.1.failJob j 0x50
    | none => s)

end Sys2Proof.Machine
end

