-- ==== Sys2Proof/Machine/ResetOps.lean ====
section
/-!
DEFINITION. The package reset: what each source keeps (04 R73, R74), and the end of a firmware trial (19 R406).
-/
namespace Sys2Proof.Machine

/-- The sources of a package reset, in the order of RESET.CAUSE (04 R74). -/
inductive ResetSrc where
  | por | mainRail | pin | sw | wdog | sec | wake
  deriving DecidableEq, Repr

/-- Bit of RESET.CAUSE. -/
def ResetSrc.bit : ResetSrc → Nat
  | .por => 0 | .mainRail => 1 | .pin => 2 | .sw => 3 | .wdog => 4 | .sec => 5 | .wake => 6

/-- The main rails were down: SRAM outside the retention part is lost, and a power cycle is counted (04 R74). -/
def ResetSrc.lossy (x : ResetSrc) : Bool := x == .por || x == .mainRail || x == .wake

/-- Does LPDDR4X keep its content (04 R74)? -/
def State.dramStays (s : State) (x : ResetSrc) : Bool := x != .por && x != .mainRail && s.pkg.dramKept

/-! ## Certified configuration (19 R400) -/

/-- Does the image that runs belong to a certified release line? None runs before step 5 of the start-up. -/
def State.lineOk (s : State) : Bool :=
  decide (5 ≤ s.pkg.bootStep) && (if s.b R.UPDATE_IMG_STAT 0 then s.sec.lineB else s.sec.lineA)

/-- SECCTL.CERT_STAT.CERTIFIED. -/
def State.certified (s : State) : Bool :=
  s.sec.cfgLock && s.f R.DBGCTL_STATE 1 0 == 0 && !s.b R.FUSE_LIFE 8 && s.lineOk && s.b R.FUSE_LIFE 0

/-- Source 384 is raised whenever CERTIFIED changes. -/
def State.noteCert (s : State) (was : Bool) : State := if s.certified = was then s else s.irq (R.SECCTL 0) 0

/-! ## End of a trial (19 R406) -/

/-- A FIRMWARE audit record; its word 3 is stated for no such record, so it is a free value (19 R417, log 5). -/
def State.fwAudit (s : State) (status : Nat) : State :=
  if s.audRun 1 then
    let (v, s) := s.freeBits 32
    s.audit { typ := 5, origin := 0x30, role := 0xF, result := status, sess := 0, changed := 0, w3 := nw v, w4 := 0, vals := [] }
  else s

/-- UPDATE.IMG_STAT.TRIAL. -/
def State.onTrial (s : State) : Bool := s.b R.UPDATE_IMG_STAT 2

/-- The trial ends without FW_CONFIRM: NEXT returns to the previous image, TRIAL clears, a FIRMWARE record is written
and source 401 is raised. -/
def State.endTrial (s : State) : State :=
  if s.onTrial then
    let s := (s.wb R.UPDATE_IMG_STAT 1 (s.sec.prevSlot == 1)).wb R.UPDATE_IMG_STAT 2 false
    let s := { s with sec := { s.sec with trialSince := none } }
    (s.fwAudit 0).irq (R.UPDATE 0) 1
  else s

/-! ## What a reset keeps -/

/-- Offset of TILEDIR, LPDDR and LAYERS registers that describe the loaded field. -/
def fieldReg (o : Nat) : Bool :=
  (decide (R.TILEDIR_FIELD_STAT ≤ o) && decide (o ≤ R.TILEDIR_TILE_COUNT)) || o == R.LPDDR_FS_BASE || o == R.LPDDR_FS_SIZE ||
    (decide (R.LAYERS_COV1_CELLS ≤ o) && decide (o ≤ R.LAYERS_COV3_CELLS))

/-- Registers over fuses and MRAM, which every reset keeps. -/
def mramReg (o : Nat) : Bool :=
  (decide (0x00A040 ≤ o) && decide (o < 0x00B000)) ||
    [R.UPDATE_IMG_STAT, R.LIFE_SAVES, R.LIFE_LAST_SAVE, R.AUDIT_ARCHIVED_SEQ, R.EVR_ARCHIVED, R.TOTALS_CKPT].contains o

/-- Registers that a Cellar wake keeps beside them: the result of the stay, the slot table of the jobs (05 R110), the
field-frame anchor and the last pose (07 R160), and with the field store held the field (08 R189). -/
def wakeReg (dram : Bool) (o : Nat) : Bool :=
  o == R.CELLAR_LAST || o == R.CELLAR_STAY || (decide (R.JOBS_JOB_STAT 0 ≤ o) && decide (o < R.JOBS_JOB_STAT 16)) ||
    (decide (R.POSEIN_ANCHOR_LAT_LO ≤ o) && decide (o ≤ R.POSEIN_ANCHOR_H)) ||
    (decide (R.POSEIN_LAST_POSE 0 ≤ o) && decide (o < R.POSEIN_LAST_POSE 10)) || (dram && fieldReg o) ||
    (dram && decide (R.HIST_NEWEST_DT_LO ≤ o) && decide (o ≤ R.HIST_OLDEST_DT_HI))

/-- The registers after a reset (04 R73): all at their reset values but what MRAM, fuses and retention hold. FAIL_A, FAIL_B and
RUNNING are found at each boot. The scrub counts are "since power-on", and CELLAR_RESUMED stays until the next power-on reset (02 R29). -/
def State.resetRegs (s : State) (x : ResetSrc) : SMap Word :=
  let dram := s.dramStays x
  let m := s.regs.filter (fun e => mramReg e.1 || (x != .por && e.1 == R.CELLAR_SCRUB) || (x == .wake && wakeReg dram e.1))
  let put (o : Nat) (v : Word) (m : SMap Word) : SMap Word := SMap.put (regDefault s.variant) m o v
  let m := put R.UPDATE_IMG_STAT (s.r R.UPDATE_IMG_STAT &&& 0xFFFF001E#32) m
  if x = .por then m
  else
    let dtst : Word := if x = .mainRail ∨ x = .wake ∨ s.b R.TIME_DT_STAT 1 = true then 2#32 else 0
    put R.TIME_DT_STAT dtst (put R.OUTLETWIN_SW_STAT (s.r R.OUTLETWIN_SW_STAT &&& 0xFFFF0002#32) m)

/-- Bytes a reset keeps: MRAM and boot flash always, LPDDR4X while it is held, the retention part of SRAM on a wake, and
all SRAM but the tile directory, whose map is empty after every reset but a wake (08 R189), while the rails hold. -/
def keptByte (x : ResetSrc) (dram : Bool) (a : Nat) : Bool :=
  if dramBase ≤ a then dram
  else if 0x10000000 ≤ a then true
  else if decide (0x3F0000 ≤ a) && decide (a < 0x400000) then x == .wake
  else if decide (0x790000 ≤ a) && decide (a < 0x800000) then x == .wake || !x.lossy
  else !x.lossy

/-- DT after a stop of the counter: the last DT and the time the Cellar crystal counted, rounded up to a whole base tick
(02 R29). -/
def resumeDT (d counts : Nat) : DT := (d + 255) / 256 * 256 + (counts * 100000000 + 32767) / 32768 * 256

/-- The package state after a reset. `counts` are the crystal's counts while DT stood still. -/
def State.resetPkg (s : State) (x : ResetSrc) : Pkg :=
  let p := s.pkg
  let fresh := x == .por || x == .mainRail
  { Pkg.reset with
    dtRun := p.dtRun && !x.lossy,
    opAcc := if fresh then 0 else p.opAcc,
    opTicks := if fresh then p.ckpt else p.opTicks,
    ckpt := p.ckpt,
    ckptFlushed := p.ckptFlushed,
    pwrCyc := if x.lossy then min (p.pwrCyc + 1) 0xFFFFFF else p.pwrCyc,
    wallEpoch := p.wallEpoch,
    wakeLow := p.wakeLow && x != .por,
    wakeActive := p.wakeActive && x != .por,
    waking := x == .wake,
    cause := if x = .por then 1 else (if p.bootStep = 0 ∧ !p.cellar then p.cause else 0) ||| 2 ^ x.bit,
    dramKept := s.dramStays x }

/-- Pose state after a reset: the history ring survives a wake while the DRAM was held; it goes on at the first frame
boundary after the counter resumed (07 R155, R160). -/
def State.resetPose (s : State) (x : ResetSrc) (dt : DT) : Pose :=
  let f := frameUp dt
  if x = .wake ∧ s.dramStays x = true ∧ 0 < s.pose.histN then
    { Pose.reset with
      histN := s.pose.histN, histHead := s.pose.histHead, histNext := f, histStart := s.pose.histStart,
      histGaps := (f, s.pose.histNext) :: s.pose.histGaps }
  else { Pose.reset with histNext := f, histStart := f }

/-- The security functions after a reset: every session, challenge and lockout ends, RMA_PERMIT clears (19 R401, R412). -/
def Sec.afterReset (x : Sec) : Sec :=
  { x with
    nextSess := 1, lastAct := List.replicate 6 0, chals := [], fails := [], lockUntil := List.replicate 6 none,
    rmaPermit := false, trialSince := none, revertDue := false }

/-- The parts behind the registers of the main work after a reset: what retention SRAM holds stays unless power-on lost
it (01 R21). -/
def State.resetWork (s : State) (x : ResetSrc) : State :=
  let keep := x != .por
  { s with
    look := if keep then
        { Look.reset with old := s.look.old, oldGen := s.look.oldGen, opens := s.look.opens, segs := s.look.segs }
      else Look.reset,
    meter := { Meter.reset with totals := (if keep then s.meter.totals else []), ckpt := s.meter.ckpt },
    motion := if keep then { Motion.reset with learn := s.motion.learn } else Motion.reset,
    rast := if keep then { Rast.reset with genCtr := s.rast.genCtr, ids := s.rast.ids } else Rast.reset,
    drive := Drive.reset, fio := Fio.reset, ctl := Ctl.reset, posn := Posn.reset, comm := Comm.reset,
    pwm := { Pwm.reset with latch := if keep then s.pwm.latch else Pwm.reset.latch },
    gnss := { Gnss.reset with retries := if x.lossy then [0, 0] else s.gnss.retries },
    attic := { s.attic with fifo := [], life := if keep then s.attic.life else [] } }

/-- The reset itself, with DT as it stands or resumes. -/
def State.resetTo (s : State) (x : ResetSrc) (dt : DT) : State :=
  let dram := s.dramStays x
  let t := s.resetWork x
  { t with
    dt := dt,
    regs := s.resetRegs x,
    mem := s.mem.filter (fun e => keptByte x dram e.1),
    pkg := s.resetPkg x,
    pose := s.resetPose x dt,
    host := { HostIf.reset with msix := s.host.msix, out := s.host.out },
    jobs := if x = .wake then s.jobs else List.replicate 16 Job.reset,
    mu := MemUnit.reset,
    sec := s.sec.afterReset }

/-- Outputs go off with the reset: an on-period still open ends at its DT, ESTIMATED (04 R73, 09 R210). -/
def State.closePeriods (s : State) : State :=
  s.look.opens.foldl (fun (s : State) o =>
    if o.close.isNone then s.closePeriod (s.genTbl o.gen) o.id s.dt true else s) s

/-- A package reset (04 R73, R74). `counts` are the Cellar crystal's counts over the time DT stood still. A warm reset lets
the Attic writer finish what is staged (20 R425); a reset ends a trial (FW_ACTIVATE sets TRIAL
after the reset it causes). -/
def State.resetPackage (s : State) (x : ResetSrc) (counts : Nat) : State :=
  let trial := s.onTrial
  let s := if x = .por ∨ x = .mainRail then s else s.drainFifo
  let s := if trial then s.endTrial else s
  let s := if x = .por then s else s.closePeriods
  let dt := match x with
    | .por => 0
    | .mainRail | .wake => resumeDT s.dt counts
    | _ => s.dt
  let s := s.resetTo x dt
  if trial then s.irq (R.UPDATE 0) 1 else s

end Sys2Proof.Machine
end

