-- ==== Sys2Proof/Machine/ModeOps.lean ====
section
/-!
DEFINITION. Mode changes, the drain, SAFE, the field die's independent safe state and Cellar entry (04, 01 R16 to R18).
-/
namespace Sys2Proof.Machine

def State.setPkg (s : State) (p : Pkg) : State := { s with pkg := p }

/-! ## Causes of SAFE (04 R82) -/

def cLockstep : Nat := 0
def cFldSafe : Nat := 1
def cFldHb : Nat := 2
def cRefClock : Nat := 3
def cTjLogic : Nat := 4
def cRail : Nat := 5
def cLoopSafe : Nat := 6
def cHost : Nat := 7
def cCfgStore : Nat := 8
def cSysHb : Nat := 9

/-! ## Live conditions -/

/-- A field-die heartbeat was seen on a bridge within the last 1 ms (01 R20). -/
def State.bridgeBeat (s : State) (b : Nat) : Bool :=
  match s.pkg.beatLast.getD b none with
  | some t => decide (s.dt < t + msDT 1)
  | none => false

/-- Both bridges carry heartbeats. -/
def State.bridgesOk (s : State) : Bool := s.bridgeBeat 0 && s.bridgeBeat 1

/-- A bridge has carried valid heartbeats for at least 10 ms (01 R18). -/
def State.bridgeHeld (s : State) (b : Nat) : Bool :=
  s.bridgeBeat b && (match s.pkg.beatSince.getD b none with
    | some t => decide (t + msDT 10 ≤ s.dt)
    | none => false)

def State.bridgesHeld (s : State) : Bool := s.bridgeHeld 0 && s.bridgeHeld 1

/-- All rails of R77 in range. -/
def State.railsOk (s : State) : Bool := s.f R.SUPPLY_RAIL_STAT 6 0 == 0x7F

/-- The condition of cause FLD_SAFE lives on (04 R82). -/
def State.fldSafeLive (s : State) : Bool :=
  !(s.bridgesHeld && s.b R.SUPPLY_RAIL_STAT 6 && !s.pkg.hot.getD 1 false && !s.pkg.fldWdog)

/-- The system safety heartbeat holds: without a gap for 100 ms (18 R395). -/
def State.hbLive (s : State) : Bool :=
  match s.comm.hbOk with
  | some t => decide (s.dt < t + msDT 100)
  | none => true

/-- Does the condition of a latched cause live on (04 R82)? -/
def State.causeLive (s : State) (i : Nat) : Bool :=
  match i with
  | 0 | 3 | 8 => true
  | 1 => s.fldSafeLive
  | 2 => !s.bridgesOk
  | 4 => s.pkg.hot.getD 0 false
  | 5 => (match s.pkg.railsSince with
    | some t => !(s.railsOk && decide (t + msDT 10 ≤ s.dt))
    | none => true)
  | 6 => s.anyLoopSafe
  | 9 => s.hbLive
  | _ => false

/-- SAFE.CAUSE_LIVE: the latched causes whose condition lives on. -/
def State.causesLive (s : State) : Nat :=
  ((List.range 10).filter (fun i => s.b R.SAFE_CAUSE i && s.causeLive i)).foldl (fun n i => n + 2 ^ i) 0

/-! ## Mode changes (04 R69, R71) -/

/-- PENDING reads no transition. -/
def State.noPending (s : State) : Bool := s.f R.SAFE_MODE_STAT 11 8 == 0xF

/-- The mode changes: source 27, its event record, the jobs the new mode does not permit, loops, PWM and DIO outputs. -/
def State.setMode (s : State) (m : Nat) : State :=
  let old := s.mode
  if old = m then s
  else
    let s := ((s.wf R.SAFE_MODE_STAT 3 0 m).irq (R.SAFE 0) 1).evNow 0x08 (nw (old * 16 + m))
    let s := s.setPkg { s.pkg with
      cfgSlot := if m = 2 then s.pkg.cfgSlot else none
      svcSlot := if m = 4 then s.pkg.svcSlot else none }
    let s := s.cancelKinds m 1
    let s := if m = 3 ∨ m = 4 then s else s.loopsOpen (m == 5)
    s.pwmSettle.dioSettle

/-- Every region switch opens; what goes off with it is confirmed ESTIMATED, and a region command that waits conflicts
(11 R247). -/
def State.openAll (s : State) : State :=
  let s := (List.range 4).foldl (fun (s : State) g =>
    let s := s.openRegion g
    match (s.region g).cmd with
    | some c => ((s.setRegion g { s.region g with cmd := none }).evNow 0x03 (refusalWord c 0x0602)).reply c 0x12 0 0 0 0
    | none => s) s
  let s := (List.range 4).foldl (fun (s : State) g => s.setRegion g { s.region g with held := false }) s
  { s with drive := { s.drive with closeSeq := [] } }

/-- Entry to STANDBY: the command that asked for it completes, and a reset that a trial's end deferred follows (19 R406). -/
def State.toStandby (s : State) (c : Option Cmd) : State :=
  let s := s.setMode 1
  let s := match c with
    | some k => s.ok k 0 0
    | none => s
  if s.sec.revertDue then s.resetPackage .sec 0 else s

/-- OPERATE and SERVICE request the used regions closed, A to D, the first at once (11 R248). -/
def State.beginClose (s : State) : State :=
  let l := (List.range 4).filter (fun g => s.b (R.REGION_CFG g) 31)
  { s with drive := { s.drive with closeSeq := l, closeAt := s.dt } }

/-- Does R71 have a row for this request? -/
def modeRow (old new : Nat) : Bool :=
  (old, new) == (1, 2) || (old, new) == (2, 1) || (old, new) == (1, 3) || (old, new) == (3, 1) || (old, new) == (1, 4) ||
    (old, new) == (4, 1)

/-- The conditions of the row: OPERATE needs its rails, bridges, a consistent table and in FIELD mode a field; SERVICE a
pose speed below 0.5 km/h or no valid pose. -/
def State.modeReady (s : State) (new : Nat) : Bool :=
  match new with
  | 3 => s.railsOk && s.bridgesOk && (s.tableFault s.tbl).isNone && (s.axis != 0 || s.fieldLoaded)
  | 4 => s.poseSt == 0 || decide (s.speed.natAbs * 3600 < 500000000)
  | _ => true

/-- Role a request needs: CONFIGURE INTEGRATOR, SERVICE SERVICE, else any session. -/
def modeRole (new : Nat) : Nat :=
  match new with
  | 2 => 2
  | 4 => 3
  | _ => 1

/-- A MODE_REQ that passed its checks acts. -/
def State.modeAct' (s : State) (c : Cmd) (m : Nat) : State :=
  let slot : Option (Fin 6) := (s.cmdSlot c).bind (fun k => if h : k < 6 then some ⟨k, h⟩ else none)
  match m with
  | 1 => if s.mode = 2 then s.toStandby (some c) else s.requestDrain (some c) false
  | 2 =>
    let s := s.setMode 2
    (s.setPkg { s.pkg with cfgSlot := slot }).ok c 0 0
  | 3 => (s.setMode 3).resumePose.beginClose.ok c 0 0
  | _ =>
    let s := (s.setMode 4).beginClose
    (s.setPkg { s.pkg with svcSlot := slot }).ok c 0 0

/-! ## The drain (04 R72) -/

/-- A closing window is still open. -/
def State.windowsOpen (s : State) : Bool := (List.range 192).any (fun n => (s.chan n).closing.isSome)

/-- Outlet and boost channels are all off. -/
def State.chansOff (s : State) : Bool :=
  (List.range 192).all (fun n => s.pairOdd n || s.chSt n == cOff || s.chSt n == cFault) &&
    (List.range 8).all (fun b => s.bstSt b == bOff || s.bstSt b == bFault)

/-- No committed edge waits. -/
def State.queuesEmpty (s : State) : Bool := s.look.queues.all (fun e => e.2.edges.isEmpty)

/-- The off-delays and latencies of the turned-off outlets have elapsed. -/
def State.offsDue (s : State) : Bool :=
  s.look.awaiting.all (fun a => a.on ||
    (if oKind (s.genTbl a.gen) a.id = 5 then
      decide (a.exec + usDT (remLatency (s.genTbl a.gen) (oTarget (s.genTbl a.gen) a.id)) ≤ s.dt)
    else decide (a.due ≤ s.dt)))

/-- Manual commands end (04 R71): what OUT_FORCE, DIO writes and the motors' enables turned on goes off. -/
def State.endManual (s : State) : State :=
  let s := (List.range 192).foldl (fun (s : State) n => if s.pairOdd n then s else s.forceOff n) s
  let s := (List.range 8).foldl (fun (s : State) b => s.bstForceOff b) s
  let s := (List.range 32).foldl (fun (s : State) n => (s.setDioWant n false).dioFollow n) s
  (List.range 48).foldl (fun (s : State) u => if s.motorOwned u then s.motorEdge u false else s) s

/-- Step 3: one off edge, source DRAIN, for each actuating outlet that is on after its newest committed edge. -/
def State.drainEdges (s : State) : State :=
  let t := s.tbl
  (actuating t).foldl (fun (s : State) id =>
    if (s.q id).newest then (s.inc R.COMMIT_PLANNED 31 0 1).offEdge t id 2 s.dt else s) s

def State.setDrain (s : State) (d : Option Drain) : State := s.setPkg { s.pkg with drain := d }

/-! ## Cellar entry (04 R84) -/

/-- The jobs end as for JOB_CANCEL with DETAIL CELLAR, without a record (05 R110). -/
def State.cellarJobs (s : State) : State :=
  (List.range 16).foldl (fun (s : State) j =>
    let st := s.jobSt j
    if liveJob st then
      let d := if st = 5 then (s.job j).cancelDetail else 2
      let s := s.residue j
      let s := (((s.wf (R.JOBS_JOB_STAT j) 3 0 8).wb (R.JOBS_JOB_STAT j) 7 false).wf (R.JOBS_JOB_DETAIL j) 23 16 d)
      s.setJob j { s.job j with suspend := none, cancel := none, runSince := none }
    else s) s

/-- The Cellar takes over: the flush, the jobs, DRAM in self-refresh for up to DRAM_HOLD minutes, MAIN_EN low. -/
def State.cellarEntry (s : State) : State :=
  let s := s.openAll.flush.cellarJobs
  let hold := s.f R.CELLAR_CFG 31 16 != 0
  let s := (List.range 6).foldl (fun (s : State) k => s.w (R.SESSION_SLOT k) 0) s
  let s := (List.range 4).foldl (fun (s : State) r => s.wb (R.PORCH_RING_CTRL r) 31 false) s
  let s := { s with sec := s.sec.afterReset }
  let s := (s.wf R.SAFE_MODE_STAT 3 0 0).wf R.CELLAR_LAST 15 8 0xFF
  s.setPkg { s.pkg with
    cellar := true, mainEn := false, dtRun := false, dramHoldEn := hold, dramKept := s.pkg.dramKept && hold,
    drain := none, safeClosing := none, cfgSlot := none, svcSlot := none }

/-- Cellar entry starts unless a wake source is active (04 R89). -/
def State.cellarTry (s : State) : State :=
  if (s.mode = 1 ∨ s.mode = 5) ∧ s.noPending = true ∧ s.pkg.wakeActive = false ∧ s.pkg.cellar = false then s.cellarEntry else s

/-- AUTO_ENTER with WAKE low asks for the Cellar. -/
def State.autoEnter (s : State) : Bool := s.pkg.wakeLow && s.b R.CELLAR_CFG 1

/-- Step 5: the region switches open, STANDBY, and the Cellar where it was asked for. -/
def State.drainEnd (s : State) : State :=
  match s.pkg.drain with
  | none => s
  | some d =>
    let s := ((s.openAll).setDrain none).wf R.SAFE_MODE_STAT 11 8 0xF
    let s := s.toStandby d.cmd
    if d.toCellar ∨ s.autoEnter = true then s.cellarTry else s

/-- What WAKE low and PWR_FAIL ask for (04 R71): a drain from OPERATE and SERVICE, STANDBY from CONFIGURE and Cellar entry
from STANDBY and SAFE. -/
def State.leave' (s : State) (toCellar : Bool) : State :=
  match s.mode with
  | 3 | 4 => s.requestDrain none toCellar
  | 2 =>
    let s := s.toStandby none
    if toCellar then s.cellarTry else s
  | 1 | 5 => if toCellar then s.cellarTry else s
  | _ => s

/-! ## SAFE entry (04 R82) -/

/-- A drain that SAFE ends: the MODE_REQ that waits for it conflicts. -/
def State.endDrain (s : State) : State :=
  match s.pkg.drain with
  | none => s
  | some d =>
    let s := (s.setDrain none).wf R.SAFE_MODE_STAT 11 8 0xF
    match d.cmd with
    | some c => (s.evNow 0x03 (refusalWord c 0x0001)).reply c 0x12 0 0 0 0
    | none => s

/-- Every committed edge is discarded, counted MISSED (09 R204). -/
def State.discardEdges (s : State) : State :=
  (s.look.queues.map (·.1)).foldl (fun (s : State) id =>
    let n := (s.q id).edges.length
    let s := (List.range n).foldl (fun (s : State) _ => (s.popEdge id).missed id) s
    s.forgetOn id) s

/-- A MOTOR, DIO or REMOTE outlet turns off by a safety action; where it was on, its close is formed as ESTIMATED from its
configured off-delay (01 R15). -/
def State.safeOther (s : State) (id : Nat) : State :=
  let t := s.tbl
  let k := oKind t id
  let n := oTarget t id
  let on := s.look.awaiting.any (fun a => a.id == id && a.on) || s.look.opens.any (fun o => o.id == id && o.close.isNone)
  let s := if k = 3 then s.motorEdge (n % 48) false else s
  if on then
    let s := if k = 5 then s.remoteCmd t n 0xC1 0 0 0 else s
    (s.flushAwait id).confirm id s.tableGen false (s.dt + usDT (oDelay t id false)) true false
  else s

/-- Step 2: every outlet, both boost banks and all DIO outputs off. `hard`: R17 governs, no window opens. -/
def State.safeOutputs (s : State) (hard : Bool) : State :=
  let s := if hard then s.openAll else s
  let s := (List.range 4).foldl (fun (s : State) g => s.missHeld g) s
  let s := (List.range 192).foldl (fun (s : State) n => s.safeChan n) s
  let s := s.banksOff 3
  let s := (List.range 32).foldl (fun (s : State) n => (s.setDioWant n false).dioFollow n) s
  ((actuating s.tbl).filter (fun id => decide (3 ≤ oKind s.tbl id))).foldl (fun (s : State) id => s.safeOther id) s

/-- The entry actions for the first cause. -/
def State.safeEntry (s : State) (hard : Bool) : State :=
  let s := s.endDrain.dropSpeculative.discardEdges
  let s := s.safeOutputs hard
  let s := { s with drive := { s.drive with closeSeq := [] } }
  let s := s.setMode 5
  let s := ((s.w64 R.SAFE_ENTRY_DT_LO s.dt).evNow 0x07 (s.r R.SAFE_CAUSE)).irq (R.SAFE 0) 0
  let s := s.life 1186 3 1
  s.setPkg { s.pkg with safeClosing := if hard then none else some s.dt }

/-- A SAFE cause arises (04 R71, R82): latched in BOOT, added in SAFE, else SAFE is entered. -/
def State.safeCause (s : State) (i : Nat) : State :=
  if s.pkg.cellar then s
  else
    let new := !s.b R.SAFE_CAUSE i
    let first := s.r R.SAFE_CAUSE == 0
    let s := s.wb R.SAFE_CAUSE i true
    if s.mode = 0 then (if first then s.w64 R.SAFE_ENTRY_DT_LO s.dt else s)
    else if s.mode = 5 then (if new then s.evNow 0x07 (s.r R.SAFE_CAUSE) else s)
    else s.safeEntry (i == cFldSafe || i == cFldHb)

/-- Enter SAFE at the end of the start-up with the causes latched in BOOT; the first cause's DT stands. -/
def State.safeAtBoot (s : State) : State :=
  let t := s.r64 R.SAFE_ENTRY_DT_LO
  (s.safeEntry false).w64 R.SAFE_ENTRY_DT_LO t

/-! ## The field die's independent safe state (01 R17) -/

/-- Cause bits that hold: heartbeats of both bridges, over-temperature, VDD_FLD, the watchdog. -/
def State.fieldCauses (s : State) (i : Nat) : Nat :=
  let late (b : Nat) : Bool := match s.pkg.beatLast.getD b none with
    | some t => decide (t + msDT 1 ≤ s.dt)
    | none => false
  let on (k : Nat) (x : Bool) : Nat := if x || k == i then 2 ^ k else 0
  on 0 (late 0) + on 1 (late 1) + on 2 (s.pkg.hot.getD 1 false) + on 3 (!s.b R.SUPPLY_RAIL_STAT 6) + on 4 s.pkg.fldWdog

/-- The field die enters its independent safe state for cause bit `i`; the logic die reads it and enters SAFE (01 R18). -/
def State.fieldDieSafe (s : State) (i : Nat) : State :=
  if s.fieldSafe ∨ s.pkg.cellar = true ∨ s.pkg.bootStep < 7 then s
  else
    let beat := if i = 0 then s.pkg.fieldBeat.getD 0 0 else if i = 1 then s.pkg.fieldBeat.getD 1 0
      else max (s.pkg.fieldBeat.getD 0 0) (s.pkg.fieldBeat.getD 1 0)
    let s := s.w R.DIE_FLDSAFE_CAUSE (nw (2 ^ 31 + s.fieldCauses i))
    let s := (s.w64 R.DIE_FLDSAFE_DT_LO beat).irqEv (R.DIE 0) 0
    let s := (s.openAll).banksOff 0
    let s := (List.range 32).foldl (fun (s : State) n => (s.setDioWant n false).dioFollow n) s
    s.safeCause cFldSafe

end Sys2Proof.Machine
end

