-- ==== Sys2Proof/Machine/ModeCmds.lean ====
section
/-!
DEFINITION. The meanings of the mode commands, SAFE, the drain, the die-to-die supervision, supplies, temperatures and the
Cellar (01, 02, 04).
-/
namespace Sys2Proof.Machine

/-! ## Mode commands (04 R71, 05 R104) -/

/-- MODE_REQ: completes when the mode is reached, after any drain. -/
def execModeReq (c : Cmd) (s : State) : Host.Outcome State Fault Refusal :=
  let m := c.byte 8
  let conflict := !s.noPending || !modeRow s.mode m || !s.modeReady m
  done (s.runCmd c (CmdSpec.mk' 0x0001 (modeRole m) 1 (c.badArg [(8, 8)] (need 8 (decide (m ≤ 5)))) conflict)
    (fun s => s.modeAct' c m))

/-- REGION_SEQUENCE_CLOSE (11 R248): the next used region is requested closed, 5 ms after the one before. -/
def execRegionSequenceClose (s : State) : Host.Outcome State Fault Refusal :=
  done (match s.drive.closeSeq with
    | g :: rest =>
      if s.drive.closeAt ≤ s.dt ∧ (s.mode = 3 ∨ s.mode = 4) then
        let s := if (s.region g).held then s else s.requestClose g
        { s with drive := { s.drive with closeSeq := rest, closeAt := s.dt + msDT 5 } }
      else s
    | [] => s)

/-- SAFE_ENTER: accepted with or without a session, in every mode but CELLAR; it acts without a record when the audit log
takes none (04 R82, 19 R418). -/
def execSafeEnter (c : Cmd) (s : State) : Host.Outcome State Fault Refusal :=
  let k := { CmdSpec.mk' 0x0002 0 0 (c.badArg [] []) false with anySess := true, inBoot := true }
  done (s.runCmd c k (fun s =>
    ((s.auditOrCount (s.cmdAudit c 0x0002 0 0 0 0)).safeCause cHost).ok c 0 0))

/-- The field die leaves its independent safe state (01 R18, R20). -/
def State.releaseField (s : State) : State := s.w R.DIE_FLDSAFE_CAUSE 0

/-- SAFE_EXIT (04 R83). -/
def execSafeExit (c : Cmd) (s : State) : Host.Outcome State Fault Refusal :=
  let conflict := !(s.mode == 5) || s.causesLive != 0 || !s.bridgesHeld || !s.noPending
  done (s.runCmd c (CmdSpec.mk' 0x0003 2 1 (c.badArg [] []) conflict) (fun s =>
    let s := ((s.w R.SAFE_CAUSE 0).releaseField).openAll
    (s.setPkg { s.pkg with safeClosing := none }).toStandby (some c)))

/-- CELLAR_ENTER: completes before step 1 of the entry; a wake source that is active keeps the package where it is. -/
def execCellarEnter (c : Cmd) (s : State) : Host.Outcome State Fault Refusal :=
  let conflict := !(s.mode == 1 || s.mode == 5) || !s.noPending
  done (s.runCmd c (CmdSpec.mk' 0x0004 2 1 (c.badArg [] []) conflict) (fun s => (s.ok c 0 0).cellarTry))

/-- RESET: no record; the software reset follows (04 R74). -/
def execReset (c : Cmd) (s : State) : Host.Outcome State Fault Refusal :=
  done (s.runCmd c (CmdSpec.mk' 0x0005 2 1 (c.badArg [] []) false) (fun s => (s.leave c).resetPackage .sw 0))

/-! ## Wall time (02 R33 to R35) -/

/-- A step of the wall-time mapping: WALL_EPOCH increments and source 12 is raised; MAP_SEQ passes an odd value. -/
def State.wallStep (s : State) (ans : Int) (adt : Nat) : State :=
  let s := (s.w64 R.TIME_WALL_ANS_LO (ans % 2 ^ 64).toNat).w64 R.TIME_WALL_ADT_LO adt
  let s := (s.wb R.TIME_DT_STAT 2 true).inc R.TIME_MAP_SEQ 31 0 2
  (s.setPkg { s.pkg with wallEpoch := (s.pkg.wallEpoch + 1) % 2 ^ 16 }).irq (R.TIME 0) 0

/-- WALL_SET. -/
def execWallSet (c : Cmd) (s : State) : Host.Outcome State Fault Refusal :=
  done (s.runCmd c (CmdSpec.mk' 0x0006 2 2 (c.badArg [(8, 23)] []) false) (fun s =>
    (s.wallStep (c.num 8 8 : Nat) (c.num 16 8)).ok c 0 0))

/-- WALL_ERROR_ESTIMATE: the chosen source's error in ns, and the RATE that slews it out. An error above 1 ms, or the first,
steps; else RATE changes by at most 500 µs/s, 549,755,813 of its units. -/
def execWallErrorEstimate (err : Int) (rate : Word) (s : State) : Host.Outcome State Fault Refusal :=
  let old := sword (s.r R.TIME_WALL_RATE)
  done (if s.f R.TIME_WALL_SRC 2 0 = 0 ∨ s.pkg.cellar = true ∨ s.mode = 0 then s
    else if s.b R.TIME_DT_STAT 2 = false ∨ 1000000 < err.natAbs then s.wallStep (s.wallNs + err) s.dt
    else (s.w R.TIME_WALL_RATE (wordOf (clamp (old - 549755813) (old + 549755813) (sword rate)))).inc R.TIME_MAP_SEQ 31 0 2)

/-! ## The drain (04 R72) -/

/-- DRAIN_OFF_EDGES: when every committed edge has reached its DT. -/
def execDrainOffEdges (s : State) : Host.Outcome State Fault Refusal :=
  done (match s.pkg.drain with
    | some d =>
      if d.offDone = false ∧ (s.look.queues.all (fun e => e.2.edges.all (fun x => decide (x.exec ≤ s.dt)))) = true then
        let s := s.squashAll.drainEdges
        let s := if s.mode = 4 then s.endManual else s
        s.setDrain (some { d with offDone := true })
      else s
    | none => s)

/-- DRAIN_COMPLETE: no edge, window, channel or off-delay is left. -/
def execDrainComplete (s : State) : Host.Outcome State Fault Refusal :=
  done (match s.pkg.drain with
    | some d =>
      if d.offDone && s.queuesEmpty && !s.windowsOpen && s.chansOff && s.offsDue then s.drainEnd else s
    | none => s)

/-- DRAIN_MAX_EXPIRE: 100 ms after the request, what is still open is cut and confirmed ESTIMATED. -/
def execDrainMaxExpire (s : State) : Host.Outcome State Fault Refusal :=
  done (match s.pkg.drain with
    | some d =>
      if d.start + msDT 100 ≤ s.dt then
        let s := if d.offDone then s else s.squashAll.drainEdges
        (s.banksOff 3).drainEnd
      else s
    | none => s)

/-- SAFE_WINDOWS_END (04 R82): the last closing window has ended, or 100 ms have passed. -/
def execSafeWindowsEnd (s : State) : Host.Outcome State Fault Refusal :=
  done (match s.pkg.safeClosing with
    | some t =>
      if !s.windowsOpen || decide (t + msDT 100 ≤ s.dt) then
        let s := s.openAll
        s.setPkg { s.pkg with safeClosing := none }
      else s
    | none => s)

/-! ## Lockstep and heartbeats (01 R9, R16 to R20) -/

/-- Are the lockstep pairs and the bridges at work? -/
def State.up (s : State) (step : Nat) : Bool := decide (step ≤ s.pkg.bootStep) && !s.pkg.cellar

/-- LOCKSTEP_DISAGREE: the pair halts; SAFE; a trial image ends (19 R406). -/
def execLockstepDisagree (pair : Fin 2) (s : State) : Host.Outcome State Fault Refusal :=
  done (if s.up 5 then
    let s := s.setPkg { s.pkg with halted := s.pkg.halted.set pair.val true }
    (((s.evNow (5 + pair.val) 0).irq (R.DIE 0) 2).endTrial).safeCause cLockstep
  else s)

/-- LOGIC_HEARTBEAT_SEND: a heartbeat with its DT on each trained bridge. -/
def execLogicHeartbeatSend (s : State) : Host.Outcome State Fault Refusal :=
  done (if s.up 7 then
    (List.range 2).foldl (fun (s : State) b =>
      if s.b R.DIE_FLDHB_STAT b then
        { s with host := { s.host with out := s.host.out ++ [⟨16 + b, 0, [nw s.dt, nw (s.dt / 2 ^ 32)]⟩] } }
      else s) s
  else s)

/-- FIELD_HEARTBEAT: the field die received the heartbeat that carries DT `t` and its own came back on the bridge. -/
def execFieldHeartbeat (b : Fin 2) (t : BitVec 64) (s : State) : Host.Outcome State Fault Refusal :=
  let k := b.val
  done (if s.up 7 ∧ s.b R.DIE_FLDHB_STAT k = true ∧ t.toNat ≤ s.dt then
    let since := if s.bridgeBeat k then (s.pkg.beatSince.getD k none).getD s.dt else s.dt
    let s := s.setPkg { s.pkg with
      fieldBeat := s.pkg.fieldBeat.set k t.toNat
      beatLast := s.pkg.beatLast.set k (some s.dt)
      beatSince := s.pkg.beatSince.set k (some since)
      fldWdog := false }
    s.wf R.DIE_FLDHB_STAT (15 + 8 * k) (8 + 8 * k) 0
  else s)

/-- HEARTBEAT_MISS: MISS_FBn counts; FB_SLIP at 3. -/
def execHeartbeatMiss (b : Fin 2) (s : State) : Host.Outcome State Fault Refusal :=
  let k := b.val
  done (if s.up 7 then
    let s := s.satInc R.DIE_FLDHB_STAT (15 + 8 * k) (8 + 8 * k) 1
    if s.f R.DIE_FLDHB_STAT (15 + 8 * k) (8 + 8 * k) = 3 then s.irqEv (R.DIE 0) 1 else s
  else s)

/-- A bridge has carried no heartbeat for 1 ms. -/
def State.bridgeLost (s : State) (b : Nat) : Bool := s.up 7 && !s.bridgeBeat b

/-- FIELD_HB_TIMEOUT: the field die's independent safe state. -/
def execFieldHbTimeout (b : Fin 2) (s : State) : Host.Outcome State Fault Refusal :=
  done (if s.bridgeLost b.val then s.fieldDieSafe b.val else s)

/-- FLD_WDOG_EXPIRE. -/
def execFldWdogExpire (s : State) : Host.Outcome State Fault Refusal :=
  done (if s.up 7 then (s.setPkg { s.pkg with fldWdog := true }).fieldDieSafe 4 else s)

/-- LOGIC_FLD_HB_TIMEOUT: SAFE with cause FLD_HB. -/
def execLogicFldHbTimeout (b : Fin 2) (s : State) : Host.Outcome State Fault Refusal :=
  done (if s.bridgeLost b.val then
    (s.setPkg { s.pkg with beatSince := s.pkg.beatSince.set b.val none }).safeCause cFldHb
  else s)

/-! ## The reference clock (02 R23, R32) -/

/-- Bit `k` of REF_STAT, and its source, go to 1; DT runs on PLL_A's holdover. -/
def State.refFault (s : State) (k : Nat) : State :=
  if s.b R.CLOCK_REF_STAT k then s
  else
    let s := (s.wb R.CLOCK_REF_STAT k true).wb R.TIME_DT_STAT 0 true
    (s.irqEv (R.CLOCK 0) k).safeCause cRefClock

/-- REF_LOST. -/
def execRefLost (s : State) : Host.Outcome State Fault Refusal := done (if s.up 2 then s.refFault 0 else s)

/-- REF_DRIFT: a second's error against the Cellar crystal, in 0.01 ppm; above 200 ppm it acts. -/
def execRefDrift (ppm : BitVec 16) (s : State) : Host.Outcome State Fault Refusal :=
  done (if s.up 2 then
    let s := s.wf R.CLOCK_REF_STAT 31 16 ppm.toNat
    if 20000 < (toSigned 16 ppm.toNat).natAbs then s.refFault 1 else s
  else s)

/-- TDC_RECALIBRATE (02 R32): the bins of the time-to-digital converter hold nothing software sees; a pin event carries its
captured DT as an operand. -/
def execTdcRecalibrate (s : State) : Host.Outcome State Fault Refusal := done s

/-! ## Clock islands (02 R37) -/

/-- Low bit of an island's field in ISL_CTRL and ISL_STAT. -/
def islandLo : Island → Nat
  | .probe => 0 | .plan => 2 | .ctl => 4 | .pwm => 6 | .gnss => 8

/-- Is a setting of an island permitted in a mode? -/
def islandFits (lo mode v : Nat) : Bool :=
  match v with
  | 1 => match lo with
    | 0 | 2 => mode == 1 || mode == 2
    | 4 => mode == 1 || mode == 2 || mode == 5
    | 6 => mode != 3
    | _ => true
  | 2 => match lo with
    | 0 | 2 => mode == 1 || mode == 2
    | 4 | 6 => mode == 1 || mode == 2 || mode == 5
    | _ => true
  | _ => true

/-- A write of ISL_CTRL: a field of 0b11 keeps its value, as does GNSS on a CZT-4192N; a setting the mode does not permit has
the write ignored, MODE_GATE set and an event recorded. -/
def State.islCtrl (s : State) (v : Word) : State :=
  let los := [0, 2, 4, 6, 8]
  let want (lo : Nat) : Nat :=
    let x := fld v (lo + 1) lo
    if x = 3 ∨ (lo = 8 ∧ s.variant = .n) then s.f R.CLOCK_ISL_CTRL (lo + 1) lo else x
  if los.all (fun lo => islandFits lo s.mode (want lo)) then
    los.foldl (fun (s : State) lo => s.wf R.CLOCK_ISL_CTRL (lo + 1) lo (want lo)) s
  else s.fltEv (R.CLOCK 0) 0

/-- Domains whose pages an island clocks (02 R37, 03 R40). -/
def islandDomains (lo : Nat) : List Nat :=
  match lo with
  | 0 => [4] | 2 => [3, 5] | 4 => [7] | 6 => [8] | _ => [0xA]

/-- Registers of a gated page that outlive the gate: PG_LOCK (03 R44) and those that show what SRAM or MRAM holds. -/
def gateKeeps (o : Nat) : Bool :=
  o % 0x1000 == 0x028 || fieldReg o || o == R.OUTLETWIN_SW_STAT || o == R.TOTALS_CKPT ||
    (decide (R.POSEIN_ANCHOR_LAT_LO ≤ o) && decide (o ≤ R.POSEIN_ANCHOR_H))

/-- An island leaves GATE: its registers are at their reset values, and its engines start anew. -/
def State.ungate (s : State) (lo : Nat) : State :=
  let d := islandDomains lo
  let s := { s with regs := s.regs.filter (fun e => gateKeeps e.1 || !d.contains (e.1 / 0x100000)) }
  match lo with
  | 0 => { s with rast := { s.rast with probes := [], lastRx := [], trunc := none, diag := [] } }
  | 2 => ({ s with pose := Pose.reset }).histRestart
  | 4 => ({ s with ctl := Ctl.reset }).pwmSettle
  | 6 => s.pwmReset
  | _ => s.gnssOff

/-- ISLAND_STATE_REACHED: ISL_STAT takes the value asked for, source 10; the PWM pins take their pad-latch states while its
island stands (14 R310). -/
def execIslandStateReached (i : Island) (s : State) : Host.Outcome State Fault Refusal :=
  let lo := islandLo i
  let new := s.f R.CLOCK_ISL_CTRL (lo + 1) lo
  let old := s.f R.CLOCK_ISL_STAT (lo + 1) lo
  done (if new = old ∨ s.up 2 = false then s
    else
      let s := (s.wf R.CLOCK_ISL_STAT (lo + 1) lo new).irq (R.CLOCK 0) 2
      let s := if old = 2 then s.ungate lo else s
      if lo = 6 then (if new = 0 then s.pwmGo else if old = 0 then s.pwmStop else s)
      else if lo = 8 ∧ new = 2 then s.gnssOff
      else s)

/-! ## Supplies (04 R77 to R80) -/

/-- The flush and what goes with it. -/
def State.pfAct (s : State) : State :=
  let s := (s.evNow 0x01 0).flush
  let s := (s.wb R.SUPPLY_RAIL_STAT 8 true).irq (R.SUPPLY 0) 0
  s.setPkg { s.pkg with pfAt := some s.dt, pfBoot := false }

/-- PWR_FAIL_ASSERT: acted on at once, or in BOOT at step 10 of the start-up. -/
def execPwrFailAssert (s : State) : Host.Outcome State Fault Refusal :=
  done (if s.pkg.cellar ∨ s.b R.SUPPLY_RAIL_STAT 8 = true then s
    else if s.mode = 0 then s.setPkg { s.pkg with pfBoot := true }
    else s.pfAct)

/-- PF_GRACE_EXPIRE. -/
def execPfGraceExpire (s : State) : Host.Outcome State Fault Refusal :=
  done (match s.pkg.pfAt with
    | some t =>
      if t + msDT (s.f R.SUPPLY_PF_CFG 15 8) ≤ s.dt then
        (s.setPkg { s.pkg with pfAt := none }).leave' (s.b R.SUPPLY_PF_CFG 0)
      else s
    | none => s)

/-- PWR_FAIL_RELEASE: a PF_CLEAR record where PF_GRACE has not run out. -/
def execPwrFailRelease (s : State) : Host.Outcome State Fault Refusal :=
  done (if s.pkg.cellar then s
    else
      let s := if s.pkg.pfAt.isSome then s.evNow 0x02 0 else s
      (s.wb R.SUPPLY_RAIL_STAT 8 false).setPkg { s.pkg with pfAt := none, pfBoot := false })

/-- The action of R77 for a rail past its action threshold: `n` crystal counts go by before DT runs again after a VDD_CORE
loss. -/
def State.railAct (s : State) (rail : Nat) (above : Bool) (n : Nat) : State :=
  match rail with
  | 0 => if above then s.safeCause cRail else s.resetPackage .mainRail n
  | 3 | 4 => (s.clearField.freePantry).safeCause cRail
  | 5 => if above then s.safeCause cRail else s.resetPackage .por 0
  | 6 => s.fieldDieSafe 3
  | _ => s.safeCause cRail

/-- RAIL_OUT_OF_RANGE: a rail left its range for 5 µs; `act` where it passed its action threshold. In CELLAR only VCELLAR is
supervised (04 R78). -/
def execRailOutOfRange (rail : Fin 7) (above : Bool) (act : Option Nat) (s : State) : Host.Outcome State Fault Refusal :=
  let k := rail.val
  done (if s.pkg.cellar then (if k = 5 ∧ above = false ∧ act.isSome = true then s.resetPackage .por 0 else s)
    else
      let s := (s.wb R.SUPPLY_RAIL_STAT k false).fltEv (R.SUPPLY 0) k
      let s := s.setPkg { s.pkg with railsSince := none }
      match act with
      | some n => s.railAct k above n
      | none => s)

/-- RAIL_IN_RANGE: a rail is back in its range. -/
def execRailInRange (rail : Fin 7) (s : State) : Host.Outcome State Fault Refusal :=
  done (if s.up 1 then
    let s := s.wb R.SUPPLY_RAIL_STAT rail.val true
    if s.railsOk ∧ s.pkg.railsSince.isNone = true then s.setPkg { s.pkg with railsSince := some s.dt } else s
  else s)

/-! ## Die temperatures (04 R81) -/

/-- Number of a die, and the temperature in °C below which its live condition ends. -/
def dieNum : Die → Nat
  | .logic => 0 | .field => 1 | .rf => 2

def coolLimit (d : Nat) : Int :=
  match d with
  | 0 => 118 | 1 => 125 | _ => 120

/-- The warning, once per crossing of TJ_WARN, at a reading in 1/16 °C. -/
def State.warnTemp (s : State) (d : Nat) (x : Int) : State :=
  let warn : Int := s.f R.SUPPLY_TJ_CFG 7 0
  let armed := s.pkg.tjArmed.getD d true
  if armed ∧ warn * 16 ≤ x then (s.setPkg { s.pkg with tjArmed := s.pkg.tjArmed.set d false }).irqEv (R.SUPPLY 0) 1
  else if !armed ∧ x < (warn - 5) * 16 then s.setPkg { s.pkg with tjArmed := s.pkg.tjArmed.set d true }
  else s

/-- The end of a die's over-temperature at a reading in 1/16 °C. -/
def State.coolTemp (s : State) (d : Nat) (x : Int) : State :=
  if s.pkg.hot.getD d false ∧ x < coolLimit d * 16 then
    let s := s.setPkg { s.pkg with hot := s.pkg.hot.set d false }
    if d = 2 then s.followChains else s
  else s

/-- DIE_TEMP_SAMPLE, in 1/16 °C: the reading, the warning and the end of an over-temperature. -/
def execDieTempSample (die : Die) (t : BitVec 16) (s : State) : Host.Outcome State Fault Refusal :=
  let d := dieNum die
  let x := toSigned 16 t.toNat
  done (if s.up 2 = false ∨ (d = 2 ∧ s.variant = .n) then s
    else ((s.wf (tempReg d) 15 0 t.toNat).warnTemp d x).coolTemp d x)

/-- DIE_OVERTEMP: a die stayed above its action threshold for 1 ms. -/
def execDieOvertemp (die : Die) (s : State) : Host.Outcome State Fault Refusal :=
  let d := dieNum die
  done (if s.up 2 = false ∨ (d = 2 ∧ s.variant = .n) ∨ s.pkg.hot.getD d false = true then s
    else
      let s := s.setPkg { s.pkg with hot := s.pkg.hot.set d true }
      match d with
      | 0 => s.safeCause cTjLogic
      | 1 => s.fieldDieSafe 2
      | _ => ((s.followChains).irq (R.DIE 0) 3).irqEv (R.SUPPLY 0) 2)

/-! ## Resets (04 R74) -/

/-- POWER_ON_RESET. -/
def execPowerOnReset (s : State) : Host.Outcome State Fault Refusal := done (s.resetPackage .por 0)

/-- MAIN_RAIL_LOSS: the Cellar crystal counts `ticks` until DT runs again. -/
def execMainRailLoss (ticks : Nat) (s : State) : Host.Outcome State Fault Refusal :=
  done (if s.pkg.cellar then s else s.resetPackage .mainRail ticks)

/-- RESET_PIN. -/
def execResetPin (s : State) : Host.Outcome State Fault Refusal := done (if s.pkg.cellar then s else s.resetPackage .pin 0)

/-- WDOG_RESET. -/
def execWdogReset (pair : Fin 2) (s : State) : Host.Outcome State Fault Refusal :=
  done (if s.up 5 ∧ pair.val < 2 then s.resetPackage .wdog 0 else s)

/-! ## The Cellar (04 R84 to R89) -/

/-- WAKE_LOW_DEBOUNCED (04 R71). -/
def execWakeLowDebounced (s : State) : Host.Outcome State Fault Refusal :=
  done (if s.pkg.cellar then s.setPkg { s.pkg with wakeLow := true, wakeActive := false }
    else
      let s := s.setPkg { s.pkg with wakeLow := true, wakeActive := false }
      if s.autoEnter then (if s.mode = 3 ∨ s.mode = 4 then s.requestDrain none false else s.leave' true) else s)

/-- CELLAR_SCRUB: bits corrected, and the blocks with a double-bit error. -/
def execCellarScrub (corr : Nat) (bad : BitVec 8) (s : State) : Host.Outcome State Fault Refusal :=
  done (if s.pkg.cellar then
    let s := (s.satInc R.CELLAR_SCRUB 15 0 corr).satInc R.CELLAR_SCRUB 31 16 (popCount 8 bad.toNat)
    s.wf R.CELLAR_LAST 15 8 (s.f R.CELLAR_LAST 15 8 &&& (~~~ bad).toNat)
  else s)

/-- DRAM_HOLD_EXPIRE: DRAM_HOLD_EN goes low. -/
def execDramHoldExpire (s : State) : Host.Outcome State Fault Refusal :=
  done (if s.pkg.cellar ∧ s.pkg.dramHoldEn = true then s.setPkg { s.pkg with dramHoldEn := false, dramKept := false } else s)

/-- What an invalid retention block takes with it (04 R85), by its place in R21. -/
def State.retLoss (s : State) (k : Nat) : State :=
  match k with
  | 0 => ({ s with mem := s.mem.filter (fun e => !(decide (0x3F0000 ≤ e.1) && decide (e.1 < 0x400000))) }).clearField
  | 1 => s.discardBacklog (fun _ => true)
  | 2 => { s with motion := { s.motion with learn := [] } }
  | 3 => s.restoreTotals
  | 4 => s.lifeReload
  | 5 =>
    let drop (o : Nat) : Bool := decide (R.JOBS_JOB_STAT 0 ≤ o ∧ o < R.JOBS_JOB_STAT 16) ||
      decide (R.POSEIN_ANCHOR_LAT_LO ≤ o ∧ o ≤ R.POSEIN_ANCHOR_H) ||
      decide (R.POSEIN_LAST_POSE 0 ≤ o ∧ o < R.POSEIN_LAST_POSE 10)
    ({ s with
      regs := s.regs.filter (fun e => !drop e.1), jobs := List.replicate 16 Job.reset,
      rast := { s.rast with genCtr := 0 } }).clearField
  | 7 =>
    let s := s.discardBacklog (fun _ => true)
    ({ s with look := { s.look with old := [], oldGen := 0 } }).w R.OUTLETWIN_SW_STAT 0
  | _ => s

/-- A wake (04 R87): MAIN_EN rises and the wake start-up begins; `n` is the stay in counts of the Cellar crystal. -/
def State.wake (s : State) (src n : Nat) : State :=
  let s := (s.wf R.CELLAR_LAST 3 0 src).wb R.CELLAR_LAST 4 s.pkg.dramKept
  let s := (s.w R.CELLAR_STAY (nw (n / 32768))).resetPackage .wake n
  let bad := (List.range 8).filter (fun k => !s.b R.CELLAR_LAST (8 + k))
  let s := bad.foldl (fun (s : State) k => s.retLoss k) s
  if bad.isEmpty then s else s.irqEv (R.CELLAR 0) 1

/-- WAKE_HIGH_DEBOUNCED: a wake in CELLAR; elsewhere WAKE is active (04 R89). -/
def execWakeHighDebounced (stay : Nat) (s : State) : Host.Outcome State Fault Refusal :=
  let t := s.setPkg { s.pkg with wakeLow := false, wakeActive := true }
  done (if s.pkg.cellar then t.wake 1 stay else t)

/-- CAN_WAKE. -/
def execCanWake (stay : Nat) (s : State) : Host.Outcome State Fault Refusal :=
  done (if s.pkg.cellar ∧ s.b R.CELLAR_CFG 2 = true then s.wake 2 stay else s)

/-- WAKE_TIMER_EXPIRE. -/
def execWakeTimerExpire (stay : Nat) (s : State) : Host.Outcome State Fault Refusal :=
  let t := (s.r R.CELLAR_WAKE_TIMER).toNat
  done (if s.pkg.cellar ∧ 0 < t ∧ t ≤ stay / 32768 then s.wake 3 stay else s)

/-- MAIN_RAILS_RETURN: recorded as code 4; the Cellar follows again from STANDBY once the WAKE rules allow it. -/
def execMainRailsReturn (stay : Nat) (s : State) : Host.Outcome State Fault Refusal :=
  done (if s.pkg.cellar then s.wake 4 stay else s)

end Sys2Proof.Machine
end

