-- ==== Sys2Proof/Machine/BootCmds.lean ====
section
/-!
DEFINITION. The start-up sequence (04 R75, R76), secure boot (19 R404), the check of the configuration store (19 R420) and
the opening of the Attic (20 R439).
-/
namespace Sys2Proof.Machine

/-- The start-up stands after step `n`; each step follows the one before it, and an event out of order changes nothing. -/
def State.atStep (s : State) (n : Nat) : Bool := s.pkg.bootStep == n && !s.pkg.cellar

def State.toStep (s : State) (n : Nat) : State := s.setPkg { s.pkg with bootStep := n }

/-- BOOT_POWER_RELEASE (step 1): every main rail but VDD_FLD, which step 7 checks, is in range; RESET.CAUSE is taken. -/
def execBootPowerRelease (s : State) : Host.Outcome State Fault Refusal :=
  done (if s.atStep 0 then ((s.w R.RESET_CAUSE (nw s.pkg.cause)).wf R.SUPPLY_RAIL_STAT 5 0 0x3F).toStep 1 else s)

/-- BOOT_PLL_LOCK (step 2): DT counts. -/
def execBootPllLock (s : State) : Host.Outcome State Fault Refusal :=
  done (if s.atStep 1 then
    let s := (s.wb R.CLOCK_REF_STAT 8 true).wb R.CLOCK_REF_STAT 9 true
    s.setPkg { s.pkg with bootStep := 2, dtRun := true }
  else s)

/-- BOOT_HOST_READY (steps 3 and 4). -/
def execBootHostReady (s : State) : Host.Outcome State Fault Refusal := done (if s.atStep 2 then s.toStep 4 else s)

/-! ## Secure boot (19 R404) -/

/-- Does an image verify? -/
def State.imageOk (s : State) (i : ImageInfo) : Bool :=
  i.headerOk && i.rootHashOk && !s.b R.FUSE_LIFE (if i.keyIdx then 5 else 4) && i.sigOk && i.hashOk &&
    decide (s.f R.FUSE_SVN 6 0 ≤ i.svn.toNat)

/-- What the try of an image leaves in UPDATE.IMG_STAT. -/
def State.tryImage (s : State) (k : Nat) (i : ImageInfo) : State :=
  let ok := s.imageOk i
  let s := (s.wb R.UPDATE_IMG_STAT (5 + k) (!ok)).wb R.UPDATE_IMG_STAT (3 + k) ok
  if i.headerOk then s.wf R.UPDATE_IMG_STAT (23 + 8 * k) (16 + 8 * k) i.svn.toNat else s

/-- The ETH_IDENTITY key pair is generated at the first start-up (19 R413). -/
def State.ownKey (s : State) : State :=
  if (s.sec.keys.getD 15 ⟨0, []⟩).cls = 0 then
    ({ s with sec := { s.sec with keys := s.sec.keys.set 15 ⟨5, (List.range 96).map Config.ethIdentity⟩ } }).lifeKb 5 1
  else s

/-- Image `k` runs: copied to MRAM, but for a wake, which finds it there. -/
def State.runImage (s : State) (k : Nat) (i : ImageInfo) : State :=
  let s := (s.wb R.UPDATE_IMG_STAT 0 (k == 1)).wb R.RESET_BOOT_STAT 0 (k == 1)
  let s := { s with sec := (if k = 1 then { s.sec with lineB := i.certLine } else { s.sec with lineA := i.certLine }) }
  let s := if s.pkg.waking then s else s.lifeKb 6 ((i.len.toNat + 1023) / 1024)
  (s.ownKey.toStep 5).noteCert false

/-- BOOT_IMAGE_VERIFY (step 5): the boot flash, of `mb` MB, is read (06 R116); the image named in NEXT is tried, then the other;
with neither the package is held in BOOT. -/
def execBootImageVerify (a b : ImageInfo) (mb : BitVec 8) (s : State) : Host.Outcome State Fault Refusal :=
  let img (k : Nat) : ImageInfo := if k = 1 then b else a
  let next := if s.b R.UPDATE_IMG_STAT 1 then 1 else 0
  done (if s.atStep 4 ∧ s.f R.UPDATE_IMG_STAT 6 5 = 0 then
    let s := s.w R.XSPI_STAT (nw (mb.toNat * 256 + 2))
    let s := s.tryImage next (img next)
    if s.imageOk (img next) then s.runImage next (img next)
    else
      let s := s.endTrial
      let other := 1 - next
      let s := s.tryImage other (img other)
      if s.imageOk (img other) then
        ((s.wb R.RESET_BOOT_STAT 1 true).irq (R.RESET 0) 0).runImage other (img other)
      else s.evGeneric R.UPDATE_IMG_STAT
  else s)

/-- BOOT_DRAM_TRAINED (step 6): `fitted` GB; the zero fill follows where the content was lost (06 R114). -/
def execBootDramTrained (fitted : BitVec 4) (s : State) : Host.Outcome State Fault Refusal :=
  done (if s.atStep 5 then
    let s := (s.wf R.LPDDR_CFG 3 0 fitted.toNat).wb R.LPDDR_CFG 4 s.pkg.dramKept
    (s.wb R.CLOCK_REF_STAT 10 true).toStep 6
  else s)

/-- DRAM_INIT_FILL_DONE (06 R114): zero over the whole capacity. -/
def execDramInitFillDone (s : State) : Host.Outcome State Fault Refusal :=
  done (if s.up 6 ∧ s.b R.LPDDR_CFG 4 = false then
    let s := { s with mem := s.mem.filter (fun e => !decide (dramBase ≤ e.1)) }
    (s.wb R.LPDDR_CFG 4 true).setPkg { s.pkg with dramKept := true }
  else s)

/-- BOOT_FIELD_RELEASE (step 7): VDD_FLD and the training of the two bridges. -/
def execBootFieldRelease (vddOk fb0 fb1 : Bool) (s : State) : Host.Outcome State Fault Refusal :=
  done (if s.atStep 6 then
    let s := (s.wb R.SUPPLY_RAIL_STAT 6 vddOk).toStep 7
    let s := (s.wb R.DIE_FLDHB_STAT 0 fb0).wb R.DIE_FLDHB_STAT 1 fb1
    let s := if s.railsOk then s.setPkg { s.pkg with railsSince := some s.dt } else s
    if vddOk then s else s.fieldDieSafe 3
  else s)

/-! ## Step 8: the configuration store -/

/-- Opcodes of OUTLET_SWITCH and RATE_SWITCH. -/
def switchOps : List Nat := [0x0501, 0x0510]

/-- The newest audit record that step 8 checks: a REG_WRITE, a RECORD_WRITE of a window that is not staged, or the switch
that made a staged set active (19 R420). -/
def checkedRec (w : List Word) : Bool :=
  let o := fld (nth w 3) 23 0
  match fld (nth w 0) 31 24 with
  | 1 => true
  | 2 => o / 0x1000 != 0x502 && o / 0x1000 != 0x506 && o != 0x504208
  | 3 => switchOps.contains (fld (nth w 3) 15 0)
  | _ => false

/-- A change that the store does not hold: a CHANGE_LOST record with origin CELLAR repeats its words 3 to 10, and source 398
is raised; a register keeps its old value. -/
def State.changeLost (s : State) : State :=
  match s.sec.audit.reverse.find? checkedRec with
  | none => s
  | some w =>
    let s := if fld (nth w 0) 31 24 = 1 then s.storePut (fld (nth w 3) 23 0) (nth w 5) else s
    let s := if s.audRun 1 then
      s.audit { typ := 7, origin := 0x31, role := 0xF, result := 0, sess := 0, changed := 0, w3 := nth w 3, w4 := nth w 4,
                vals := (List.range 3).map (fun k => (nth w (5 + k), nth w (8 + k))) }
      else s
    s.irq (R.AUDIT 0) 2

/-- The registers and tables the store holds, but for those that failed the check. -/
def State.loadStore (s : State) (bad : List Nat) : State :=
  let s := s.sec.store.foldl (fun (s : State) e =>
    if e.1 < storeTbl ∧ !bad.contains e.1 then (match e.2 with | some v => s.w e.1 v | none => s) else s) s
  let t := s.storedTable storeTbl 0x100000
  let r := s.storedTable storeRate 0x100000
  let n := s.storedTable storeNozzle 0x100000
  let i := s.storedTable storeInj 0x100000
  { s with
    look := { s.look with active := t, staged := t },
    meter := { s.meter with active := r, staged := r, nozzle := n, injector := i },
    pwm := { s.pwm with latch := (List.range 6).map (fun k => s.r (R.PWMCTL_PAD_SAFE k)) } }

/-- BOOT_CONFIG_LOAD (step 8): `bad` are the registers whose stored values failed the check; `newestStored` says that the
store holds the newest change that was audited. -/
def execBootConfigLoad (bad : List (BitVec 24)) (newestStored : Bool) (s : State) : Host.Outcome State Fault Refusal :=
  done (if s.atStep 7 then
    let s := if newestStored then s else s.changeLost
    let s := (s.loadStore (bad.map (·.toNat))).pwmSettle
    s.setPkg { s.pkg with bootStep := 8, cfgBad := !bad.isEmpty }
  else s)

/-! ## Step 9: the Attic (20 R439) -/

/-- Operating time of the newest valid record of the event and audit logs, in 1/256 s (04 R88). -/
def State.newestOp (s : State) : Nat :=
  let ev := match s.attic.log.reverse.find? (fun w => decide (nth w 0 ≠ 0xFD000000#32)) with
    | some w => (nth w 1).toNat * 256 + fld (nth w 2) 31 24
    | none => 0
  let au := match s.sec.audit.getLast? with
    | some w => (nth w 12).toNat * 256 + fld (nth w 13) 31 24
    | none => 0
  max ev au

/-- Operating time after power-on: from the checkpoint a flush wrote, or estimated; it never goes back (04 R88). -/
def State.restoreOp (s : State) : State :=
  if s.pkg.ckptFlushed then s.setPkg { s.pkg with ckptFlushed := false }
  else
    let run := s.pkg.opTicks - s.pkg.ckpt
    let s := s.setPkg { s.pkg with opTicks := max (s.pkg.ckpt + 2560) s.newestOp + run }
    (s.wb R.RESET_BOOT_STAT 8 true).irq (R.RESET 0) 1

/-- Torn slots of the event log are marked (20 R428). -/
def State.markTorn (s : State) (torn : List Nat) : State :=
  let l := torn.eraseDups.filter (fun i => decide (i < s.attic.log.length))
  (s.setAttic { s.attic with log := l.foldl (fun g i => g.set i tornRec) s.attic.log }).noteTorn l.length

/-- BOOT_ATTIC_OPEN (step 9): `torn` are the slots that read as torn. -/
def execBootAtticOpen (torn : List Nat) (s : State) : Host.Outcome State Fault Refusal :=
  done (if s.atStep 8 then
    let s := s.markTorn torn
    let s := if s.b R.RESET_CAUSE 0 ∨ s.b R.RESET_CAUSE 1 = true then s.restoreOp else s
    let s := if s.b R.RESET_CAUSE 0 then s.lifeReload.restoreTotals else s
    let s := (s.evNamed 0x00 (s.r R.RESET_CAUSE) (s.r R.RESET_BOOT_STAT)).toStep 9
    if s.pkg.cfgBad then s.safeCause cCfgStore else s
  else s)

/-! ## Step 10 -/

/-- What follows the first STANDBY or SAFE: the Cellar's wake is reported, PWR_FAIL acted on, and a WAKE pin that stayed low
leads back to the Cellar. -/
def State.afterBoot (s : State) : State :=
  let s := if s.pkg.waking then (s.setPkg { s.pkg with waking := false }).irq (R.CELLAR 0) 0 else s
  let s := if s.onTrial then { s with sec := { s.sec with trialSince := some s.dt } } else s
  let s := if s.pkg.pfBoot then s.pfAct else s
  if s.autoEnter then s.cellarTry else s

/-- BOOT_COMPLETE (step 10): STANDBY, or SAFE where a cause latched; `ms` from power-on release. -/
def execBootComplete (ms : BitVec 16) (s : State) : Host.Outcome State Fault Refusal :=
  done (if s.atStep 9 then
    let s := (s.wf R.RESET_BOOT_STAT 31 16 ms.toNat).toStep 10
    let s := if s.variant = .g then s.wb R.CLOCK_REF_STAT 11 true else s
    let s := if s.r R.SAFE_CAUSE = 0 then s.setMode 1 else s.safeAtBoot
    s.afterBoot
  else s)

end Sys2Proof.Machine
end

