-- ==== Sys2Proof/Machine/BusCmds.lean ====
section
/-!
DEFINITION. The meanings of the CAN and Ethernet events and of CAN_TX (18 R373 to R384).
-/
namespace Sys2Proof.Machine

/-! ## CAN -/

/-- A controller takes part in its bus: enabled, and not bus-off. -/
def State.canUp (s : State) (b : Nat) : Bool := s.b (R.CAN_CAN_CFG b) 31 && s.f (R.CAN_CAN_STAT b) 1 0 != 2

/-- Error counters after a frame, with the state they give: passive from 128 on (18 R373, R397). -/
def State.canErr (s : State) (b : Nat) (tec rec_ : Byte) : State :=
  let s := (s.wf (R.CAN_CAN_STAT b) 31 24 tec.toNat).wf (R.CAN_CAN_STAT b) 23 16 rec_.toNat
  s.wf (R.CAN_CAN_STAT b) 1 0 (if 128 ≤ tec.toNat ∨ 128 ≤ rec_.toNat then 1 else 0)

/-- Data bytes of a frame: a classic frame carries at most 8. -/
def canLen (id : Word) (dlc : Nat) : Nat :=
  if bit id 30 then [0, 1, 2, 3, 4, 5, 6, 7, 8, 12, 16, 20, 24, 32, 48, 64].getD dlc 0 else min dlc 8

/-- The 80-byte record of a received frame (18 R374). -/
def rawRecord (id : Word) (dlc : Nat) (data : List Byte) (sof : Nat) : List Word :=
  let d := (data.take (canLen id dlc) ++ List.replicate 64 0).take 64
  [id, nw dlc, nw sof, nw (sof / 2 ^ 32)] ++ bytesWords 16 d

/-- A frame enters the receive ring of its bus, or is dropped when the ring is full. -/
def State.rawRx (s : State) (b : Nat) (w : List Word) : State :=
  let n := s.f (R.CAN_RX_RING b) 11 0
  let base := s.f (R.CAN_RX_RING b) 31 12 * 4096
  let t := s.f (R.CAN_RX_TAIL b) 11 0
  let next := if n ≤ t + 1 then 0 else t + 1
  if n < 2 ∨ n ≤ t ∨ next = s.f (R.CAN_RX_HEAD b) 11 0 ∨ 0x100000 < base + 80 * n then s.satInc (R.CAN_CAN_STAT b) 15 2 1
  else (s.wrWords (sharedBase + base + 80 * t) w).wf (R.CAN_RX_TAIL b) 11 0 next

/-- A status message of the task-controller server: PGN 0xCB00 with command 0xE. -/
def isTcStatus (id : Word) (data : List Byte) : Bool :=
  bit id 31 && fld id 25 16 == 0xCB && (data.headD 0).toNat % 16 == 0xE

/-- CAN_FRAME_RX (18 R373 to R376): a frame is received and stamped. -/
def execCanFrameRx (bus : Fin 6) (id : Word) (dlc : BitVec 4) (data : List Byte) (sof : BitVec 64) (tec rec_ : Byte)
    (s : State) : Host.Outcome State Fault Refusal :=
  let b := bus.val
  done (if s.canUp b = true ∧ s.pkg.cellar = false then
    let s := s.canErr b tec rec_
    let s := if s.tcBus = some b ∧ isTcStatus id data then s.setComm { s.comm with tcUp := true } else s
    if 2 ≤ b ∧ s.b (R.CAN_CAN_CFG b) 29 then s.rawRx b (rawRecord id dlc.toNat data sof.toNat) else s
  else s)

/-- CAN_TX (18 R374): completes once its frame has been sent. -/
def execCanTx (c : Cmd) (s : State) : Host.Outcome State Fault Refusal :=
  let b := c.byte 8
  let dlc := c.byte 16
  let o := c.num 20 4
  let n := canLen (c.word 3) dlc
  let wrong := (if b < 6 then [] else [8]) ++ (if dlc < 16 then [] else [16]) ++ (if o + n ≤ 0x100000 then [] else [20])
  let conflict := decide (b < 2) || !s.b (R.CAN_CAN_CFG b) 31
  done (s.runCmd c (CmdSpec.mk' 0x0B01 1 0 (c.badArg [(8, 8), (12, 16), (20, 23)] wrong) conflict) (fun s =>
    if s.f (R.CAN_CAN_STAT b) 1 0 = 2 then s.reply c 0x20 0 0x70 0 0
    else
      let d := (s.rdBytes (sharedBase + o) n ++ List.replicate 64 0).take ((n + 3) / 4 * 4)
      s.setComm { s.comm with tx := s.comm.tx ++ [CanTx.mk b c ([c.word 3, nw dlc] ++ bytesWords ((n + 3) / 4) d)] }))

/-- CAN_FRAME_SENT (18 R374): the oldest waiting frame of a bus has been sent. -/
def execCanFrameSent (bus : Fin 6) (tec rec_ : Byte) (s : State) : Host.Outcome State Fault Refusal :=
  let b := bus.val
  done (if s.canUp b = true ∧ s.b (R.CAN_CAN_CFG b) 30 = false then
    let s := s.canErr b tec rec_
    match s.comm.tx.find? (fun e => e.bus == b) with
    | none => s
    | some e =>
      let s := s.setComm { s.comm with tx := s.comm.tx.erase e }
      let s := { s with host := { s.host with out := s.host.out ++ [OutMsg.mk b 0 e.words] } }
      s.ok e.cmd 0 0
  else s)

/-- CAN_BUS_OFF (18 R373, R374): the transmit error counter passes 255. -/
def execCanBusOff (bus : Fin 6) (tec rec_ : Byte) (s : State) : Host.Outcome State Fault Refusal :=
  let b := bus.val
  done (if s.canUp b then
    let s := (s.canErr b tec rec_).wf (R.CAN_CAN_STAT b) 1 0 2
    let s := s.fltEv (R.CAN b 0) 0
    let gone := s.comm.tx.filter (fun e => e.bus == b)
    let s := s.setComm { s.comm with tx := s.comm.tx.filter (fun e => e.bus != b) }
    gone.foldl (fun (s : State) e => s.reply e.cmd 0x20 0 0x70 0 0) s
  else s)

/-- CAN_BUS_OFF_RECOVERY (18 R373): 128 × 11 recessive bits have been seen. -/
def execCanBusOffRecovery (bus : Fin 6) (s : State) : Host.Outcome State Fault Refusal :=
  let b := bus.val
  done (if s.b (R.CAN_CAN_CFG b) 31 ∧ s.f (R.CAN_CAN_STAT b) 1 0 = 2 then s.canErr b 0 0 else s)

/-- ADDRESS_CLAIM (18 R375, R376): an address from PREF_ADDR upward is claimed. -/
def execAddressClaim (bus : Fin 2) (addr : Byte) (s : State) : Host.Outcome State Fault Refusal :=
  let b := bus.val
  done (if s.canUp b = true ∧ s.b (R.CAN_CAN_CFG b) 30 = false ∧ s.f (R.CAN_CAN_ADDR b) 15 8 ≤ addr.toNat ∧
      addr.toNat < 0xFE then
    (s.wf (R.CAN_CAN_ADDR b) 7 0 addr.toNat).wb (R.CAN_CAN_ADDR b) 16 true
  else s)

/-- ADDRESS_LOST (18 R376): no application message leaves the bus any more. -/
def execAddressLost (bus : Fin 2) (s : State) : Host.Outcome State Fault Refusal :=
  let b := bus.val
  done (if s.b (R.CAN_CAN_ADDR b) 16 then
    ((s.wb (R.CAN_CAN_ADDR b) 16 false).wf (R.CAN_CAN_ADDR b) 7 0 0xFE).fltEv (R.CAN b 0) 1
  else s)

/-! ## Ethernet -/

/-- A message leaves an Ethernet port. -/
def State.ethOut (s : State) (p kind : Nat) (l : List Word) : State :=
  { s with host := { s.host with out := s.host.out ++ [⟨8 + p, kind, l⟩] } }

/-- ETH_FRAME_RX (18 R381): ARP and ICMP echo for the port's own address are answered; a frame for an unsupported
protocol is dropped and counted. -/
def execEthFrameRx (port : Fin 2) (fr : EthFrame) (s : State) : Host.Outcome State Fault Refusal :=
  let p := port.val
  done (if s.b (R.ETH_ETH_CFG p) 31 = true ∧ s.f (R.ETH_ETH_STAT p) 1 0 ≠ 0 ∧ s.pkg.cellar = false then
    match fr with
    | .arp ip sender =>
      if ip = s.r (R.ETH_IP p) then s.ethOut p 4 [sender, ip, s.r (R.ETH_MAC_LO p), s.r (R.ETH_MAC_HI p)] else s
    | .echo src data => s.ethOut p 5 (src :: data)
    | .udp => s
    | .tcp => s
    | .other => s.satInc (R.ETH_ETH_STAT p) 31 16 1
  else s)

/-- ETH_LINK_CHANGE (18 R381, R397): the PHY link goes down or comes up. -/
def execEthLinkChange (port : Fin 2) (speed : BitVec 2) (s : State) : Host.Outcome State Fault Refusal :=
  let p := port.val
  let was := s.f (R.ETH_ETH_STAT p) 1 0
  let s' := s.wf (R.ETH_ETH_STAT p) 1 0 speed.toNat
  done (if was ≠ 0 ∧ speed = 0 then s'.fltEv (R.ETH p 0) 0 else s')

/-- PTP_SYNC (18 R382): a Sync exchange gives the port's 802.1AS time and its Sync interval. -/
def execPtpSync (port : Fin 2) (ns : BitVec 64) (us : Word) (s : State) : Host.Outcome State Fault Refusal :=
  let p := port.val
  done (if s.b (R.ETH_ETH_CFG p) 31 = true ∧ s.f (R.ETH_ETH_STAT p) 1 0 ≠ 0 ∧ s.b (R.ETH_PTP_CFG p) 0 = true then
    (s.setComm { s.comm with ptp := s.comm.ptp.set p (some (s.dt, (ns.toNat : Int), usDT us.toNat)) }).wb
      (R.ETH_PTP_STAT p) 0 true
  else s)

/-- PTP_SYNC_LOSS (18 R382): no Sync message within 3 intervals. -/
def execPtpSyncLoss (port : Fin 2) (s : State) : Host.Outcome State Fault Refusal :=
  let p := port.val
  done (match s.comm.ptp.getD p none with
    | some (t, _, i) =>
      if s.b (R.ETH_PTP_STAT p) 0 = true ∧ t + 3 * i ≤ s.dt then (s.wb (R.ETH_PTP_STAT p) 0 false).fltEv (R.ETH p 0) 1 else s
    | none => s)

end Sys2Proof.Machine
end

