-- ==== Sys2Proof/Machine/CtlCmds.lean ====
section
/-!
DEFINITION. The meanings of the control engine's events and commands (13), and the PWM sync loss, which may end in SAFE.
-/
namespace Sys2Proof.Machine

/-- An evaluation that has not started by its loop's next sample DT is skipped (13 R282). -/
def State.lpLate (s : State) (l : Nat) : State :=
  let s := ((s.inc R.CTLENG_LATE 31 0 1).flt (R.CTLENG 0) 0).irq (R.CTLENG 0) 0
  (s.uflt (R.LOOP l 0x040) 6).uirq (R.LOOP l 0x040) 6

/-- LOOP_SAMPLE (13 R280, R282): a sample DT of a loop that is not OFF; its evaluation is queued by sample DT and loop
number, in place of one that has not started. -/
def execLoopSample (loop : Fin 24) (s : State) : Host.Outcome State Fault Refusal :=
  let l := loop.val
  done (match s.sampleDT l with
    | some t =>
      if s.ctlRuns = true ∧ s.lpSt l ≠ 0 ∧ (s.lp l).last < t then
        let late := s.ctl.queue.any (fun e => e.2 == l)
        let s := if late then s.lpLate l else s
        let q := s.ctl.queue.filter (fun e => e.2 != l)
        let s := { s with ctl := { s.ctl with queue := sortKey (fun e => e.1 * 32 + e.2) (q ++ [(t, l)]) } }
        (s.setLp l { s.lp l with last := t }).w (R.LOOP_LAST_DT l) (nw (ticks t))
      else s
    | none => s)

/-- LOOP_EVALUATION (13 R282, R289): the engine evaluates the sample that is first in its order; `ue`: it met an
uncorrectable error in that loop's state (06 R115). -/
def execLoopEvaluation (ue : Bool) (s : State) : Host.Outcome State Fault Refusal :=
  done (match s.ctl.queue with
    | (t, l) :: q =>
      if s.ctlRuns then
        let wait := min ((s.dt - t) / 25600) 0xFFFF
        let s := s.wf R.CTLENG_STAT 15 0 (max (s.f R.CTLENG_STAT 15 0) wait)
        let s := ({ s with ctl := { s.ctl with queue := q } }).evaluate l t ue
        let s := if s.f R.TRACE_CFG 28 24 = l then s.traceSample else s
        if s.anyLoopSafe then s.safeCause cLoopSafe else s
      else s
    | [] => s)

/-- LOOP_HOLD_CLEAR (13 R292): the causing conditions are clear for CLR_MS, with RESUME = 1. -/
def execLoopHoldClear (loop : Fin 24) (s : State) : Host.Outcome State Fault Refusal :=
  let l := loop.val
  let x := s.lp l
  done (match x.clear with
    | some t =>
      if s.lpSt l = 3 ∧ s.b (R.LOOP_SUP_CFG l) 25 = true ∧ t + msDT (s.f (R.LOOP_SUP_CFG l) 15 0) ≤ s.dt then
        let y := { x with
          preset := true, autoAt := s.dt, feSince := [none, none], cnt := 0, cur := [none, none], subs := [[], []],
          cause := 0, clear := none }
        (s.setLpSt l 2).setLp l y
      else s
    | none => s)

/-- LOOP_MODE (13 R292, R296): its state is reached at the next sample; OFF, and leaving OFF, at once. -/
def execLoopMode (c : Cmd) (s : State) : Host.Outcome State Fault Refusal :=
  let l := c.byte 8
  let m := c.byte 9
  let wrong := (if l < 24 then [] else [8]) ++ (if m ≤ 2 then [] else [9])
  done (s.runCmd c (CmdSpec.mk' 0x0701 1 0 (c.badArg [(8, 9)] wrong) (!s.modeFits l m (s.cmdRole c)))
    (fun s =>
      match (if s.lpSt l = 0 ∧ m = 1 then s.lpFault l else none) with
      | some d => s.reply c 0x20 0 d 0 0
      | none =>
        let s := s.evGeneric (R.LOOP l 0x044)
        if m = 0 then (s.lpOff l).ok c 0 0
        else
          let s := if s.lpSt l = 0 then s.lpStart l else s
          s.setLp l { s.lp l with cmds := (s.lp l).cmds ++ [(c, m)] }))

/-- Bits of a register's implemented fields; a reserved bit that is written is ignored (03 R57). -/
def implMask (o : Nat) : Word :=
  match regInfo o with
  | some i => i.fields.foldl (fun m f => m ||| maskOf f.hi f.lo) 0
  | none => 0

/-- Word `k` of the coefficient region as an image gives it. -/
def imgWord (img : List Word) (k : Nat) : Word := nth img ((k - 0x100) / 4) &&& implMask (R.LOOP 0 k)

/-- The region takes an image, and so does the store, 1,280 bytes in one write. -/
def State.loadCoefs (s : State) (l : Nat) (img : List Word) : State :=
  let s := s.lifeKb 4 2
  (List.range 320).foldl (fun (s : State) k =>
    let o := R.LOOP l (0x100 + 4 * k)
    if (regInfo o).isSome then (s.w o (imgWord img (0x100 + 4 * k))).storePut o (imgWord img (0x100 + 4 * k)) else s) s

/-- LOOP_COEF_LOAD (13 R295, R296): replaces the coefficient region between two evaluations. -/
def execLoopCoefLoad (c : Cmd) (s : State) : Host.Outcome State Fault Refusal :=
  let l := c.byte 8
  let o := c.num 12 4
  let wrong := (if l < 24 then [] else [8]) ++ (if o % 16 = 0 ∧ o + 1280 ≤ 0x100000 then [] else [12])
  let conflict := s.lpSt l == 2 || s.lpSt l == 3 || (s.lp l).cmds.any (fun e => e.2 == 2)
  done (s.runCmd c (CmdSpec.mk' 0x0702 2 2 (c.badArg [(8, 8), (12, 15)] wrong) conflict)
    (fun s =>
      let img := s.rdWords (sharedBase + o) 320
      match (List.range 320).find? (fun k => coefBad (imgWord img) (0x100 + 4 * k)) with
      | some k => s.reply c 0x20 0 0x60 (nw (4 * k)) 0
      | none =>
        let law := imgWord img 0x200
        if s.lpSt l ≠ 0 ∧ s.ctlLoad 24 < s.ctlLoad l + lawLoad law (s.lpPeriod l) ∧ s.loadFits l law (s.lpPeriod l) = false then
          s.reply c 0x20 0 0x61 0 0
        else (((s.loadCoefs l img).chg (R.LOOP l 0)).inc (R.LOOP l 0x058) 31 0 1).ok c 0 0))

/-! ## The system safety heartbeat on PWM_SYNCI (14 R315, 18 R395) -/

/-- The system safety heartbeat is lost: SAFE with cause SYS_HB, source 370. -/
def State.sysHb (s : State) : State :=
  let s := s.setComm { s.comm with hbOk := none }
  if s.b R.SYSNET_CFG 11 ∧ s.mode ≠ 0 then
    let new := !s.b R.SAFE_CAUSE cSysHb
    let s := (s.flt (R.SYSNET 0) 1).safeCause cSysHb
    if new then s.irqEv (R.SYSNET 0) 2 else s
  else s

/-- PWM_SYNC_LOSS (14 R315): no sync for 2 × PER counts. -/
def execPwmSyncLoss (cl : Fin 6) (s : State) : Host.Outcome State Fault Refusal :=
  let k := cl.val
  let x := s.pcl k
  done (if s.pwm.held.isNone ∧ s.b (R.PWMC_CL_CFG k) 31 = true ∧ x.syncSeen + countDT (2 * s.perCounts k) ≤ s.dt then
    let s := ((s.setPcl k { x with syncSeen := s.dt }).flt (R.PWMC k 0) 1).wb (R.PWMC_CL_STAT k) 30 false
    if k = 0 ∧ s.b R.PWMCTL_SYNC_CFG 0 = true ∧ s.b R.SYSNET_CFG 12 = true then s.sysHb else s
  else s)

end Sys2Proof.Machine
end

