-- ==== Sys2Proof/Machine/FioCmds.lean ====
section
/-!
DEFINITION. The meanings of the field input and output events and of DIO edges (15), and of the confirmations formed from
configured delays (01 R15).
-/
namespace Sys2Proof.Machine

/-- DIO_INPUT_CHANGE (15 R325): the pin's filtered level and the DT of the filtered change. -/
def execDioInputChange (pin : Fin 32) (level : Bool) (t : BitVec 64) (s : State) : Host.Outcome State Fault Refusal :=
  let n := pin.val
  done (if s.b (R.DIOG_IO_STAT n) 31 = level then s
  else
    let s := (s.wb (R.DIOG_IO_STAT n) 31 level).wb (R.DIOG_G_STAT (n / 8)) (16 + n % 8) level
    let s := (s.w64 (R.DIOG_IO_EDGE_LO n) t.toNat).inc (R.DIOG_IO_CNT n) 31 16 1
    let s := if level then s else s.setDioEpisode n 4 false
    s.uirq (R.DIOG_U n 0) (if level then 0 else 1))

/-- DIO_CONDUCTION_CHANGE (15 R326, R327). -/
def execDioConductionChange (pin : Fin 32) (s : State) : Host.Outcome State Fault Refusal := done (s.dioFollow pin.val)

/-- DIO_SHORT (15 R327): of an output that is on. -/
def execDioShort (pin : Fin 32) (s : State) : Host.Outcome State Fault Refusal :=
  done (if s.dioSt pin.val = 2 then s.dioShort pin.val else s)

/-- DIO_RETRY_EXPIRE (15 R327): RETRY_10MS × 10 ms after the fault, while it is not latched. -/
def execDioRetryExpire (pin : Fin 32) (s : State) : Host.Outcome State Fault Refusal :=
  let n := pin.val
  done (if s.dioSt n = 3 ∧ s.b (R.DIOG_IO_STAT n) 29 = false ∧
      (s.dioPin n).since + msDT (10 * s.f (R.DIOG_IO_CFG n) 7 0) ≤ s.dt then s.dioRetry n
    else s)

/-- DIO_RETRY_COUNT_RESET (15 R327): 1 s in ON without a short. -/
def execDioRetryCountReset (pin : Fin 32) (s : State) : Host.Outcome State Fault Refusal :=
  let n := pin.val
  done (if s.dioSt n = 2 ∧ (s.dioPin n).since + sDT 1 ≤ s.dt then s.wf (R.DIOG_IO_STAT n) 28 26 0 else s)

/-- DIO_UNLATCH (15 R327): of a latched pin; OK within 500 µs. -/
def execDioUnlatch (c : Cmd) (s : State) : Host.Outcome State Fault Refusal :=
  let n := c.byte 8
  let conflict := !(s.mode == 3 || s.mode == 4 || s.mode == 5) || !s.b (R.DIOG_IO_STAT n) 29
  done (s.runCmd c (CmdSpec.mk' 0x0901 2 1 (c.badArg [(8, 8)] (if n < 32 then [] else [8])) conflict)
    (fun s => (s.dioUnlatch n).ok c 0 0))

/-- DIO_EXT_VOLTAGE (15 R328): an OFF output that reads on for 1 ms, counted from 5 ms after its turn-off. -/
def execDioExtVoltage (pin : Fin 32) (s : State) : Host.Outcome State Fault Refusal :=
  let n := pin.val
  done (if s.dioSt n = 1 ∧ s.b (R.DIOG_IO_STAT n) 31 = true ∧ (s.dioPin n).since + msDT 6 ≤ s.dt then
      let s' := (s.uflt (R.DIOG_U n 0) 4).uirq (R.DIOG_U n 0) 4
      if s.dioEpisode n 4 then s' else (s'.setDioEpisode n 4 true).evUnit (R.DIOG (n / 8) 0) 4 n
    else s)

/-- DIO_OPEN (15 R328): an ON output whose measured current stays below 2 mA for 10 ms. -/
def execDioOpen (pin : Fin 32) (ma : BitVec 12) (s : State) : Host.Outcome State Fault Refusal :=
  let n := pin.val
  let s := s.wf (R.DIOG_IO_STAT n) 11 0 ma.toNat
  done (if s.dioSt n = 2 ∧ s.b (R.DIOG_IO_CFG n) 30 = true ∧ ma.toNat < 2 ∧ (s.dioPin n).since + msDT 10 ≤ s.dt then
      (s.uflt (R.DIOG_U n 0) 5).uirq (R.DIOG_U n 0) 5
    else s)

/-- Note a group's supply, 10 mV. -/
def State.setVio (s : State) (g : Nat) (v : BitVec 16) : State := s.wf (R.DIOG_G_STAT g) 15 0 v.toNat

/-- VIO_LOW (15 R329): VIO_x, in 10 mV, stayed below VIO_LOW for 100 µs. -/
def execVioLow (g : Fin 4) (vio : BitVec 16) (s : State) : Host.Outcome State Fault Refusal :=
  let s := s.setVio g.val vio
  done (if s.b (R.DIOG_G_STAT g.val) 31 = false ∧ vio.toNat < 10 * s.f (R.DIOG_G_CFG g.val) 15 8 then s.vioLow g.val else s)

/-- VIO_OK (15 R329): VIO_x stayed above VIO_LOW + 1.0 V for 10 ms. -/
def execVioOk (g : Fin 4) (vio : BitVec 16) (s : State) : Host.Outcome State Fault Refusal :=
  let s := s.setVio g.val vio
  done (if s.b (R.DIOG_G_STAT g.val) 31 = true ∧ 10 * s.f (R.DIOG_G_CFG g.val) 15 8 + 100 < vio.toNat then s.vioOk g.val else s)

/-- VIO_STAGGER_ON (15 R329). -/
def execVioStaggerOn (g : Fin 4) (s : State) : Host.Outcome State Fault Refusal := done (s.staggerOn g.val)

/-- DIO_EDGE_EXECUTE (15 R326, 09 R205). -/
def execDioEdgeExecute (id : Fin 1024) (s : State) : Host.Outcome State Fault Refusal :=
  done (match (s.q id.val).edges with
    | e :: _ => if e.kind = 4 ∧ e.landed = true ∧ e.exec ≤ s.dt then s.runDio id.val e else s
    | [] => s)

/-- DELAYED_CONFIRMATION (01 R15): the oldest confirmation of an outlet that waits for its configured delay. -/
def execDelayedConfirmation (id : Fin 1024) (s : State) : Host.Outcome State Fault Refusal :=
  done (match s.look.awaiting.find? (fun a => a.id == id.val && decide (a.kind ≠ 6)) with
    | some a =>
      if a.due ≤ s.dt then
        (({ s with look := { s.look with awaiting := s.look.awaiting.erase a } }).confirmDue a).releaseOld
      else s
    | none => s)

/-- AIN_CONVERSION (15 R331): the code of a conversion that ends now. -/
def execAinConversion (n : Fin 16) (code : BitVec 16) (s : State) : Host.Outcome State Fault Refusal :=
  done ((s.ainConvert n.val code.toNat).publish (4096 + n.val))

/-- AIN_OVERLOAD (15 R332): in the current range, above 25 mA for 50 µs. -/
def execAinOverload (n : Fin 16) (s : State) : Host.Outcome State Fault Refusal :=
  done (if s.f (R.AING_AIN_CFG n.val) 31 30 = 2 ∧ (s.ain n.val).cut.isNone then
      (s.setAin n.val { s.ain n.val with cut := some s.dt }).ainFault n.val 2
    else s)

/-- AIN_BURDEN_RECONNECT (15 R332): 1 s after the disconnection. -/
def execAinBurdenReconnect (n : Fin 16) (s : State) : Host.Outcome State Fault Refusal :=
  done (match (s.ain n.val).cut with
    | some t => if t + sDT 1 ≤ s.dt then s.setAin n.val { s.ain n.val with cut := none } else s
    | none => s)

/-- FIN_RISING_EDGE (15 R333): the DT of the filtered edge. -/
def execFinRisingEdge (n : Fin 12) (t : BitVec 64) (s : State) : Host.Outcome State Fault Refusal :=
  done (s.finEdge n.val t.toNat)

/-- FIN_GATE_END (15 R334): GATE_MS after the gate began. -/
def execFinGateEnd (n : Fin 12) (s : State) : Host.Outcome State Fault Refusal :=
  done (if (s.fin n.val).gate + msDT (s.f (R.FING_F_CFG n.val) 15 8) ≤ s.dt then (s.finGate n.val).publish (8192 + n.val) else s)

/-- FIN_TIMEOUT (15 R334). -/
def execFinTimeout (n : Fin 12) (s : State) : Host.Outcome State Fault Refusal :=
  done (match (s.fin n.val).newest with
    | some t =>
      if t + msDT (s.f (R.FING_F_TIMEOUT n.val) 15 0) ≤ s.dt ∧ s.b (R.FING_F_STAT n.val) 30 = false then (s.finTimeout n.val).publish (8192 + n.val)
      else s
    | none => s)

/-- QUAD_COUNT (15 R335): a count up or down, or, where both inputs changed, a quadrature error. -/
def execQuadCount (pair : Fin 6) (up : Option Bool) (s : State) : Host.Outcome State Fault Refusal :=
  done (if s.b R.FING_QUAD_CFG pair.val then
      (match up with
       | some b => s.quadStep pair.val b
       | none => s.quadError pair.val)
    else s)

/-- QUAD_INVALID_EXPIRE (15 R335). -/
def execQuadInvalidExpire (pair : Fin 6) (s : State) : Host.Outcome State Fault Refusal :=
  done (match s.fio.quadBad.getD pair.val none with
    | some t => if t ≤ s.dt then { s with fio := { s.fio with quadBad := s.fio.quadBad.set pair.val none } } else s
    | none => s)

end Sys2Proof.Machine
end

