-- ==== Sys2Proof/Machine/GnssCmds.lean ====
section
/-!
DEFINITION. The meanings of the GNSS baseband's events (16).
-/
namespace Sys2Proof.Machine

/-- RF_LINK_LOSS (01 R19): source 23. -/
def execRfLinkLoss (s : State) : Host.Outcome State Fault Refusal :=
  done (if s.gnss.link then (s.linkLoss).irq (R.DIE 0) 3 else s)

/-- RF_LINK_RETURN (16 R340): the sample index goes on from the count the gap implies, since samples are taken by DT. -/
def execRfLinkReturn (gap : Nat) (s : State) : Host.Outcome State Fault Refusal :=
  done (if s.gnss.link || decide (gap = 0 ∧ s.gnss.seen = true) then s else s.linkReturn)

/-- ANT_OPEN (16 R341): bias current, in 0.1 mA, below 2.0 mA for 100 ms. -/
def execAntOpen (a : Fin 2) (cur : BitVec 12) (s : State) : Host.Outcome State Fault Refusal :=
  let s := s.setBias a.val cur.toNat
  done (if s.antSt a.val = 1 ∧ cur.toNat < 20 then (s.setAnt a.val 2).fltEv (R.RFCTL 0) (2 + a.val) else s)

/-- ANT_OPEN_CLEAR (16 R341): the current lies from 2.0 mA to 80 mA for 100 ms. -/
def execAntOpenClear (a : Fin 2) (cur : BitVec 12) (s : State) : Host.Outcome State Fault Refusal :=
  let s := s.setBias a.val cur.toNat
  done (if s.antSt a.val = 2 ∧ 20 ≤ cur.toNat ∧ cur.toNat ≤ 800 then s.setAnt a.val 1 else s)

/-- ANT_SHORT (16 R341): above 80 mA for 1 ms; the bias is cut. -/
def execAntShort (a : Fin 2) (cur : BitVec 12) (s : State) : Host.Outcome State Fault Refusal :=
  let s := s.setBias a.val cur.toNat
  done (if (s.antSt a.val = 1 ∨ s.antSt a.val = 2) ∧ 800 < cur.toNat then
      let s := (s.setAnt a.val 3).fltEv (R.RFCTL 0) a.val
      { s with gnss := { s.gnss with cut := s.gnss.cut.set a.val (some s.dt) } }
    else s)

/-- ANT_BIAS_RETRY (16 R341): with AUTO_RETRY, 1 s after the short, at most 5 times per power cycle. -/
def execAntBiasRetry (a : Fin 2) (s : State) : Host.Outcome State Fault Refusal :=
  let k := s.gnss.retries.getD a.val 0
  done (match s.gnss.cut.getD a.val none with
    | some t =>
      if s.antSt a.val = 3 ∧ s.b R.RFCTL_ANT_CFG (2 + 8 * a.val) = true ∧ t + sDT 1 ≤ s.dt ∧ k < 5 then
        let g := { s.gnss with retries := s.gnss.retries.set a.val (k + 1), cut := s.gnss.cut.set a.val none }
        ({ s with gnss := g }).setAnt a.val 1
      else s
    | none => s)

/-- GCH_START_DT_REACHED (16 R346). -/
def execGchStartDtReached (ch : Fin 256) (s : State) : Host.Outcome State Fault Refusal :=
  done (if s.gchSt ch.val = 1 ∧ (s.gch ch.val).startAt ≤ s.dt ∧ s.gnss.seen = true then s.gchRun ch.val else s)

/-- GCH_INTERVAL_END (16 R344, R348): the sums of the interval, I and Q for VE, E, P, L, VL, MP1, MP2; `ue`: the channel's
state in GNSS SRAM had an uncorrectable error (06 R115). -/
def execGchIntervalEnd (ch : Fin 256) (acc : List Int) (ue : Bool) (s : State) : Host.Outcome State Fault Refusal :=
  let u := ch.val
  let c := s.gch u
  done (if ue = true ∧ (s.gchSt u = 2 ∨ s.gchSt u = 3) then
      ((s.setGchSt u 4).gchFlt u 6).evUnit (R.GCH (u / 8) 0) 6 u
    else if s.gchSt u = 2 ∧ s.sampleAt (c.n0 + c.coh * 61380) ≤ s.dt then s.gchDump u acc
    else s)

/-- SEARCH_CAPTURE_START (16 R352): at a DT multiple of 1 ms, with the slots free; in OPERATE two searches run at most. -/
def execSearchCaptureStart (x : Fin 4) (s : State) : Host.Outcome State Fault Refusal :=
  let c := s.gctx x.val
  let others := ((List.range 4).filter (fun y => y != x.val && (s.ctxPhase y == 2 || s.ctxPhase y == 3))).length
  done (match c.job with
    | some j =>
      if s.jobSt j = 2 ∧ s.ctxPhase x.val = 1 ∧ c.nsum ≤ s.f R.ACQ_STAT 6 0 ∧ s.b R.RFCTL_CHAIN_STAT c.chain = true ∧
          (s.mode ≠ 3 ∨ others < 2) then
        let t := s.dt / msDT 1 * msDT 1
        ((s.setGctx x.val { c with cap := t }).w64 (R.ACQ_CTX_CAP_DT_LO x.val) t).setPhase x.val 2
      else s
    | none => s)

/-- SEARCH_CAPTURE_DONE (16 R352): NSUM blocks of 1 ms. -/
def execSearchCaptureDone (x : Fin 4) (s : State) : Host.Outcome State Fault Refusal :=
  let c := s.gctx x.val
  done (if s.ctxPhase x.val = 2 ∧ c.cap + msDT c.nsum ≤ s.dt then s.setPhase x.val 3 else s)

/-- SEARCH_CELL_DONE (16 R352): the cells found in the bin, with their metrics; `ue`: GNSS SRAM had an uncorrectable error
(06 R115). -/
def execSearchCellDone (x : Fin 4) (found : List (Nat × Nat)) (ue : Bool) (s : State) : Host.Outcome State Fault Refusal :=
  done (match (s.gctx x.val).job with
    | some j =>
      if s.ctxPhase x.val = 3 ∧ s.jobSt j = 2 then
        (if ue then (s.fltEv (R.ACQ 0) 0).searchFail x.val j 0x11 else s.searchCell x.val j found)
      else s
    | none => s)

/-- SEARCH_CHAIN_FAIL (16 R352): the chain is absent for 1 s. -/
def execSearchChainFail (x : Fin 4) (s : State) : Host.Outcome State Fault Refusal :=
  let c := s.gctx x.val
  done (match c.job, s.gnss.gone.getD c.chain none with
    | some j, some t =>
      if s.jobSt j = 2 ∧ (s.ctxPhase x.val = 1 ∨ s.ctxPhase x.val = 2) ∧ t + sDT 1 ≤ s.dt then s.searchFail x.val j 0x12 else s
    | _, _ => s)

end Sys2Proof.Machine
end

