-- ==== Sys2Proof/Machine/HexCmds.lean ====
section
/-!
DEFINITION. The meanings of the Hexyon ring's events: beacons, membership, the time master, system time, replication and
shared pose (18 R385 to R395).
-/
namespace Sys2Proof.Machine

/-! ## Membership and the time master (18 R388, R389) -/

/-- Is this package the time master? -/
def State.isMaster (s : State) : Bool := s.b R.SYSNET_MEMBER_STAT 10 && s.f R.SYSNET_MEMBER_STAT 9 8 == s.nodeId

/-- Hops from the time master, 0xFF while unsynced: 0 for the master, else one more than the neighbour's. -/
def State.hops (s : State) : Nat :=
  if s.isMaster then 0
  else if s.synced then min 0xFF (min (s.hxPort 0).nbHops (s.hxPort 1).nbHops + 1)
  else 0xFF

/-- The membership changes to a mask under an epoch: source 368 and SYS_MEMBERSHIP. -/
def State.setEpoch (s : State) (mask epoch : Nat) : State :=
  let s := (s.setComm { s.comm with mask := mask }).wf R.SYSNET_MEMBER_STAT 31 16 epoch
  (s.irq (R.SYSNET 0) 0).evNow 0x14 (nw (mask * 65536 + s.f R.SYSNET_MEMBER_STAT 31 16))

/-- The master counts a change of its PRESENT mask. -/
def State.countMask (s : State) : State :=
  let m := s.f R.SYSNET_MEMBER_STAT 3 0
  if s.isMaster && m != s.comm.mask then s.setEpoch m (s.f R.SYSNET_MEMBER_STAT 31 16 + 1) else s

/-- A new master: source 369. -/
def State.setMaster (s : State) (n : Nat) : State :=
  ((s.wb R.SYSNET_MEMBER_STAT 10 true).wf R.SYSNET_MEMBER_STAT 9 8 n).irq (R.SYSNET 0) 1

/-- A node is heard on either port. -/
def State.heard (s : State) (n : Nat) : State :=
  ((s.setNode n { s.node n with seen := some s.dt }).wb R.SYSNET_MEMBER_STAT n true).countMask

/-- NODE_ABSENT (18 R388, R389, R395): no frame of a node for HB_MS. -/
def execNodeAbsent (node : Fin 4) (s : State) : Host.Outcome State Fault Refusal :=
  let n := node.val
  let due : Bool := match (s.node n).seen with | some t => decide (t + s.hbDT ≤ s.dt) | none => true
  done (if n ≠ s.nodeId ∧ s.b R.SYSNET_MEMBER_STAT n = true ∧ due = true then
    let s := s.setNode n ⟨none, none, [[], [], []]⟩
    let s := (s.wb R.SYSNET_MEMBER_STAT n false).wb R.SYSNET_MEMBER_STAT (4 + n) false
    let s := if s.b R.SYSNET_MEMBER_STAT 10 = true ∧ s.f R.SYSNET_MEMBER_STAT 9 8 = n then
      s.wb R.SYSNET_MEMBER_STAT 10 false else s
    let s := s.countMask
    if s.hbGood then s else s.sysHb
  else s)

/-- MASTER_CLAIM (18 R389 to R391): no master heard for HB_MS and 2 ms × NODE_ID more. The first master's SYST is its DT;
a later one continues from its own mapping. -/
def execMasterClaim (s : State) : Host.Outcome State Fault Refusal :=
  let quiet : Bool := match s.comm.masterAt with
    | some t => decide (t + s.hbDT + msDT (2 * s.nodeId) ≤ s.dt)
    | none => false
  done (if s.b R.SYSNET_CFG 10 = true ∧ s.b R.HXL_HX_CFG 0 = true ∧ s.pkg.bootStep = 10 ∧ s.pkg.cellar = false ∧
      s.isMaster = false ∧ quiet = true then
    let s := s.setMaster s.nodeId
    let s := if s.r R.SYSNET_MAP_SEQ = 0 then s.setSyst s.dt s.dt 0 else s
    ((s.wb R.SYSNET_MEMBER_STAT 11 true).wb R.SYSNET_MEMBER_STAT s.nodeId true).countMask
  else s)

/-! ## System time (18 R390, R391) -/

/-- DT units in a publication's 16 ms, and the most it may slew: 100 µs per second. -/
def publishDT : Nat := msDT 16
def slewMax : Int := 40960

/-- Publish the mapping fitted to the last 64 beacons: the first as fitted, later ones continuous; after two masters met,
the error to the remaining one is slewed up to 1 ms and stepped beyond. -/
def State.publishSyst (s : State) : State :=
  let fit := Config.systAnchor s.comm.offs s.dt
  let rate := Config.systRate s.comm.offs
  if s.r R.SYSNET_MAP_SEQ = 0 then (s.setComm { s.comm with merge := false }).setSyst s.dt fit rate
  else
    let e := fit - s.syst s.dt
    if s.comm.merge = true ∧ (msDT 1 : Int) < e.natAbs then
      let s := (s.setComm { s.comm with merge := false, slew := 0 }).setSyst s.dt fit rate
      (s.inc R.SYSNET_SYS_EPOCH 15 0 1).irqEv (R.SYSNET 0) 1
    else
      let left := if s.comm.merge then e else s.comm.slew
      let d := clamp (-slewMax) slewMax left
      let s' := s.setComm { s.comm with merge := false, slew := left - d }
      s'.setSyst s.dt (s.syst s.dt) (wordOf (sword rate + fdiv (d * 2 ^ 40) publishDT))

/-- SYST_PUBLISH (18 R390): every 16 ms. -/
def execSystPublish (s : State) : Host.Outcome State Fault Refusal :=
  done (if s.isMaster = false ∧ s.synced = true ∧ s.r64 R.SYSNET_S_ADT_LO + publishDT ≤ s.dt then s.publishSyst else s)

/-- A beacon's offset is taken; after 64 of them the package is SYNCED. -/
def State.takeOffset (s : State) (t2 : DT) (off : Int) : State :=
  let s := s.setComm { s.comm with offs := (s.comm.offs ++ [(t2, off)]).drop (s.comm.offs.length - 63) }
  if s.synced = false ∧ s.comm.offs.length = 64 then (s.wb R.SYSNET_MEMBER_STAT 11 true).publishSyst else s

/-- The port whose neighbour the package synchronises to: lowest hops, HX0 on a tie. -/
def State.syncPort (s : State) : Option Nat :=
  let h (p : Nat) : Nat := if s.portUp p then (s.hxPort p).nbHops else 0xFF
  if h 0 = 0xFF ∧ h 1 = 0xFF then none else if h 0 ≤ h 1 then some 0 else some 1

/-- A 64-bit number in two payload words. -/
def payNum (pay : List Word) (k : Nat) : Int := ((nth pay k).toNat + 2 ^ 32 * (nth pay (k + 1)).toNat : Nat)

/-- Delay and offset of a beacon pair: T1, T4 of the neighbour's SYST, T2, T3 of the own DT (18 R390). -/
def pairDelay (t1 t2 t3 t4 : Int) : Int := fdiv ((t4 - t1) - (t3 - t2)) 2
def pairOffset (t1 t2 t3 t4 : Int) : Int := fdiv ((t2 - t1) - (t4 - t3)) 2

/-- Timing of a neighbour's beacon (HOPS 0) that arrived on port `p` at own DT `t` (18 R390). -/
def State.beaconTime (s : State) (p seq : Nat) (pay : List Word) (t : DT) : State :=
  let x := s.hxPort p
  let s := s.setHxPort p { x with last := some t, nbSeq := seq, nbHops := byteOf (nth pay 5) 2 }
  match x.last, x.sent.find? (fun e => e.1 == fld (nth pay 5) 15 0) with
  | some t2, some (_, t3) =>
    if seq = (x.nbSeq + 1) % 65536 ∧ byteOf (nth pay 5) 2 ≠ 0xFF then
      let s := s.w R.SYSNET_LINK_DELAY (wordOf (pairDelay (payNum pay 1) t2 t3 (payNum pay 3)))
      if s.isMaster = false ∧ s.syncPort = some p then
        s.takeOffset t2 (pairOffset (payNum pay 1) t2 t3 (payNum pay 3))
      else s
    else s
  | _, _ => s

/-! ## Beacons (18 R387) -/

/-- Byte 0 of a beacon: SAFE_NOTICE, MASTER, ELIGIBLE, SYNCED, EXPECT. -/
def State.beaconFlags (s : State) : Nat :=
  let on (k : Nat) (x : Bool) : Nat := if x then 2 ^ k else 0
  on 0 s.safeNotice + on 1 s.isMaster + on 2 (s.b R.SYSNET_CFG 10) + on 3 s.synced + 16 * s.f R.SYSNET_CFG 23 20

/-- The 12 payload words of the beacon for a port. -/
def State.beaconPay (s : State) (p : Nat) : List Word :=
  let x := s.hxPort p
  let t1 : Int := match x.sent with | e :: _ => s.syst e.2 | [] => 0
  let t4 : Int := match x.last with | some t => s.syst t | none => 0
  let gen := if s.b R.TILEDIR_FIELD_STAT 31 then s.f R.TILEDIR_FIELD_STAT 23 16 else 0
  padWords 12 ([nw (s.beaconFlags + s.f R.SYSNET_MEMBER_STAT 3 0 * 256 + s.f R.SYSNET_MEMBER_STAT 31 16 * 65536)] ++
    words64 t1 ++ words64 t4 ++
    [nw (x.nbSeq + s.hops * 65536 + gen * 2 ^ 24), s.fieldKey, nw (s.f R.SYSNET_SYS_EPOCH 15 0)])

/-- A beacon leaves a port now. -/
def State.sendBeacon (s : State) (p seq : Nat) : State :=
  let s' := s.hxPut p (s.hxHeader 1 12 seq) (s.beaconPay p)
  s'.setHxPort p { s.hxPort p with sent := ((seq, s.dt) :: (s.hxPort p).sent).take 8 }

/-- BEACON_SEND (18 R387, R395): every 1 ms, on both ports; the package judges the safety heartbeat. -/
def execBeaconSend (s : State) : Host.Outcome State Fault Refusal :=
  done (if s.pkg.bootStep = 10 ∧ s.pkg.cellar = false then
    let s := if s.b R.HXL_HX_CFG 0 then
        let s := if s.comm.masterAt.isNone then s.setComm { s.comm with masterAt := some s.dt } else s
        let s := (s.wb R.SYSNET_MEMBER_STAT s.nodeId true).countMask
        let n := s.hxSeq 1
        ((s.sendBeacon 0 n).sendBeacon 1 n).hxCount 1
      else s
    if s.hbGood then s.hbNote else s.sysHb
  else s)

/-- Another partition's master takes over from the one known, which has the higher NODE_ID (18 R391). -/
def State.yieldTo (s : State) (n : Nat) : State :=
  let s := (s.setMaster n).wb R.SYSNET_MEMBER_STAT 11 false
  s.setComm { s.comm with merge := true, offs := [] }

/-- What a new beacon of another node says: master, membership epoch, SAFE_NOTICE. -/
def State.takeBeacon (s : State) (n : Nat) (pay : List Word) : State :=
  let w := nth pay 0
  let b := Beacon.mk (w.extractLsb' 0 8) (fld w 11 8) (fld w 31 16) (byteOf (nth pay 5) 2) (byteOf (nth pay 5) 3) (nth pay 6)
  let s := s.setNode n { s.node n with beacon := some b }
  let s := s.wb R.SYSNET_MEMBER_STAT (4 + n) (bit w 0)
  let s :=
    if bit w 1 then
      let m := s.f R.SYSNET_MEMBER_STAT 9 8
      let s := s.setComm { s.comm with masterAt := some s.dt }
      let s := if !s.b R.SYSNET_MEMBER_STAT 10 then s.setMaster n else if n < m then s.yieldTo n else s
      if s.f R.SYSNET_MEMBER_STAT 9 8 = n ∧ s.f R.SYSNET_MEMBER_STAT 31 16 ≠ fld w 31 16 then
        s.setEpoch (fld w 11 8) (fld w 31 16)
      else s
    else s
  if s.hbGood then s else s.sysHb

/-! ## RETIRE and POSE frames (18 R392, R393) -/

/-- A RETIRE frame's record is accepted, or rejected and counted. -/
def State.takeRetire (s : State) (n : Nat) (pay : List Word) : State :=
  let same : Bool := match (s.node n).beacon with
    | some b => decide (b.key = s.fieldKey) && b.gen == fld (nth pay 0) 7 0
    | none => false
  let crc := (crc16 0xFFFF ((pay.take 7).flatMap wordBytes)).toNat
  if s.b R.SYSNET_CFG 13 && s.b R.TILEDIR_FIELD_STAT 31 && same && pay.length == 8 && crc == fld (nth pay 7) 31 16 then
    s.takeRecord pay (s.f R.TILEDIR_FIELD_STAT 23 16)
  else s.satInc R.SYSNET_REPL_STAT 15 0 1

/-- A POSE frame of POSE_FROM is submitted as the HOST source while both packages are SYNCED. -/
def State.takePose (s : State) (n : Nat) (pay : List Word) : State :=
  let sync : Bool := match (s.node n).beacon with | some b => b.flags.getLsbD 3 | none => false
  if s.b R.SYSNET_CFG 15 && s.f R.SYSNET_CFG 17 16 == n && s.synced && sync && pay.length == 10 then
    s.offerPose (words64 (s.systDT (payNum pay 0)) ++ pay.drop 2)
  else s

/-! ## Reception (18 R385, R386) -/

/-- Keep a frame's sequence among the last 64 of its origin and type; skipped RETIRE sequences count as a gap. -/
def State.keepSeq (s : State) (n ty seq : Nat) : State :=
  let x := s.node n
  let l := x.seqs.getD (ty - 1) []
  let s := s.setNode n { x with seqs := x.seqs.set (ty - 1) ((seq :: l).take 64) }
  match l with
  | [] => s
  | newest :: _ =>
    let d := (seq + 65536 - newest) % 65536
    if ty = 2 ∧ 1 < d ∧ d < 32768 then s.satInc R.SYSNET_REPL_STAT 31 16 (d - 1) else s

/-- Deliver a frame that is the first copy of its origin, type and sequence. -/
def State.deliver (s : State) (n ty seq : Nat) (pay : List Word) : State :=
  if ((s.node n).seqs.getD (ty - 1) []).contains seq then s.inc R.HXL_HX_FRAMES 31 16 1
  else
    let s := s.keepSeq n ty seq
    match ty with
    | 1 => s.takeBeacon n pay
    | 2 => if s.idClash then s else s.takeRetire n pay
    | 3 => if s.idClash then s else s.takePose n pay
    | _ => s

/-- A frame that names this package as its origin: its own, come round, unless it is a neighbour's or was never sent. -/
def State.ownFrame (s : State) (ty hops seq : Nat) : State :=
  let back := (s.hxSeq ty + 65536 - seq) % 65536
  if hops = 0 ∨ back = 0 ∨ 64 < back then s.fltOnce (R.SYSNET 0) 0 else s

/-- Forward a frame out of the opposite port, with HOPS + 1, unless its HOPS is 2 already. -/
def State.forward (s : State) (p : Nat) (hdr : Word) (pay : List Word) : State :=
  if fld hdr 13 12 < 2 then s.hxPut (1 - p) (setFld hdr 13 12 (fld hdr 13 12 + 1)) pay else s

/-- A frame whose CRC holds. -/
def State.hxGood (s : State) (p : Nat) (hdr : Word) (pay : List Word) (t : DT) : State :=
  let ty := byteOf hdr 0
  let n := fld hdr 15 14
  let hops := fld hdr 13 12
  let seq := fld hdr 31 16
  let s := s.inc R.HXL_HX_FRAMES 15 0 1
  if n = s.nodeId then s.ownFrame ty hops seq
  else
    let s := (s.forward p hdr pay).heard n
    let s := if ty = 1 ∧ hops = 0 then s.beaconTime p seq pay t else s
    s.deliver n ty seq pay

/-- HX_FRAME_RX (18 R385, R386): a frame arrives on a port with its marker's own DT; one with a bad CRC is dropped. -/
def execHxFrameRx (port : Fin 2) (hdr : Word) (pay : List Word) (crc : Word) (t : BitVec 64) (s : State) :
    Host.Outcome State Fault Refusal :=
  let p := port.val
  done (if s.b R.HXL_HX_CFG 0 = true ∧ s.pkg.cellar = false then
    if crc = crc32 ((hdr :: pay).flatMap wordBytes) ∧ pay.length = fld hdr 11 8 + 1 then s.hxGood p hdr pay t.toNat
    else s.satInc (R.HXL_HX_PORT p) 15 0 1
  else s)

end Sys2Proof.Machine
end

