-- ==== Sys2Proof/Machine/SecOps.lean ====
section
/-!
DEFINITION. Sessions, the key store, the firmware slots and the audit log as shared operations (19).
-/
namespace Sys2Proof.Machine

def State.setSec (s : State) (x : Sec) : State := { s with sec := x }

/-! ## Sessions (19 R408 to R412) -/

/-- The slots of the interface a slot belongs to. -/
def ifSlots (k : Nat) : List Nat := (List.range 6).filter (fun i => slotOrigin i == slotOrigin k)

/-- A SESSION audit record; word 3 is stated for no such record, so it is a free value (19 R417, log 5). It is written when
there is room, else UNRECORDED counts (19 R418). -/
def State.sessAudit (s : State) (k role num status : Nat) : State :=
  if s.audRun 1 then
    let (v, s) := s.freeBits 32
    s.audit { typ := 4, origin := slotOrigin k, role := role, result := status, sess := num, changed := 0, w3 := nw v, w4 := 0, vals := [] }
  else s.satInc R.AUDIT_AUD_STAT 30 16 1

/-- Leave CONFIGURE, or drain out of SERVICE, when the session that entered it closes (04 R71). -/
def State.afterClose (s : State) (k : Nat) : State :=
  if s.mode = 2 ∧ s.pkg.cfgSlot.map (·.val) = some k then s.toStandby none
  else if s.mode = 4 ∧ s.pkg.svcSlot.map (·.val) = some k then s.requestDrain none false
  else s

/-- A session closes: its record, source 388, and what depended on it. -/
def State.closeSession (s : State) (k : Nat) : State :=
  if s.slotRole k = 0 then s
  else
    let s := s.sessAudit k (s.slotRole k) (s.slotNum k) 0
    ((s.w (R.SESSION_SLOT k) 0).irq (R.SESSION 0) 0).afterClose k

/-- Is an interface locked (19 R412)? -/
def State.ifLocked (s : State) (k : Nat) : Bool := s.b R.SECCTL_LOCKOUT k

/-- The slot a session command acts on: its interface's, or on Ethernet its connection's. -/
def State.openSlot (s : State) (c : Cmd) : Option Nat :=
  match c.ring.val with
  | 0 => some 0
  | 1 => some 1
  | _ => s.cmdSlot c

/-- OSARD opens only while RMA_PERMIT is set, once SHIPPED (19 R401). -/
def State.osardOk (s : State) : Bool := !s.b R.FUSE_LIFE 0 || s.sec.rmaPermit

/-- Is a challenge younger than 10 s? -/
def State.fresh (s : State) (x : Challenge) : Bool := decide (s.dt < x.issued + sDT 10)

/-- Does a key verify the signature for a role: a slot of the role's class, or the built-in Osard key (19 R410)? -/
def State.keyFits (s : State) (role : Nat) (key : Option (Fin 17)) : Bool :=
  match key with
  | none => false
  | some k => if k.val = 16 then role == 4 else role != 4 && (s.sec.keys.getD k.val ⟨0, []⟩).cls == role

/-- Issue a challenge: a fresh nonce of 48 bytes for a buffer or a message, the ID, and the nonce's words. -/
def State.issue (s : State) (slot : Fin 6) (role : Nat) : Word × List Word × State :=
  let id := Config.challengeId s.sec.nextChal
  let nonce := (List.range 12).map (fun i => (Config.freeWord (s.freeCtr + i)).setWidth 32)
  let s := { s with freeCtr := s.freeCtr + 12 }
  (id, nonce, s.setSec { s.sec with chals := s.sec.chals ++ [⟨id.toNat, slot, role, s.dt⟩], nextChal := s.sec.nextChal + 1 })

/-- A session opens in a slot, in place of the one before; the record of the new one has precedence for the log's room. -/
def State.openSession (s : State) (k role : Nat) : State :=
  let s := if s.slotRole k = 0 ∨ s.audRun 2 = true then s.closeSession k
    else (((s.satInc R.AUDIT_AUD_STAT 30 16 1).w (R.SESSION_SLOT k) 0).irq (R.SESSION 0) 0).afterClose k
  let n := s.sec.nextSess
  let s := s.sessAudit k role n 0
  let s := (s.w (R.SESSION_SLOT k) (nw (n * 65536 + role))).touch k
  (s.setSec { s.sec with nextSess := n + 1 }).irq (R.SESSION 0) 0

/-- A failed attempt: its record, and the lockout of the interface after five within 60 s (19 R412). -/
def State.failSession (s : State) (slot : Fin 6) (role : Nat) : State :=
  let s := (s.sessAudit slot.val role 0 0x13).irq (R.SESSION 0) 0
  let near := s.sec.fails.filter (fun e => decide (s.dt < e.2 + sDT 60)) ++ [(slot, s.dt)]
  let mine := ifSlots slot.val
  if 5 ≤ (near.filter (fun e => mine.contains e.1.val)).length then
    let s := s.setSec { s.sec with
      fails := near.filter (fun e => !mine.contains e.1.val)
      lockUntil := mine.foldl (fun l k => l.set k (some (s.dt + sDT 60))) s.sec.lockUntil }
    mine.foldl (fun (s : State) k => s.wb R.SECCTL_LOCKOUT k true) s
  else s.setSec { s.sec with fails := near }

/-- What an attempt comes to: 0 opened, 0x13 failed, 0x14 no record left for it. -/
def State.attempt (s : State) (slot : Fin 6) (role : Nat) (ok : Bool) : Nat × State :=
  if !ok ∨ 65535 < s.sec.nextSess then (0x13, s.failSession slot role)
  else if !s.audRun 1 then (0x14, s)
  else (0, s.openSession slot.val role)

/-! ## The key store (19 R413) -/

/-- A key slot. -/
def State.keyAt (s : State) (k : Nat) : KeySlot := s.sec.keys.getD k ⟨0, []⟩

/-- Store a key slot: one write of MRAM. -/
def State.setKey (s : State) (k : Nat) (x : KeySlot) : State :=
  (s.setSec { s.sec with keys := s.sec.keys.set k x }).lifeKb 5 1

/-- Slots that hold a ROLE_INTEGRATOR key. -/
def State.integratorKeys (s : State) : List Nat := (List.range 15).filter (fun k => (s.keyAt k).cls == 2)

/-- The record of a key slot in the key window (19 R422). -/
def State.keyRecord (s : State) (k : Nat) : List Word :=
  let x := s.keyAt k
  if x.cls = 0 then [0, 0, 0, 0] else nw x.cls :: bytesWords 3 (sha384 x.key)

/-! ## Firmware slots (19 R405) -/

/-- Bytes of one firmware slot in the boot flash: half the device. -/
def State.slotSize (s : State) : Nat := s.f R.XSPI_STAT 23 8 * 0x80000

/-- Address of a firmware slot in the xSPI window (06 R112). -/
def State.slotBase (s : State) (k : Nat) : Nat := 0x20000000 + k * s.slotSize

/-- Why the image of a FIRMWARE_STAGE is not taken: SIZE, SIGNATURE, ROLLBACK, LINE. -/
def State.stageRefused (s : State) (len : Nat) (i : ImageInfo) : Option Nat :=
  if s.slotSize < len then some 0x84
  else if !i.headerOk || !i.rootHashOk || s.b R.FUSE_LIFE (if i.keyIdx then 5 else 4) || !i.sigOk then some 0x80
  else if i.svn.toNat < s.f R.FUSE_SVN 6 0 then some 0x81
  else if s.sec.cfgLock && !i.certLine then some 0x82
  else none

/-- The last step: the slot is verified as at boot and marked valid, source 400. -/
def State.stageFinal (s : State) (j : Nat) (i : ImageInfo) (verified : Bool) : State :=
  if verified then
    let k := s.otherSlot
    let s := (s.wb R.UPDATE_IMG_STAT (3 + k) true).wf R.UPDATE_IMG_STAT (23 + 8 * k) (16 + 8 * k) i.svn.toNat
    let s := s.setSec (if k = 1 then { s.sec with lineB := i.certLine } else { s.sec with lineA := i.certLine })
    (s.irq (R.UPDATE 0) 0).jobFinish j (nw (i.svn.toNat * 256 + k)) 0
  else s.failJob j 0x80

/-- One 64 KB block: erased, written and read back. -/
def State.stageBlock (s : State) (j : Nat) (i : ImageInfo) (verified : Bool) : State :=
  let b := s.job j
  let len := b.num 20 4
  let at_ := b.step * 0x10000
  let n := min 0x10000 (len - at_)
  let s := s.wb R.UPDATE_IMG_STAT (3 + s.otherSlot) false
  let a := s.slotBase s.otherSlot + at_
  let s := s.wrBytes a (s.rdBytes (b.num 12 8 + at_) n ++ List.replicate (0x10000 - n) 0xFF#8)
  let s := (s.jobStep j (b.step + 1)).jobProgress j ((at_ + n) * 100 / max len 1)
  if len ≤ at_ + n then (s.jobFinal j).stageFinal j i verified else s

/-! ## The audit log (19 R419) -/

/-- AUDIT_CLEAR: the CLEAR record, then every record above ARCHIVED_SEQ; the rest is freed. A torn record is freed. -/
def State.auditClear (s : State) (origin role num : Nat) : State :=
  let seqOf (w : List Word) : Nat := (nth w 2).toNat
  let arch := (s.r R.AUDIT_ARCHIVED_SEQ).toNat
  let newer (w : List Word) : Bool := let d := (seqOf w + 2 ^ 32 - arch) % 2 ^ 32; decide (1 ≤ d) && decide (d < 2 ^ 31)
  let gone := s.sec.audit.filter (fun w => !newer w)
  let kept := s.sec.audit.filter newer
  let first := match gone.head? with | some w => nth w 2 | none => 0
  let last := match gone.getLast? with | some w => nth w 2 | none => 0
  let was := (s.sec.audSeq + 1) % 2 ^ 32
  let (v, s) := s.freeBits 32
  let a : AudRec := { typ := 6, origin := origin, role := role, result := 0, sess := num, changed := 0, w3 := nw v, w4 := 0,
                      vals := [(first, last)] }
  let rec_ := s.audPart a was 1 0
  let s := s.setSec { s.sec with audit := rec_ :: kept, audSeq := was, audArchived := false, audWarned := false }
  s.lifeKb 2 (((kept.length + 1) * 64 + 1023) / 1024)

end Sys2Proof.Machine
end

