-- ==== Sys2Proof/Machine/RegRead.lean ====
section
/-!
DEFINITION. What a register reads as (03 R42, R47, R52): the stored word, and the fields that show a condition of the
moment.
-/
namespace Sys2Proof.Machine

/-- Overwrite fields of a word: each its bits and value. -/
def setFlds (w : Word) (l : List (Nat × Nat × Nat)) : Word := l.foldl (fun w f => setFld w f.1 f.2.1 f.2.2) w

/-- Bits `i` for which `p i` holds, among the low `n`. -/
def bitsOf (n : Nat) (p : Nat → Bool) : Word := (List.range n).foldl (fun w i => if p i then setBit w i else w) (0 : Word)

/-- A count of the members of a list, limited to a field. -/
def cnt {α : Type} (l : List α) (p : α → Bool) (lim : Nat) : Nat := min (l.filter p).length lim

/-- A flag as a field value. -/
def flag (b : Bool) : Nat := if b then 1 else 0

/-- PG_ID (03 R41). -/
def pgId (i : RegInfo) : Word :=
  nw ((0x8000 + i.page.domain * 0x100 + i.page.first) * 65536 + i.inst * 256 + 1)

/-- PG_REV (03 R42): the die, and revisions the implementation fixes. -/
def pgRevOf (i : RegInfo) : Word :=
  let die := if i.page.domain = 6 ∨ i.page.domain = 9 then 2 else if i.page.kind = .rfctl then 3 else 1
  nw (die * 65536 + (Config.pgRev (i.base / 0x1000)).toNat)

/-- The page header as it reads (03 R42). -/
def State.readHeader (s : State) (i : RegInfo) (po : Nat) : Word :=
  match po with
  | 0x000 => pgId i
  | 0x004 => pgRevOf i
  | 0x00C => s.pgStat i.base
  | 0x010 => s.irqRaw i.base
  | 0x018 => s.irqPend i.base
  | 0x01C => s.r (i.base + 0x010) &&& 0x7FFFFF#32
  | _ => s.r (i.base + po)

/-- U_STATE of a PWM channel from the row of 14 R308 in force. -/
def State.pwmUState (s : State) (u : Nat) : Word :=
  let st := match (s.pch u).row with | 1 => 4 | 2 => 3 | 3 => 0 | 4 => 2 | _ => 1
  nw ((if st = 0 ∨ st = 3 ∨ st = 4 then 2 ^ 31 else 0) + st)

/-- The unit-frame header as it reads (03 R47); `u` is the frame on its page. -/
def State.readFrame (s : State) (i : RegInfo) (u fo : Nat) : Word :=
  let g := i.inst * i.page.units + u
  let fr := frameBase i.page i.base u
  match fo with
  | 0x00 => nw (g * 65536 + u)
  | 0x04 => if i.page.kind = .pwmc then s.pwmUState g else s.r (fr + 0x04)
  | 0x10 => s.r (fr + 0x08)
  | _ => s.r (fr + fo)

/-- SYS and HOST registers that show the moment (01 to 05). -/
def State.readSys (s : State) (a : Nat) : Word :=
  let w := s.r a
  if a = R.PKG_PKG_INFO then setFlds w [(7, 4, Config.pkgRev.toNat), (3, 0, if s.variant = .n then 1 else 0)]
  else if a = R.RESET_PWRCYC then nw s.pkg.pwrCyc
  else if a = R.RESET_OPT_S then nw (s.pkg.opTicks / 256)
  else if a = R.RESET_OPT_F then nw (s.pkg.opTicks % 256)
  else if a = R.TIME_DT_LO then nw s.dt
  else if a = R.TIME_DT_HI then 0
  else if a = R.TIME_WALL_EPOCH then nw (s.pkg.wallEpoch % 65536)
  else if a = R.DIE_FLDHB_STAT then setFlds w [(3, 3, flag (s.bridgeBeat 1)), (2, 2, flag (s.bridgeBeat 0))]
  else if a = R.SAFE_CAUSE_LIVE then nw s.causesLive
  else if a = R.PCIE_CFG_ID then setFlds w [(15, 0, Config.vendorId.toNat)]
  else if a = R.JOBS_JOB_SUMMARY then
    nw ((List.range 16).countP (fun j => s.jobSt j == 1) * 2 ^ 20 + s.runSlots * 65536 +
      (bitsOf 16 (fun j => s.jobSt j != 0)).toNat)
  else if decide (R.JOBS_JOB_STAT 0 ≤ a) && decide (a < R.JOBS_JOB_STAT 16) && a % 16 == 8 then
    s.jobMs ((a - R.JOBS_JOB_STAT 0) / 16)
  else if decide (R.PORCH_RING_STAT 0 ≤ a) && decide (a < R.PORCH_RING_STAT 4) && a % 64 == 0x1C then
    setFlds w [(31, 31, flag (s.heldBack ((a - R.PORCH_RING_STAT 0) / 64)))]
  else w

/-- Interrupt route registers (03 R63, R64). -/
def State.readRoute (s : State) (inst po : Nat) (a : Nat) : Word :=
  if 0x040 ≤ po ∧ po < 0x060 then s.srcAssert inst ((po - 0x040) / 4)
  else if inst = 1 ∧ 0x060 ≤ po ∧ po ≤ 0x070 then 0
  else if po = 0x064 then s.intStat
  else if po = 0x068 then s.vecStat
  else if po = 0x070 then 0
  else s.r a

/-- Registers of the pose, raster and look-ahead pages that show the moment (07, 08, 09, 10). -/
def State.readLook (s : State) (a : Nat) : Word :=
  let w := s.r a
  if a = R.POSEIN_SRC_STAT then
    let age := match s.pose.lastQual with | some t => min ((s.dt - t) / msDT 1) 0xFFFF | none => 0xFFFF
    setFlds w [(31, 16, age)]
  else if a = R.PANTRY_SLOT_SUM then
    let n (p : PantrySlot → Bool) : Nat := cnt s.mu.slots p 255
    nw (n (fun x => x.st == .free) * 2 ^ 24 + n (fun x => x.st == .filling) * 65536 +
      n (fun x => x.st == .dirty || x.st == .writeback) * 256 + n (fun x => x.pinned))
  else if a = R.TILEDIR_LOAD_CFG then setFlds w [(0, 0, flag (bit w 0 || s.sec.cfgLock))]
  else if a = R.COMMIT_STAT then setFlds w [(31, 16, min s.queuedEdges 0xFFFF)]
  else if a = R.METER_RATE_SW then setFlds w [(1, 1, flag (decide (s.meter.staged ≠ s.meter.active)))]
  else w

/-- Registers of the outlet drive and of motion detection that show the moment (11, 12). -/
def State.readDrive (s : State) (i : RegInfo) (a po : Nat) : Word :=
  let w := s.r a
  match i.page.kind with
  | .drvctl =>
    if a = R.DRVCTL_STAT then
      nw (cnt (List.range 192) (fun n => s.b (R.OUTC_CH_STAT n) 24) 255 * 65536 +
        s.regSt 0 + 16 * s.regSt 1 + 256 * s.regSt 2 + 4096 * s.regSt 3)
    else w
  | .region =>
    if po = 0x050 then
      setFlds w [(23, 16, min (s.waitsOf i.inst).length 255), (15, 8, min (s.pullsIn (chansOf i.inst)) 255)]
    else w
  | .outc =>
    match i.unit with
    | some u => if (po - 0x100) % 0x100 = 0x30 then setFlds w [(28, 28, flag (s.pairOdd (8 * i.inst + u)))] else w
    | none => w
  | .bank =>
    if po = 0x044 then
      let peak := (bankChans i.inst).find? (fun b => s.bstSt b == bPeak)
      let held := (bankChans i.inst).any (fun b => s.bstSt b == bHold)
      let rail := if peak.isSome then 2 else if held then (if s.b (R.BANK_BK_CFG i.inst) 0 then 2 else 1) else 0
      setFlds w [(31, 28, rail), (26, 26, flag peak.isSome), (25, 24, (peak.getD 0) % 4)]
    else w
  | .motion => if a = R.MOTION_SUSPECT_CNT then nw s.suspectCount else w
  | _ => w

/-- Registers of the control engine and the PWM generator that show the moment (13, 14). -/
def State.readPwm (s : State) (i : RegInfo) (a po : Nat) : Word :=
  let w := s.r a
  match i.page.kind with
  | .ctleng =>
    if a = R.CTLENG_LOAD then nw (s.ctlLoad 24 / 10 ^ 6)
    else if a = R.CTLENG_STAT then setFlds w [(28, 24, cnt (List.range 24) (fun l => s.lpSt l != 0) 31)]
    else w
  | .loop => if po = 0x068 then setFlds w [(31, 31, flag (s.lpGated i.inst))] else w
  | .pwmctl =>
    if a = R.PWMCTL_OWN_LO then bitsOf 32 (fun u => s.loopOwned u)
    else if a = R.PWMCTL_OWN_HI then bitsOf 16 (fun u => s.loopOwned (32 + u))
    else if a = R.PWMCTL_MOTOR_LO then bitsOf 32 (fun u => s.motorOwned u)
    else if a = R.PWMCTL_MOTOR_HI then bitsOf 16 (fun u => s.motorOwned (32 + u))
    else w
  | .trip => if a = R.TRIP_TRIP_SUM then bitsOf 8 (fun t => s.tripOn t) else w
  | .pwmc =>
    let k := i.inst
    if po = 0x050 then nw ((s.pwm.held.getD s.dt - (s.pcl k).zero) / 64 % max 1 (s.perCounts k))
    else if po = 0x054 then setFlds w [(31, 31, flag (s.clTripped k))]
    else
      match i.unit with
      | none => w
      | some u =>
        let n := 8 * k + u
        if (po - 0x100) % 0x100 ≠ 0x40 then w
        else
          let pin (p : PwmPin) (pol : Bool) (id : Nat) : Bool :=
            match p.drive with
            | 0 => pol
            | 1 => !pol
            | 2 => false
            | 3 => true
            | _ => Config.pinFloat id s.dt
          setFlds w [(31, 31, flag (s.oeEff n)), (30, 30, flag (s.loopOwned n)), (29, 29, flag (s.motorOwned n)),
            (28, 28, flag (pin (s.pch n).a (s.b (R.PWMC_CH_CFG n) 29) (2 * n))),
            (27, 27, flag (pin (s.pch n).b (s.b (R.PWMC_CH_CFG n) 28) (2 * n + 1)))]
  | _ => w

/-- Registers of the field inputs and outputs, the RF die, the buses, security and the Attic that show the moment (15 to 20). -/
def State.readRest (s : State) (i : RegInfo) (a po : Nat) : Word :=
  let w := s.r a
  match i.page.kind with
  | .diog =>
    match i.unit with
    | some u =>
      if (po - 0x100) % 0x100 = 0x28 then
        setFlds w [(25, 25, flag (!s.dioLow (8 * i.inst + u) && decide (7 ≤ s.pkg.bootStep))),
          (24, 24, flag (s.dioOwned (8 * i.inst + u)))]
      else w
    | none => w
  | .fing =>
    -- a pair with a quadrature error reads invalid for 10 ms (15 R335)
    let f := (po - 0x100) / 0x20
    if 0x100 ≤ po ∧ a = R.FING_F_STAT f ∧ s.b R.FING_QUAD_CFG (f / 2) ∧ (s.fio.quadBad.getD (f / 2) none).isSome then
      setFlds w [(31, 31, 0)]
    else w
  | .rfctl =>
    if a = R.RFCTL_AGC then
      setFlds w (((List.range 4).filter (s.b R.RFCTL_CHAIN_STAT)).map (fun c =>
        (8 * c + 7, 8 * c, (Config.agcGain c s.dt).toNat)))
    else w
  | .tpulse => if a = R.TPULSE_T_UNC then s.timeUnc else w
  | .hxl =>
    if a = R.HXL_HX_PORT 0 then setFlds w [(31, 31, flag (s.portUp 0))]
    else if a = R.HXL_HX_PORT 1 then setFlds w [(31, 31, flag (s.portUp 1))]
    else w
  | .secctl =>
    if a = R.SECCTL_CERT_STAT then
      nw (8 * flag s.certified + 4 * flag s.sec.cfgLock +
        2 * flag (s.f R.DBGCTL_STATE 1 0 == 0 && !s.b R.FUSE_LIFE 8) + flag s.lineOk)
    else w
  | .audit =>
    if a = R.AUDIT_AUD_STAT then setFlds w [(31, 31, flag s.audFull), (14, 0, s.sec.audit.length)]
    else if a = R.AUDIT_AUD_SEQ then nw s.sec.audSeq
    else w
  | .evr =>
    if a = R.EVR_STAT then nw ((if evSlots ≤ s.attic.log.length then 2 ^ 31 else 0) + s.attic.log.length)
    else if a = R.EVR_FIFO then setFlds w [(5, 0, s.attic.fifo.length)]
    else w
  | .tail => if a = R.TAIL_STAT then nw s.attic.tail.length else w
  | _ => w

/-- What a register outside a window reads as; one that only takes writes reads 0 (03 R52). -/
def State.readReg (s : State) (a : Nat) (i : RegInfo) : Word :=
  let po := a % 0x1000
  if po < 0x040 then s.readHeader i po
  else if !i.fields.isEmpty && i.fields.all (fun f => f.ty == .wo) then 0
  else
    match i.unit, i.page.kind with
    | some u, _ =>
      let fo := if i.page.kind = .loop then po - 0x040 else (po - 0x100) % 0x100
      if fo < 0x20 then s.readFrame i u fo
      else
        match i.page.domain with
        | 6 => s.readDrive i a po
        | 8 => s.readPwm i a po
        | _ => s.readRest i a po
    | none, .irqroute => s.readRoute i.inst po a
    | none, _ =>
      match i.page.domain with
      | 0 => s.readSys a
      | 1 => s.readSys a
      | 3 => s.readLook a
      | 4 => s.readLook a
      | 5 => s.readLook a
      | 6 => s.readDrive i a po
      | 7 => s.readPwm i a po
      | 8 => s.readPwm i a po
      | _ => s.readRest i a po

/-! ## Captured words (02 R32) -/

/-- The words a read of a register captures for its master, by offset: those of a paired timestamp, a pose, a dump, an
observation, a TIME_PULSE_INFO message, the operating time. -/
def captureGroup (a : Nat) (i : RegInfo) : List Nat :=
  let run (n : Nat) : List Nat := (List.range n).map (fun k => a + 4 * k)
  let po := a % 0x1000
  match i.page.kind with
  | .time => if a = R.TIME_DT_LO then run 2 else []
  | .reset => if a = R.RESET_OPT_S then run 2 else []
  | .posein => if a = R.POSEIN_LAST_POSE 0 then run 10 else []
  | .hist => if a = R.HIST_NEWEST_DT_LO ∨ a = R.HIST_OLDEST_DT_LO then run 2 else []
  | .trip => if 0x100 ≤ po ∧ po % 0x20 = 0x10 then run 2 else []
  | .diog => if i.unit.isSome = true ∧ po % 0x100 = 0x2C then run 2 else []
  | .aing => if i.unit.isSome = true ∧ po % 0x100 = 0x28 then (a - 4) :: run 2 else []
  | .fing => if 0x100 ≤ po ∧ po % 0x20 = 0x10 then run 2 else []
  | .rfctl => if a = R.RFCTL_SAMPLE0_DT_LO then run 2 else []
  | .acq => if 0x100 ≤ po ∧ po % 0x20 = 0x08 then run 2 else []
  | .gch =>
    if i.unit.isSome = false then []
    else if po % 0x100 = 0x60 then run dumpWords
    else if po % 0x100 = 0xC0 then run 9
    else []
  | .tpulse => if a = infoOfs 0 ∨ a = infoOfs 1 then run 8 else []
  | _ => []

/-- Is a register a later word of such a group, which returns the master's newest capture? -/
def inCapture (a : Nat) (i : RegInfo) : Bool :=
  let po := a % 0x1000
  match i.page.kind with
  | .time => a == R.TIME_DT_HI
  | .reset => a == R.RESET_OPT_F
  | .posein => decide (R.POSEIN_LAST_POSE 0 < a) && decide (a < R.POSEIN_LAST_POSE 10)
  | .hist => a == R.HIST_NEWEST_DT_HI || a == R.HIST_OLDEST_DT_HI
  | .trip => decide (0x100 ≤ po) && po % 0x20 == 0x14
  | .diog => i.unit.isSome && po % 0x100 == 0x30
  | .aing => i.unit.isSome && (po % 0x100 == 0x2C || po % 0x100 == 0x24)
  | .fing => decide (0x100 ≤ po) && po % 0x20 == 0x14
  | .rfctl => a == R.RFCTL_SAMPLE0_DT_LO + 4
  | .acq => decide (0x100 ≤ po) && po % 0x20 == 0x0C
  | .gch => i.unit.isSome && ((decide (0x60 < po % 0x100) && decide (po % 0x100 < 0x60 + 4 * dumpWords)) ||
      (decide (0xC0 < po % 0x100) && decide (po % 0x100 < 0xC0 + 36)))
  | .tpulse => (List.range 2).any (fun n => decide (infoOfs n < a) && decide (a < infoOfs n + 32))
  | _ => false

/-- The word a register gives where no capture of the reading master stands in its place. -/
def State.readNow (s : State) (a : Nat) : Word :=
  if a = R.TIME_DT_HI then nw (s.dt / 2 ^ 32)
  else match regInfo a with
    | some i => s.readReg a i
    | none => 0

/-- A read of a register: its word, and the words it captures kept for the master. A later word of a group the master has
not captured reads its present value; DT_HI then reads its reset value. -/
def State.readWord (s : State) (o : Origin) (a : Nat) (i : RegInfo) : Word × State :=
  let g := captureGroup a i
  let s' := g.foldl (fun (x : State) k => x.keep o k (s.readNow k)) s
  let v := if inCapture a i then (s.captured o a).getD (s.readReg a i) else s.readReg a i
  (v, s')

end Sys2Proof.Machine
end

