-- ==== Sys2Proof/Machine/WinOps.lean ====
section
/-!
DEFINITION. The cursor windows (03 R48 to R51): how many records each holds, what a record reads as, and the cursor,
snapshot and staged words each master has of it.
-/
namespace Sys2Proof.Machine

/-! ## Records -/

/-- Records of a window. -/
def State.winCount (s : State) (w : WinId) : Nat :=
  match w with
  | .xfaultLog => s.f R.XFAULT_LOG_STAT 6 0
  | .hist => s.pose.histN
  | .slot => 112
  | .tile => (s.r R.TILEDIR_TILE_COUNT).toNat
  | .diag => s.rast.diag.length
  | .outlet => 1024
  | .sect => 64
  | .queue => 1024
  | .rate => 1028
  | .nozzle => 16
  | .injector => 8
  | .outletStatus => 1024
  | .totals => 260
  | .remote => 832
  | .result => s.motion.results.length
  | .learn => 1024
  | .trace => s.ctl.trace.flatten.length
  | .peak => 16
  | .key => 16
  | .event => s.attic.log.length
  | .tail => s.attic.tail.length
  | .audit => s.sec.audit.length
  | .life => 1187
  | .dbgTrace => if s.f R.DBGCTL_STATE 1 0 = 0 then 0 else 1024

/-- Where the newest record stands, for the windows whose record 0 is the newest one at the CURSOR write (07, 12 R278,
20 R431). -/
def State.winHead (s : State) (w : WinId) : Nat :=
  match w with
  | .hist => s.pose.histHead
  | .result => s.motion.seq
  | .tail => s.attic.tailSeq
  | _ => 0

/-- A record of a ring of `n` kept oldest first: `k` back from where the newest stood at `anchor`. -/
def ringRec (l : List (List Word)) (n head anchor k : Nat) : List Word :=
  let back := (head % n + n - anchor % n + k) % n
  if back < l.length then l.getD (l.length - 1 - back) [] else []

/-- Words of a Pantry slot's record (08 R189 PANTRY table). -/
def State.slotRec (s : State) (i : Nat) : List Word :=
  let p := s.slot i
  let st : Nat := match p.st with | .free => 0 | .filling => 1 | .clean => 2 | .dirty => 3 | .writeback => 4
  let age := if p.st = .dirty ∨ p.st = .writeback then min ((s.dt - p.dirtySince) / msDT 1) 0xFFFF else 0
  let dmg := SMap.get (fun _ => 0) s.rast.damage i
  [nw (ofSigned 16 p.tile.y * 65536 + ofSigned 16 p.tile.x),
   nw (st * 2 ^ 28 + flag p.pinned * 2 ^ 27 + flag p.redirty * 2 ^ 26 + flag (s.rast.prefetched.contains i) * 2 ^ 25 + age),
   nw dmg, nw (dmg / 2 ^ 32)]

/-- Words of a tile's record: its coordinates, and the slot it occupies (08 TILEDIR table). -/
def State.tileRec (s : State) (ord : Nat) : List Word :=
  let t := s.ordTile ord
  [nw (ofSigned 16 t.y * 65536 + ofSigned 16 t.x), match s.slotOf t with | some i => nw (2 ^ 31 + i) | none => 0]

/-- Words of an outlet's queue record (09 R217 EDGEQ table). -/
def State.queueRec (s : State) (id : Nat) : List Word :=
  let q := s.q id
  let e (k : Nat) : List Word :=
    match q.edges[k]? with
    | some g => [nw (flag g.on * 2 ^ 31 + g.src * 2 ^ 28 + g.epoch % 4096 * 65536 + g.gen % 65536), nw (ticks g.exec)]
    | none => [0, 0]
  [nw (flag q.newest * 512 + flag q.confirmed * 256 + q.edges.length),
   nw (min q.missed 0xFFFF * 65536 + min q.late 0xFFFF)] ++ e 0 ++ e 1 ++ e 2 ++ e 3

/-- Words of an outlet's status record (10 R238). -/
def State.outletStatus (s : State) (id : Nat) : List Word :=
  let n := (SMap.get (fun _ => ([] : List RateEntry)) s.meter.logs id).length
  match s.meter.out.find? (fun e => e.1 == id) with
  | some (_, o) =>
    [nw o.v, nw o.rate, nw o.out,
     nw (o.idx % 256 * 2 ^ 24 + min n 255 * 65536 + flag o.fallback * 128 + flag o.clip * 64 + flag o.low * 8 +
       flag o.susp * 4 + flag o.ovr * 2 + flag o.under)]
  | none => [0, 0, 0, nw (min n 255 * 65536)]

/-- Words of a totals record (10 R238): METERED reads 0 in section records. -/
def State.totalsRec (s : State) (k : Nat) : List Word :=
  let x := s.totalsOf k
  let m := if k % 65 = 0 then x.metered else 0
  [nw x.applied, nw (x.applied / 2 ^ 32), nw m, nw (m / 2 ^ 32), nw x.area, nw (x.area / 2 ^ 32), nw x.offRate, nw x.resetAt]

/-- Words of an outlet's learn record (12 R278). -/
def State.learnRec (s : State) (id : Nat) : List Word :=
  let x := s.learnOf id
  let band := if oLocal s.tbl id then s.bandInUse s.tbl id else 0
  x.l.map nw ++
    [nw (flag x.on.suspect * 2 ^ 31 + flag x.off.suspect * 2 ^ 30 + x.on.cause * 2 ^ 28 + x.off.cause * 2 ^ 26 +
       band % 4 * 2 ^ 24 + min x.off.run.length 15 * 2 ^ 20 + min x.on.run.length 15 * 65536 + min x.off.nores 255 * 256 +
       min x.on.nores 255),
     nw (min x.reseeds 0xFFFF * 65536 + min x.rejects 0xFFFF)]

/-- The table set the outlet, section and remote windows show (09 R217 VIEW). -/
def State.viewTable (s : State) : SMap Word := if s.b R.OUTLETWIN_VIEW 0 then s.look.active else s.look.staged

/-- The record at an index of a window, where records read there; `anchor` is where the newest record stood. -/
def State.winRec (s : State) (w : WinId) (anchor k : Nat) : List Word :=
  match w with
  | .xfaultLog => s.mu.xflog.getD k []
  | .hist => s.histEntry ((s.pose.histHead + s.histCap - anchor + k) % max 1 s.histCap)
  | .slot => s.slotRec k
  | .tile => s.tileRec k
  | .diag => s.rast.diag.getD k []
  | .outlet => (List.range 16).map (fun j => ow s.viewTable k j)
  | .sect => [tword s.viewTable (0x4000 + k)]
  | .queue => s.queueRec k
  | .rate => [SMap.get (fun _ => 0) (if s.b R.METER_RATE_SW 0 then s.meter.active else s.meter.staged) k]
  | .nozzle => (List.range 11).map (fun j => s.nozzleW k j)
  | .injector => (List.range 16).map (fun j => SMap.get (fun _ => 0) s.meter.injector (16 * k + j))
  | .outletStatus => s.outletStatus k
  | .totals => s.totalsRec k
  | .remote => (List.range 4).map (fun j => tword s.viewTable (0x5000 + 4 * k + j))
  | .result => ringRec (s.motion.results.map (·.2)) 256 s.motion.seq anchor k
  | .learn => s.learnRec k
  | .trace => if s.f R.TRACE_STAT 31 28 = 3 then [nth s.ctl.trace.flatten k] else [0]
  | .peak => s.peakWords (k / 4) (k % 4)
  | .key => s.keyRecord k
  | .event => s.attic.log.getD k []
  | .tail => ringRec s.attic.tail 256 s.attic.tailSeq anchor k
  | .audit => s.sec.audit.getD k []
  | .life => SMap.getAll (fun _ => (0 : Word)) s.attic.life (k * 8) 8
  | .dbgTrace => []

/-! ## Cursor, snapshot and staged words -/

/-- A window no access has touched: cursor 0, no snapshot, nothing staged (03 R68). -/
def WinState.fresh : WinState :=
  { cursor := 0, snap := none, staged := [], partialBit := false, badIndex := false, anchor := 0 }

/-- The key of a master's side of the window whose CURSOR lies at `o`. -/
def winKey (m o : Nat) : Nat := m * 2 ^ 24 + o

/-- A master's side of a window. -/
def State.win (s : State) (m o : Nat) : WinState := SMap.get (fun _ => WinState.fresh) s.host.wins (winKey m o)

/-- Store a master's side of a window. -/
def State.setWin (s : State) (m o : Nat) (x : WinState) : State :=
  { s with host := { s.host with wins := SMap.put (fun _ => WinState.fresh) s.host.wins (winKey m o) x } }

/-- The content of the record at a cursor; an empty one at the end of the window. The layout of a debug-trace record is
open, so its words are free values (log 5). -/
def State.winFetch (s : State) (w : WinSpec) (anchor k : Nat) : List Word × State :=
  if s.winCount w.id ≤ k then ([], s)
  else if w.id = .dbgTrace then
    (List.range w.words).foldl (fun (a : List Word × State) _ => let x := a.2.freeBits 32; (a.1 ++ [nw x.1], x.2)) ([], s)
  else (padWords w.words (s.winRec w.id anchor k), s)

/-- Put the cursor on a record and take its snapshot. -/
def State.winSnap (s : State) (m o : Nat) (w : WinSpec) (x : WinState) : State :=
  let r := s.winFetch w x.anchor x.cursor
  r.2.setWin m o { x with snap := some r.1 }

/-- The first access of a window word without a snapshot takes it (03 R50). -/
def State.winOpen (s : State) (m o : Nat) (w : WinSpec) : State :=
  let x := s.win m o
  match x.snap with
  | none => s.winSnap m o w { x with anchor := s.winHead w.id }
  | some _ => s

/-- Is a master at the window's end? -/
def State.winEnd (s : State) (m o : Nat) (w : WinSpec) : Bool :=
  let x := s.win m o
  match x.snap with
  | some l => l.isEmpty
  | none => decide (s.winCount w.id ≤ x.cursor)

/-- WIN_STAT (03 R48). -/
def State.winStat (s : State) (m o : Nat) (w : WinSpec) : Word :=
  let x := s.win m o
  nw (w.words * 65536 + 4 * flag x.partialBit + 2 * flag x.badIndex + flag (s.winEnd m o w))

/-- Staged words are discarded, with PARTIAL where there were any. -/
def WinState.discard (x : WinState) : WinState :=
  { x with staged := [], partialBit := x.partialBit || !x.staged.isEmpty }

/-- A write of CURSOR (03 R50). -/
def State.winCursor (s : State) (m o : Nat) (w : WinSpec) (v : Word) : State :=
  let x := (s.win m o).discard
  let x := { x with cursor := v.toNat, anchor := s.winHead w.id }
  s.winSnap m o w (if s.winCount w.id ≤ v.toNat then { x with badIndex := true } else x)

/-- A write of WIN_STAT: PARTIAL and BAD_INDEX are W1C. -/
def State.winClear (s : State) (m o : Nat) (v : Word) : State :=
  let x := s.win m o
  s.setWin m o { x with partialBit := x.partialBit && !bit v 2, badIndex := x.badIndex && !bit v 1 }

/-- CURSOR advances, with a new snapshot (03 R50). -/
def State.winNext (s : State) (m o : Nat) (w : WinSpec) : State :=
  let x := s.win m o
  s.winSnap m o w { x with cursor := x.cursor + 1 }

/-- A read of word `j` of a window: its value and what it does. -/
def State.winRead (s : State) (m o : Nat) (w : WinSpec) (j : Nat) : Word × State :=
  let s := s.winOpen m o w
  if s.winEnd m o w then (0, s)
  else
    let x := s.win m o
    let v := nth (x.snap.getD []) j
    if j + 1 < w.words then (v, s) else (v, (s.setWin m o x.discard).winNext m o w)

/-- The words a record write offers: staged words over the snapshot, the last word as written. -/
def WinState.offered (x : WinState) (n : Nat) (v : Word) : List Word :=
  (List.range n).map (fun j =>
    if j + 1 = n then v else ((x.staged.find? (fun e => e.1 == j)).map (·.2)).getD (nth (x.snap.getD []) j))

/-- Stage word `j`. -/
def WinState.stage (x : WinState) (j : Nat) (v : Word) : WinState :=
  { x with staged := x.staged.filter (fun e => e.1 != j) ++ [(j, v)] }

/-! ## Where a record write lands -/

/-- Store words at rising keys of a table. -/
def putRun (d : Nat → Word) (t : SMap Word) (k : Nat) (l : List Word) : SMap Word := SMap.putAll d t k l

/-- The record a record write would replace: staged windows hold theirs in the staged copy (09 R191, 10 R220). -/
def State.winOld (s : State) (w : WinId) (k : Nat) : List Word :=
  match w with
  | .outlet => (List.range 16).map (fun j => ow s.look.staged k j)
  | .sect => [tword s.look.staged (0x4000 + k)]
  | .remote => (List.range 4).map (fun j => tword s.look.staged (0x5000 + 4 * k + j))
  | .rate => [SMap.get (fun _ => 0) s.meter.staged k]
  | _ => s.winRec w 0 k

/-- Store a table word in the configuration store with the record that holds it. -/
def State.storeRun (s : State) : Nat → List Word → State
  | _, [] => s
  | k, v :: t => (s.storePut k v).storeRun (k + 1) t

/-- An accepted record write acts: staged windows change the staged copy, the others their table and the store. -/
def State.winApply (s : State) (w : WinId) (k : Nat) (l : List Word) : State :=
  match w with
  | .outlet => ({ s with look := { s.look with staged := putRun tblDefault s.look.staged (16 * k) l } }).noteStaged
  | .sect => ({ s with look := { s.look with staged := putRun tblDefault s.look.staged (0x4000 + k) l } }).noteStaged
  | .remote => ({ s with look := { s.look with staged := putRun tblDefault s.look.staged (0x5000 + 4 * k) l } }).noteStaged
  | .rate => { s with meter := { s.meter with staged := putRun (fun _ => 0) s.meter.staged k l } }
  | .nozzle =>
    (({ s with meter := { s.meter with nozzle := putRun (fun _ => 0) s.meter.nozzle (16 * k) l } }).storeRun
      (storeNozzle + 16 * k) l).lifeKb 4 1
  | .injector =>
    (({ s with meter := { s.meter with injector := putRun (fun _ => 0) s.meter.injector (16 * k) l } }).storeRun
      (storeInj + 16 * k) l).lifeKb 4 1
  | _ => s

end Sys2Proof.Machine
end

