-- ==== Sys2Proof/Machine/RegCheck.lean ====
section
/-!
DEFINITION. Checks 3 and 4 of a configuration write (03 R53): the state its owner asks for, and the values the owning
chapters allow, for registers and for the records of the writable windows.
-/
namespace Sys2Proof.Machine

/-! ## Registers -/

/-- Every configuration field of a word lies in its range. -/
def fieldsFit (l : List FieldSpec) (v : Word) : Bool :=
  l.all (fun f => (f.ty != .rwa && f.ty != .rws) || (decide (f.min ≤ fld v f.hi f.lo) && decide (fld v f.hi f.lo ≤ f.max)))

/-- Does a CAN bit timing give a nominal rate of 125 kbit/s to 1 Mbit/s (18 R373, R374)? -/
def nominalOk (v : Word) : Bool :=
  let tq := fld v 31 24 * (1 + fld v 23 16 + fld v 15 8)
  decide (80 ≤ tq) && decide (tq ≤ 640)

/-- Does a CAN bit timing give a data rate of at most 8 Mbit/s? -/
def dataOk (v : Word) : Bool := decide (10 ≤ fld v 31 24 * (1 + fld v 23 16 + fld v 15 8))

/-- PRED.CFG and PROBE.CFG together (07 R151, 08 R181). -/
def predOk (pred probe : Word) : Bool :=
  let h := fld pred 15 0
  let st := max 1 (fld pred 23 16)
  h % st == 0 && decide (h / st ≤ 2400) && st * 1000 % max 1 (fld probe 15 0) == 0

/-- OUTC setpoints (11 R241, R245): a pair counts 2 mA a step, so its limits are the same numbers. -/
def setpointsOk (cur hold : Word) : Bool :=
  let pk := fld cur 27 16
  let ho := fld cur 11 0
  let fl := fld hold 27 16
  decide (20 ≤ pk) && decide (pk ≤ 2500) && decide (20 ≤ ho) && decide (ho ≤ 1500) && decide (20 ≤ fl) &&
    decide (fl ≤ ho) && decide (ho ≤ pk)

/-- Boost currents and shunt (11 R257): I_OC × SHUNT_UOHM at most 200 mV, I_PEAK and I_HOLD at most I_OC. -/
def boostOk (cur prot shunt : Word) : Bool :=
  decide (fld prot 11 0 * fld shunt 15 0 ≤ 20000000) && decide (fld cur 27 16 ≤ fld prot 11 0) &&
    decide (fld cur 11 0 ≤ fld prot 11 0)

/-- SAG levels (11 R252): WARN > HOLD_LIMIT > LOCKOUT ≥ 5.0 V. -/
def sagOk (v : Word) : Bool :=
  decide (fld v 23 16 < fld v 31 24) && decide (fld v 15 8 < fld v 23 16) && decide (50 ≤ fld v 15 8)

/-- IMU axis codes (07 R144): up to 0b101 and not the same axis. -/
def axesOk (v : Word) : Bool :=
  let x := fld v 26 24
  let y := fld v 29 27
  decide (x ≤ 5) && decide (y ≤ 5) && x / 2 != y / 2

/-- Three increasing band edges (12 R272). -/
def bandsOk (v : Word) : Bool := decide (fld v 7 0 < fld v 15 8) && decide (fld v 15 8 < fld v 23 16)

/-- No 2-bit code 0b11 among the codes of a PAD_SAFE word (14 R310). -/
def padOk (v : Word) : Bool := (List.range 16).all (fun k => fld v (2 * k + 1) (2 * k) != 3)

/-- Trip safe states (14 R318): codes 0b00 to 0b10, not 0b01 twice. -/
def tripStateOk (v : Word) : Bool :=
  fld v 15 14 != 3 && fld v 13 12 != 3 && !(fld v 15 14 == 1 && fld v 13 12 == 1)

/-- A LOOP page's own checks (13 R280, R281, R285, R295). -/
def State.loopOk (s : State) (l po : Nat) (v : Word) : Bool :=
  let period := fld v 23 0
  if po = 0x060 then
    decide (50 ≤ period) && decide (period ≤ 10000000) && decide (s.f (R.LOOP_LP_PHASE l) 23 0 < period) &&
      (s.lpSt l == 0 || s.loadFits l (s.r (R.LOOP_LAW l)) period ||
        decide (lawLoad (s.r (R.LOOP_LAW l)) period ≤ lawLoad (s.r (R.LOOP_LAW l)) (s.lpPeriod l)))
  else if po = 0x064 then decide (period < s.lpPeriod l)
  else
    !coefBad (fun o => if o = po then v else s.r (R.LOOP l o)) po &&
      (po != 0x200 || s.lpSt l == 0 || s.loadFits l v (s.lpPeriod l) ||
        decide (lawLoad v (s.lpPeriod l) ≤ lawLoad (s.r (R.LOOP_LAW l)) (s.lpPeriod l)))

/-- The values the owning chapter allows beyond the ranges of the fields. -/
def State.ownerOk (s : State) (i : RegInfo) (a : Nat) (v : Word) : Bool :=
  let po := a % 0x1000
  let fo := (po - 0x100) % 0x100
  let fb := frameBase i.page i.base (i.unit.getD 0)
  match i.page.kind with
  | .posein => a != R.POSEIN_SRC_CFG || s.variant == .g || (fld v 5 4 != 1 && fld v 3 2 != 1 && fld v 1 0 != 1)
  | .imu => a != R.IMU_CFG || axesOk v
  | .geom => !(a == R.GEOM_HITCH1_X || a == R.GEOM_HITCH2_X) || (decide (-20000 ≤ sword v) && decide (sword v ≤ 0))
  | .pred => a != R.PRED_CFG || predOk v (s.r R.PROBE_CFG)
  | .probe => a != R.PROBE_CFG || predOk (s.r R.PRED_CFG) v
  | .outc =>
    if i.unit.isSome = true ∧ fo = 0x24 then setpointsOk v (s.r (fb + 0x2C))
    else if i.unit.isSome = true ∧ fo = 0x2C then setpointsOk (s.r (fb + 0x24)) v
    else true
  | .drvctl => a != R.DRVCTL_VBST_CFG || decide (fld v 23 16 < fld v 31 24)
  | .region => po != 0x048 || sagOk v
  | .bank =>
    if i.unit.isSome = true ∧ fo = 0x20 then boostOk v (s.r (fb + 0x28)) (s.r (fb + 0x30))
    else if i.unit.isSome = true ∧ fo = 0x28 then boostOk (s.r (fb + 0x20)) v (s.r (fb + 0x30))
    else if i.unit.isSome = true ∧ fo = 0x30 then boostOk (s.r (fb + 0x20)) (s.r (fb + 0x28)) v
    else true
  | .motion => a != R.MOTION_BANDS || bandsOk v
  | .loop => s.loopOk i.inst po v
  | .pwmctl => !(decide (0x044 ≤ po) && decide (po < 0x05C)) || padOk v
  | .pwmc => i.unit.isNone || fo != 0x20 || tripStateOk v
  | .tpulse => !(po == 0x040 || po == 0x044) || decide ((fld v 19 0 : Int) * 1000 < tpPeriod v)
  | .can => if po = 0x044 then nominalOk v else if po = 0x048 then dataOk v else true
  | _ => true

/-- Check 4 of a register write. -/
def State.valueOk (s : State) (i : RegInfo) (a : Nat) (v : Word) : Bool := fieldsFit i.fields v && s.ownerOk i a v

/-- The state an owner asks for beside the mode: a pairing change with both channels OFF (11 R245), a coefficient
write outside AUTO and HOLD (13 R295). -/
def State.stateOk (s : State) (i : RegInfo) (a : Nat) (v : Word) : Bool :=
  let po := a % 0x1000
  match i.page.kind with
  | .outc =>
    po != 0x040 ||
      (List.range 4).all (fun p => bit v p == bit (s.r a) p ||
        (s.chSt (8 * i.inst + 2 * p) == cOff && s.chSt (8 * i.inst + 2 * p + 1) == cOff))
  | .loop => !(decide (0x100 ≤ po) && decide (po < 0x600)) || !(s.lpSt i.inst == 2 || s.lpSt i.inst == 3)
  | _ => true

/-! ## Records -/

/-- A field of a record's word lies in a range. -/
def within (l : List Word) (w hi lo mn mx : Nat) : Bool := decide (mn ≤ fld (nth l w) hi lo) && decide (fld (nth l w) hi lo ≤ mx)

/-- TARGET's largest value by KIND (09 R190). -/
def maxTarget (kind : Nat) : Nat :=
  match kind with | 0 => 191 | 1 => 191 | 2 => 7 | 3 => 47 | 4 => 31 | _ => 831

/-- Do KIND and METER_KIND pair (10 R221)? -/
def kindsPair (kind meter : Nat) (voteOnly : Bool) : Bool :=
  match meter with
  | 0 => true
  | 1 => voteOnly || kind == 0 || kind == 4 || kind == 5
  | 2 => kind == 1
  | 3 => kind == 3 || kind == 5
  | 4 => kind == 2
  | _ => false

/-- Fields that the present axis reserves read 0 (07 R149): FIELD ANGLE; TRACK BODY and ANGLE; CYCLIC BODY, X, Y,
WIDTH and LENGTH. -/
def axisOk (axis : Nat) (l : List Word) : Bool :=
  let body := fld (nth l 0) 26 25
  match axis with
  | 0 => nth l 4 == 0
  | 1 => body == 0 && nth l 4 == 0
  | _ => body == 0 && nth l 1 == 0 && nth l 2 == 0 && nth l 3 == 0

/-- Words 0 to 10 of an outlet record (09 R190, 08 R177). -/
def outletHead (l : List Word) : Bool :=
  let kind := fld (nth l 0) 31 29
  decide (kind ≤ 5) && within l 0 26 25 0 2 && within l 0 23 14 0 (maxTarget kind) && within l 0 6 0 0 0 &&
    within l 5 30 24 1 100 && decide (fld (nth l 5) 22 16 < fld (nth l 5) 30 24) && within l 5 14 8 0 100 &&
    within l 5 7 6 0 2 && within l 5 5 4 0 2 && within l 5 3 0 0 0 &&
    within l 6 31 24 0 0 && within l 6 23 0 0 12000000 && within l 7 31 24 0 0 && within l 7 23 0 0 2000000 &&
    within l 8 31 24 0 0 && within l 8 23 0 0 2000000 && within l 9 31 16 0 10000 && within l 9 15 0 0 10000

/-- Words 11 to 15 of an outlet record (10 R221, 12 R271). -/
def outletTail (l : List Word) : Bool :=
  let kind := fld (nth l 0) 31 29
  let meter := fld (nth l 11) 31 29
  decide (meter ≤ 4) && kindsPair kind meter (bit (nth l 0) 24) && (meter == 2 || fld (nth l 11) 25 22 == 0) &&
    within l 11 21 0 0 0 && within l 12 15 0 0 0 && within l 13 15 0 0 0 && within l 14 30 28 1 7 &&
    within l 14 27 20 1 200 && within l 14 19 13 5 100 && within l 14 10 0 0 0 && within l 15 31 16 0 0

/-- A nozzle record (10 R227): F[0] = 0, F[16] = 0x8000, rising, strictly from floor(DUTY_MIN / 4,096) on. -/
def nozzleOk (l : List Word) : Bool :=
  let f (i : Nat) : Nat := fld (nth l (2 + i / 2)) (if i % 2 = 0 then 15 else 31) (if i % 2 = 0 then 0 else 16)
  let d := fld (nth l 0) 31 16
  decide (d ≤ 0x8000) && within l 0 15 0 50 2000 && nth l 1 != 0 && within l 10 31 16 0 0 &&
    f 0 == 0 && f 16 == 0x8000 &&
    (List.range 16).all (fun i => if d / 4096 ≤ i then decide (f i < f (i + 1)) else decide (f i ≤ f (i + 1)))

/-- An injector record (10 R228): PULSE and QTY strictly increasing. -/
def injectorOk (l : List Word) : Bool :=
  (List.range 8).all (fun j => within l (2 * j) 31 24 0 0) &&
    (List.range 7).all (fun j => decide ((nth l (2 * j)).toNat < (nth l (2 * j + 2)).toNat) &&
      decide ((nth l (2 * j + 1)).toNat < (nth l (2 * j + 3)).toNat))

/-- A section entry (09 R194). -/
def sectionOk (l : List Word) : Bool := within l 0 31 30 0 2 && within l 0 18 0 0 0

/-- A remote record (09 R206). -/
def remoteOk (l : List Word) : Bool :=
  let path := fld (nth l 0) 31 28
  decide (path ≤ 3) && within l 0 26 16 0 0 && within l 1 31 24 0 0 && within l 1 23 0 0 2000000 &&
    within l 2 15 0 1 10000 && nth l 3 == 0 && (decide (1 < path) || within l 0 15 8 0 0)

/-- Check 4 of a record write. -/
def State.recordOk (s : State) (w : WinId) (l : List Word) : Bool :=
  match w with
  | .outlet => outletHead l && outletTail l && axisOk s.axis l
  | .sect => sectionOk l
  | .remote => remoteOk l
  | .rate => true
  | .nozzle => nozzleOk l
  | .injector => injectorOk l
  | _ => false

end Sys2Proof.Machine
end

