-- ==== Sys2Proof/Machine/RegHooks.lean ====
section
/-!
DEFINITION. What a write does to the registers of types RW, W1S, W1C and WO of each page (03 R52), and what an accepted
configuration write sets in motion beside the stored value (03 R54).
-/
namespace Sys2Proof.Machine

/-- Bits of the fields of the listed types. -/
def typeMask (l : List FieldSpec) (p : RegType → Bool) : Word :=
  l.foldl (fun m f => if p f.ty then m ||| maskOf f.hi f.lo else m) (0 : Word)

/-- Is a type one of a configuration field? -/
def RegType.isCfg (t : RegType) : Bool := t == .rwa || t == .rws

/-- Replace the bits of a mask. -/
def mergeBits (old v m : Word) : Word := (old &&& ~~~m) ||| (v &&& m)

/-- The RW fields of a register take the value written. -/
def State.storeRw (s : State) (i : RegInfo) (a : Nat) (v : Word) : State :=
  s.w a (mergeBits (s.r a) v (typeMask i.fields (fun t => t == .rw)))

/-! ## Page and unit headers (03 R42 to R47, R59) -/

/-- FLT_STAT of PKG: clearing CFG_REFUSED, or the last of bits 0 to 2, re-arms its capture (03 R59). -/
def State.pkgClear (s : State) (v : Word) : State :=
  let old := s.r (R.PKG 0x020)
  let new := old &&& ~~~v
  let s := s.w (R.PKG 0x020) new
  let s := if (old &&& 7#32) ≠ 0 ∧ (new &&& 7#32) = 0 then s.wf R.PKG_ACC_FLT_INFO 31 16 0 else s
  if bit old 3 && !bit new 3 then s.wf R.PKG_REFUSED_INFO 31 16 0 else s

/-- A write of a page header register; PG_LOCK takes its first 1 only (03 R44). -/
def State.writeHeader (s : State) (base po : Nat) (v : Word) : State :=
  match po with
  | 0x008 => s.wb (base + 0x008) 16 (bit v 16)
  | 0x014 => match pageOf base with
    | some p => s.w (base + 0x014) (v &&& typeMask ((headerFields p 0x014).getD []) (fun t => t == .rw))
    | none => s
  | 0x01C => s.w (base + 0x010) (s.r (base + 0x010) &&& ~~~(v &&& 0x7FFFFF#32))
  | 0x020 => if base = R.PKG 0 then s.pkgClear v else s.w (base + 0x020) (s.r (base + 0x020) &&& ~~~v)
  | 0x024 => s.w (base + 0x024) v
  | 0x028 => if bit v 0 then s.wb (base + 0x028) 0 true else s
  | _ => s

/-- A write of a unit-frame header register; `fr` is where the frame begins. -/
def State.writeFrame (s : State) (fr fo : Nat) (v : Word) : State :=
  match fo with
  | 0x0C => s.w (fr + 0x0C) v
  | 0x10 => s.w (fr + 0x08) (s.r (fr + 0x08) &&& ~~~v)
  | 0x14 => s.w (fr + 0x14) (s.r (fr + 0x14) &&& ~~~v)
  | _ => s

/-! ## Routes and vectors (03 R63, R65, 05 R94) -/

/-- A write of a route entry. -/
def State.routeWrite (s : State) (a : Nat) (v : Word) : State :=
  if 0x27 < fld v 7 0 then s.flt (pageBase a) 0 else s.w a (v &&& 0x1FF#32)

/-- A write of VEC_EOI re-arms vectors. -/
def State.vecEoi (s : State) (v : Word) : State :=
  s.w (R.IRQROUTE_VEC_ARMED 0) (s.r (R.IRQROUTE_VEC_ARMED 0) ||| v)

/-- A vector that is no longer masked and whose level has dropped clears its pending bit; one whose level is 1 is served
with every other vector. -/
def State.unmasked (s : State) (n : Nat) : State :=
  if !s.vecMasked n && s.b R.PCIE_MSIX_PBA n && !bit s.vecStat n then s.wb R.PCIE_MSIX_PBA n false else s

/-- A write of a vector's control word. -/
def State.msixCtrl (s : State) (n : Nat) (m : Bool) : State := (s.wb (R.PCIE_MSIX_CTRL n) 0 m).unmasked n

/-- The function mask changes: vectors in ascending order. -/
def State.functionMask (s : State) (m : Bool) : State :=
  (List.range 32).foldl (fun (s : State) n => s.unmasked n) { s with host := { s.host with fmask := m } }

/-! ## Porch rings (05 R98, R111) -/

/-- A rejected ring write. -/
def State.ringCfg (s : State) : State := s.flt (R.PORCH 0) 0

/-- Do the rings fit shared SRAM with sizes `c` and `p` (log2)? -/
def State.ringsFit (s : State) (n c p : Nat) : Bool :=
  decide (s.f (R.PORCH_CMD_BASE n) 19 6 * 64 + 64 * 2 ^ c ≤ 0x100000) &&
    decide (s.f (R.PORCH_CPL_BASE n) 19 4 * 16 + 16 * 2 ^ p ≤ 0x100000)

/-- Setting EN starts the ring empty, with PHASE 1. -/
def State.ringStart (s : State) (n : Nat) : State :=
  (((s.w (R.PORCH_CMD_HEAD n) 0).w (R.PORCH_CMD_TAIL n) 0).w (R.PORCH_CPL_HEAD n) 0).w (R.PORCH_CPL_TAIL n) 0x10000#32

/-- A write of RING_CTRL. -/
def State.ringCtrl (s : State) (n : Nat) (v : Word) : State :=
  let a := R.PORCH_RING_CTRL n
  let c := fld v 3 0
  let p := fld v 11 8
  let was := s.ringEn n
  if !(decide (4 ≤ c) && decide (c ≤ 10) && decide (4 ≤ p) && decide (p ≤ 10)) then s.ringCfg
  else if bit v 31 && !was && !s.ringsFit n c p then s.ringCfg
  else if was then
    let keep := c == s.f a 3 0 && p == s.f a 11 8
    let s := if keep then s else s.ringCfg
    s.wb a 31 (bit v 31)
  else
    let s := s.w a (nw (flag (bit v 31) * 2 ^ 31 + p * 256 + c))
    if bit v 31 then s.ringStart n else s

/-- A write of an index register at or above its ring's size is rejected. -/
def State.ringIndex (s : State) (a size : Nat) (v : Word) : State :=
  if size ≤ fld v 9 0 then s.ringCfg else s.w a (nw (fld v 9 0))

/-- A write of a ring register; rings 2 and 3 are RO to every host master (05 R97). -/
def State.porchWrite (s : State) (o : Origin) (i : RegInfo) (a po : Nat) (v : Word) : State :=
  let n := (po - 0x100) / 0x40
  if o.isHost && decide (2 ≤ n) then s
  else
    match (po - 0x100) % 0x40 with
    | 0x00 => s.ringCtrl n v
    | 0x04 => if s.ringEn n then s.ringCfg else s.storeRw i a v
    | 0x08 => if s.ringEn n then s.ringCfg else s.storeRw i a v
    | 0x0C => s.ringIndex a (s.cmdSize n) v
    | 0x18 => s.ringIndex a (s.cplSize n) v
    | _ => s

/-! ## Memory unit (06) -/

/-- CTX_EN and CTX_BASE: contexts 4 to 16 are RO to host masters. -/
def State.xlateWrite (s : State) (o : Origin) (i : RegInfo) (a po : Nat) (v : Word) : State :=
  if po = 0x044 then s.xlateInv v
  else if po = 0x040 then
    s.w a (mergeBits (s.r a) v (if o.isHost then 0xF#32 else 0x1FFFF#32))
  else if o.isHost && decide (4 ≤ (po - 0x100) / 4) then s
  else s.storeRw i a v

/-- XFAULT.LOG_CTRL CLEAR. -/
def State.xlogClear (s : State) (v : Word) : State :=
  if bit v 0 then
    ({ s with mu := { s.mu with xflog := [] } }).wf R.XFAULT_LOG_STAT 6 0 0 |>.wf R.XFAULT_LOG_STAT 31 16 0
  else s

/-- A DMA channel's registers. -/
def State.dmaWrite (s : State) (i : RegInfo) (po : Nat) (v : Word) : State :=
  if po = 0x040 then s.dmaCtrl i.inst v else if po = 0x044 then s.dmaPtr i.inst v else s

/-! ## Trace, loops, PWM (13, 14) -/

/-- The trace control bits, in the order ARM, FORCE, STOP (log 13). -/
def State.traceCtrl (s : State) (v : Word) : State :=
  let s := if bit v 0 then s.traceArm else s
  let s := if bit v 1 then s.traceForce else s
  if bit v 2 then s.traceStop else s

/-- A write to a field an owner holds is ignored (14 R309). -/
def State.pwmOwned (s : State) (u : Nat) : State :=
  ((s.uflt (R.PWMC_U u 0) 5).uirq (R.PWMC_U u 0) 5).flt (R.PWMC (u / 8) 0) 2

/-- A write of CL_CTRL.ARM (14 R311). -/
def State.armCluster (s : State) (k : Nat) (v : Word) : State :=
  if bit v 0 && !s.b (R.PWMC_CL_CTRL k) 0 then
    (s.wb (R.PWMC_CL_CTRL k) 0 true).setPcl k { s.pcl k with armAt := some s.dt }
  else s

/-- A compare register was written since the previous transfer (14 R312). -/
def State.compareWrite (s : State) (i : RegInfo) (u a : Nat) (v : Word) : State :=
  let k := u / 8
  let s := s.storeRw i a v
  s.setPcl k { s.pcl k with written := a :: (s.pcl k).written.filter (fun x => x != a) }

/-- A channel's or a cluster's registers (14 R309, R311). -/
def State.pwmWrite (s : State) (i : RegInfo) (a po : Nat) (v : Word) : State :=
  match i.unit with
  | none => if po = 0x04C then s.armCluster i.inst v else s.storeRw i a v
  | some k =>
    let u := 8 * i.inst + k
    match (po - 0x100) % 0x100 with
    | 0x28 => if s.loopOwned u then s.pwmOwned u else s.compareWrite i u a v
    | 0x2C => if s.loopOwned u then s.pwmOwned u else s.compareWrite i u a v
    | 0x30 => if s.loopOwned u then s.pwmOwned u else s.storeRw i a v
    | 0x38 => if s.motorOwned u then s.pwmOwned u else (s.storeRw i a v).pwmAdjust u
    | _ => s.storeRw i a v

/-- A loop's RW registers; a write of HOST_VAL publishes the source (13 R283). -/
def State.loopWrite (s : State) (i : RegInfo) (a po : Nat) (v : Word) : State :=
  let s := s.storeRw i a v
  if 0x074 ≤ po ∧ po < 0x084 then s.publish (7 * 4096 + 4 * i.inst + (po - 0x074) / 4) else s

/-- A frame register of a tracking channel: the service's channels are not host software's to write (16 R349). -/
def State.gchWrite (s : State) (o : Origin) (i : RegInfo) (k a po : Nat) (v : Word) : State :=
  let u := 8 * i.inst + k
  if o.isHost && !s.gchHost u then (s.gchFlt u 4).flt (R.GCH i.inst 0) 0
  else if (po - 0x100) % 0x100 = 0x4C then s.gchCtrl u v
  else s.storeRw i a v

/-! ## Every page -/

/-- A write of the RW, W1S, W1C and WO fields of a page's own registers. -/
def State.plainWrite (s : State) (o : Origin) (i : RegInfo) (a : Nat) (v : Word) : State :=
  let po := a % 0x1000
  match i.page.kind with
  | .clock => if a = R.CLOCK_ISL_CTRL then s.islCtrl v else s
  | .irqroute =>
    if 0x900 ≤ po then s.routeWrite a v
    else if i.inst ≠ 0 then s
    else if po = 0x070 then s.vecEoi v
    else s.storeRw i a v
  | .pcie => if 0x900 ≤ po ∧ po < 0xB00 ∧ po % 16 = 12 then s.msixCtrl ((po - 0x900) / 16) (bit v 0) else s.storeRw i a v
  | .porch => s.porchWrite o i a po v
  | .xlate => s.xlateWrite o i a po v
  | .xfault => if po = 0x044 then s.xlogClear v else s
  | .dma => s.dmaWrite i po v
  | .posein =>
    if a = R.POSEIN_HOST_POSE 9 then hostPoseWrite o v s
    else if R.POSEIN_HOST_POSE 0 ≤ a ∧ a < R.POSEIN_HOST_POSE 9 then s.w a v
    else s
  | .retire => if a = R.RETIRE_LOST_CTRL then s.lostClear v else s
  | .commit => if a = R.COMMIT_CNT_CTRL then s.cntClear v else s
  | .trace => if a = R.TRACE_CTRL then s.traceCtrl v else s.storeRw i a v
  | .loop => s.loopWrite i a po v
  | .trip =>
    if po = 0x040 then s.tripClr v
    else if 0x100 ≤ po ∧ po % 0x20 = 0x0C ∧ bit v 29 = true then s.wb a 29 false
    else s
  | .pwmc => s.pwmWrite i a po v
  | .diog =>
    match i.unit with
    | some k => if (po - 0x100) % 0x100 = 0x24 then s.dioOutWrite (8 * i.inst + k) v else s
    | none => s
  | .gch =>
    match i.unit with
    | some k => s.gchWrite o i k a po v
    | none => s
  | _ => s.storeRw i a v

/-! ## After a configuration write -/

/-- A new polarity inverts a trip's filtered input; an active input then takes effect, an inactive one lets a pending clear
act (14 R318, R319; log 13). -/
def State.tripCfg (s : State) (t : Nat) (old new : Word) : State :=
  let s := s.pwmSettle
  if bit old 30 = bit new 30 then s
  else
    let s := s.wb (R.TRIP_TRIP_STAT t) 30 (!s.b (R.TRIP_TRIP_STAT t) 30)
    if s.b (R.TRIP_TRIP_STAT t) 30 then s.tripCheck t
    else if s.tripOn t && s.b (R.TRIP_TRIP_STAT t) 29 && bit new 29 then s.tripClear t
    else if s.tripOn t then s
    else s.tripRearm t

/-- PAD_SAFE of a cluster changes: the pad-ring latches take it, and channels in row 1 drive it (14 R310). -/
def State.padWrite (s : State) (k : Nat) (v : Word) : State :=
  let s := { s with pwm := { s.pwm with latch := s.pwm.latch.set k v } }
  (List.range 8).foldl (fun (s : State) n =>
    if (s.pch (8 * k + n)).row = 1 then s.enterRow (8 * k + n) 1 else s) s

/-- What a changed configuration register sets in motion. -/
def State.afterConfig (s : State) (i : RegInfo) (a : Nat) (old new : Word) : State :=
  let po := a % 0x1000
  let fo := (po - 0x100) % 0x100
  match i.page.kind with
  | .hist => if a = R.HIST_RING_MB then s.histRestart else s
  | .pwmctl => if 0x044 ≤ po ∧ po < 0x05C then s.padWrite ((po - 0x044) / 4) new else s
  | .trip => if 0x100 ≤ po ∧ po % 0x20 = 0 then s.tripCfg ((po - 0x100) / 0x20) old new else s
  | .pwmc =>
    match i.unit with
    | none =>
      if po = 0x040 ∧ bit new 31 = true ∧ bit old 31 = false then s.setPcl i.inst { s.pcl i.inst with syncSeen := s.dt } else s
    | some k =>
      let u := 8 * i.inst + k
      if fo = 0x20 ∧ (s.pch u).row = 2 then s.enterRow u 2 else s
  | .diog =>
    match i.unit with
    | some k => if fo = 0x20 ∧ bit old 31 ≠ bit new 31 then s.dioDir (8 * i.inst + k) else s
    | none => s
  | .aing =>
    match i.unit with
    | some k => if fo = 0x20 then s.ainRestart (8 * i.inst + k) else s
    | none => s
  | .rfctl =>
    if a = R.RFCTL_CHAIN_CFG then s.followChains else if a = R.RFCTL_ANT_CFG then s.antFollow else s
  | .tpulse =>
    if a = R.TPULSE_TP_CFG 0 then s.tpWrite 0 old else if a = R.TPULSE_TP_CFG 1 then s.tpWrite 1 old else s
  | _ => s

/-- An accepted configuration value acts: stored, or by CL_OWN's hand-over (16 R349). -/
def State.setConfig (s : State) (i : RegInfo) (a : Nat) (new : Word) : State :=
  let old := s.r a
  if i.page.kind = .gch ∧ a % 0x1000 = 0x040 then s.ownWrite i.inst new
  else (s.w a new).afterConfig i a old new

end Sys2Proof.Machine
end

