-- ==== Sys2Proof/Machine/RegWrite.lean ====
section
/-!
DEFINITION. A register access from outside (03 R39 to R59): where it lands, the faults of R56 to R58, the write checks of
R53, and the effect of a write or a read of any register or window word.
-/
namespace Sys2Proof.Machine

/-- Registers are accessed from step 4 of the start-up sequence on, outside CELLAR (04 R69, R75; 05 R93). -/
def State.answers (s : State) : Bool := decide (4 ≤ s.pkg.bootStep) && !s.pkg.cellar

/-- Does a page's island stand in GATE, or has its die or island not started in BOOT (02 R37, R38; 04 R76)? -/
def State.pageGated (s : State) (p : PageSpec) : Bool :=
  [0, 2, 4, 6, 8].any (fun lo => (islandDomains lo).contains p.domain && s.f R.CLOCK_ISL_STAT (lo + 1) lo == 2) ||
    ((p.domain == 2 || p.domain == 0xD) && decide (s.pkg.bootStep < 6)) ||
    ((p.domain == 6 || p.domain == 9) && decide (s.pkg.bootStep < 7))

/-- Registers only some instances of a kind have: CAN_ADDR and CAN_NAME on CAN0 and CAN1, the RTCM pair on CAN0 (18 R398). -/
def instanceHas (i : RegInfo) (po : Nat) : Bool :=
  i.page.kind != .can || po < 0x050 || (decide (0x05C ≤ po) && decide (po < 0x068)) ||
    (decide (po < 0x05C) && decide (i.inst < 2)) || (decide (0x068 ≤ po) && i.inst == 0)

/-- Where an access lands. -/
inductive Target where
  | absent
  | gated
  | reg (i : RegInfo)
  deriving DecidableEq, Repr

/-- Where an access lands (03 R40, R58; 02 R38): pages that are not listed, unimplemented offsets and the GNSS pages of a
CZT-4192N are absent. -/
def State.target (s : State) (a : Nat) : Target :=
  match pageOf a with
  | none => .absent
  | some p =>
    if s.variant = .n ∧ p.domain = 0xA then .absent
    else if s.pageGated p then .gated
    else
      match regInfo a with
      | some i => if instanceHas i (a % 0x1000) then .reg i else .absent
      | none => .absent

/-- A faulting access: ACCESS, WIDTH or RSVD_WRITE (`k` 0, 1, 2), with its capture and count (03 R56 to R59). -/
def State.accFault (s : State) (o : Origin) (a k : Nat) (wr : Bool) : State :=
  let s :=
    if (s.r (R.PKG 0x020) &&& 7#32) = 0 then
      (s.w R.PKG_ACC_FLT_ADDR (nw (o.code * 2 ^ 24 + a))).w R.PKG_ACC_FLT_INFO
        (nw ((if k = 2 then 4 else 0) + (if k = 1 then 2 else 0) + flag wr))
    else s
  (s.flt (R.PKG 0) k).satInc R.PKG_ACC_FLT_INFO 31 16 1

/-- A refused configuration write (03 R55, R59); `ofs` is the offset it is reported under. -/
def State.cfgRefused (s : State) (o : Origin) (ofs reason : Nat) : State :=
  let s :=
    if s.fltB (R.PKG 0) 3 then s
    else (s.w R.PKG_REFUSED_ADDR (nw (o.code * 2 ^ 24 + ofs))).w R.PKG_REFUSED_INFO (nw reason)
  ((s.flt (R.PKG 0) 3).satInc R.PKG_REFUSED_INFO 31 16 1).evNow 0x04 (nw (reason * 2 ^ 28 + ofs))

/-- Does CFG_LOCK hold a register (19 R415)? -/
def cfgLocked (i : RegInfo) (a : Nat) : Bool :=
  match i.page.kind with
  | .secctl => true
  | .session => true
  | .keys => true
  | .update => true
  | .dbgctl => true
  | _ => a == R.TILEDIR_LOAD_CFG

/-- Role and number of the session open on the interface an access comes from, with its audit origin (19 R409, R417). -/
def State.accSession (s : State) (o : Origin) : Nat × Nat × Nat :=
  match o.slot with
  | some k => (s.slotRole k, s.slotNum k, slotOrigin k)
  | none => (0, 0, 0x30)

/-- Checks 1 to 3 of R53; in BOOT every configuration write is refused first (04 R76). -/
def State.cfgGate (s : State) (o : Origin) (i : RegInfo) (a : Nat) (rws : Bool) : Option Nat :=
  if s.mode = 0 then some 2
  else if s.b (i.base + 0x028) 0 || (s.sec.cfgLock && cfgLocked i a) then some 4
  else if (s.accSession o).1 < 2 then some 1
  else if rws && s.mode != 2 then some 2
  else none

/-- PG_CHG counts the change, and U_CHG for a unit's configuration (03 R54). -/
def State.countChange (s : State) (i : RegInfo) : State :=
  let s := s.chg i.base
  match i.unit with
  | some u => s.inc (frameBase i.page i.base u + 0x018) 31 0 1
  | none => if i.page.kind = .loop then s.inc (i.base + 0x058) 31 0 1 else s

/-- The value a configuration write would leave. RAW_RX is read-only 0 on CAN0 and CAN1 (18 R398). -/
def State.cfgValue (s : State) (i : RegInfo) (a : Nat) (v : Word) : Word :=
  let new := mergeBits (s.r a) v (typeMask i.fields RegType.isCfg)
  if a = R.CAN_CAN_CFG 0 ∨ a = R.CAN_CAN_CFG 1 then clrBit new 29 else new

/-- A write of a register of configuration class: the checks of R53, then the audit record, the value, the store and the
count (03 R53, R54; 19 R417, R420). -/
def State.cfgWrite (s : State) (o : Origin) (i : RegInfo) (a : Nat) (v : Word) : State :=
  let new := s.cfgValue i a v
  match s.cfgGate o i a (i.fields.any (fun f => f.ty == .rws)) with
  | some r => s.cfgRefused o a r
  | none =>
    if !s.stateOk i a new then s.cfgRefused o a 2
    else if !s.valueOk i a new then s.cfgRefused o a 5
    else if new = s.r a then s
    else if !s.audCfg 1 then s.cfgRefused o a 3
    else
      let x := s.accSession o
      let s := s.audit { typ := 1, origin := x.2.2, role := x.1, result := 0, sess := x.2.1, changed := 1, w3 := nw a,
                         w4 := 0, vals := [(s.r a, new)] }
      ((s.setConfig i a new).storeWrite a new).countChange i

/-- A record write (03 R50, R51): the words offered for record `k` of the window whose CURSOR lies at `o`. -/
def State.recordWrite (s : State) (o : Origin) (i : RegInfo) (w : WinSpec) (k : Nat) (l : List Word) : State :=
  let ofs := i.base + w.ofs + 4 * (w.words + 1)
  match s.cfgGate o i ofs (w.cls == .rws) with
  | some r => s.cfgRefused o ofs r
  | none =>
    if !s.recordOk w.id l then s.cfgRefused o ofs 5
    else
      let old := s.winOld w.id k
      let ch := (List.range w.words).filter (fun j => nth old j != nth l j)
      if ch.isEmpty then s
      else if !s.audCfg (audParts ch.length) then s.cfgRefused o ofs 3
      else
        let x := s.accSession o
        let s := s.audit { typ := 2, origin := x.2.2, role := x.1, result := 0, sess := x.2.1,
                           changed := ch.foldl (fun m j => m + 2 ^ j) 0, w3 := nw ofs, w4 := nw k,
                           vals := ch.map (fun j => (nth old j, nth l j)) }
        (s.winApply w.id k l).countChange i

/-- A write of a window word (03 R50). -/
def State.winWrite (s : State) (o : Origin) (i : RegInfo) (w : WinSpec) (j : Nat) (v : Word) : State :=
  let m := o.master
  let c := i.base + w.ofs
  let s := s.winOpen m c w
  if w.cls = .ro ∨ s.winEnd m c w = true then s
  else
    let x := s.win m c
    if j + 1 < w.words then s.setWin m c (x.stage j v)
    else
      let s := s.recordWrite o i w x.cursor (x.offered w.words v)
      (s.setWin m c { x with staged := [] }).winNext m c w

/-- Reserved bits of a register: in none of its fields (03 R57). -/
def reservedBits (l : List FieldSpec) : Word := ~~~(typeMask l (fun _ => true))

/-- A write that lands on a register. DMA channels of the other side are RO to it (06 R128). -/
def State.landWrite (s : State) (o : Origin) (i : RegInfo) (a : Nat) (v : Word) : State :=
  let po := a % 0x1000
  match i.win with
  | some (w, k) =>
    match k with
    | 0 => s.winCursor o.master (i.base + w.ofs) w v
    | 1 => s.winClear o.master (i.base + w.ofs) v
    | j + 2 => s.winWrite o i w j v
  | none =>
    if i.page.kind = .dma ∧ dmaOwner o i.inst = false then s
    else if po < 0x040 then s.writeHeader i.base po v
    else
      let fr := frameBase i.page i.base (i.unit.getD 0)
      if i.unit.isSome = true ∧ a - fr < 0x20 then
        if i.page.kind = .gch ∧ o.isHost = true ∧ s.gchHost (8 * i.inst + i.unit.getD 0) = false then
          (s.gchFlt (8 * i.inst + i.unit.getD 0) 4).flt (R.GCH i.inst 0) 0
        else s.writeFrame fr (a - fr) v
      else if i.fields.any (fun f => RegType.isCfg f.ty) then s.cfgWrite o i a v
      else s.plainWrite o i a v

/-- The session of the interface a write comes from stays alive (19 R412). -/
def State.touchAcc (s : State) (o : Origin) : State :=
  match o.slot with
  | some k => if s.slotRole k = 0 then s else s.touch k
  | none => s

/-- A register write: `be` are its byte enables. -/
def State.regWrite (s : State) (o : Origin) (a : Nat) (be : Nat) (v : Word) : State :=
  if !s.answers then s
  else
    let s := s.touchAcc o
    match s.target (a - a % 4) with
    | .absent => s.accFault o a 0 true
    | .gated => s.flt (R.CLOCK 0) 1
    | .reg i =>
      if be ≠ 15 ∨ a % 4 ≠ 0 then s.accFault o a 1 true
      else
        let s := if (v &&& reservedBits i.fields) = 0 then s else s.accFault o a 2 true
        s.landWrite o i a (v &&& ~~~(reservedBits i.fields))

/-- A read that lands on a register. -/
def State.landRead (s : State) (o : Origin) (i : RegInfo) (a : Nat) : Word × State :=
  match i.win with
  | some (w, k) =>
    let c := i.base + w.ofs
    match k with
    | 0 => (nw (s.win o.master c).cursor, s)
    | 1 => (s.winStat o.master c w, s)
    | j + 2 => s.winRead o.master c w j
  | none => s.readWord o a i

/-- A register read of whole bytes `be`. -/
def State.regRead (s : State) (o : Origin) (a : Nat) (be : Nat) : Word × State :=
  if !s.answers then (0, s)
  else
    match s.target (a - a % 4) with
    | .absent => (0, s.accFault o a 0 false)
    | .gated => (0, s.flt (R.CLOCK 0) 1)
    | .reg i => if be ≠ 15 ∨ a % 4 ≠ 0 then (0, s.accFault o a 1 false) else s.landRead o i a

/-- A register read whose word the master gets. -/
def State.readBy (s : State) (o : Origin) (a : Nat) : State :=
  let r := s.regRead o a 15
  r.2.returns [r.1]

end Sys2Proof.Machine
end

