-- ==== Sys2Proof/Machine/RegCmds.lean ====
section
/-!
DEFINITION. The commands that are one register access (02, 03, 06, 07, 09, 13, 14, 16, 17): each is a write or a read at
its register's offset, by the rules of every access; where its own condition does not hold it changes nothing (log 14).
-/
namespace Sys2Proof.Machine

/-- The window word an offset names: its position from 0, and the window's words. -/
def winPos (a : Nat) : Option (Nat × Nat) :=
  match regInfo a with
  | some i => match i.win with
    | some (w, k) => if 2 ≤ k then some (k - 2, w.words) else none
    | none => none
  | none => none

/-- Is an offset a window word, last or not? -/
def isWinWord (a : Nat) (last : Bool) : Bool :=
  match winPos a with
  | some (j, n) => (j + 1 == n) == last
  | none => false

/-- Is an offset a window's CURSOR? -/
def isCursor (a : Nat) : Bool :=
  match regInfo a with
  | some i => match i.win with
    | some (_, k) => k == 0
    | none => false
  | none => false

/-- Is an offset a register of configuration class? -/
def isConfig (a : Nat) : Bool :=
  match regInfo a with
  | some i => i.win.isNone && i.fields.any (fun f => RegType.isCfg f.ty)
  | none => false

/-- REG_WRITE (03 R52, R56, R57). -/
def execRegWrite (o : Origin) (a : BitVec 24) (be : BitVec 4) (v : Word) (s : State) : Host.Outcome State Fault Refusal :=
  done (s.regWrite o a.toNat be.toNat v)

/-- An access of whole words, a write of 0 or a read. -/
def State.access (s : State) (o : Origin) (a : Nat) (wr : Bool) : State :=
  if wr then s.regWrite o a 15 0 else s.readBy o a

/-- UNIMPL_OFFSET_ACCESS (03 R58). -/
def execUnimplOffsetAccess (o : Origin) (a : BitVec 24) (wr : Bool) (s : State) : Host.Outcome State Fault Refusal :=
  done (if s.target (a.toNat - a.toNat % 4) = .absent then s.access o a.toNat wr else s)

/-- GATED_ACCESS (02 R38). -/
def execGatedAccess (o : Origin) (a : BitVec 24) (wr : Bool) (s : State) : Host.Outcome State Fault Refusal :=
  done (if s.target (a.toNat - a.toNat % 4) = .gated then s.access o a.toNat wr else s)

/-- CONFIG_WRITE (03 R53 to R55). -/
def execConfigWrite (o : Origin) (a : BitVec 24) (v : Word) (s : State) : Host.Outcome State Fault Refusal :=
  done (if isConfig a.toNat then s.regWrite o a.toNat 15 v else s)

/-- PG_STAT_BARRIER_READ (02 R26, 03 R42): every write has landed before the next command, so the read returns at once. -/
def execPgStatBarrierRead (o : Origin) (a : BitVec 24) (s : State) : Host.Outcome State Fault Refusal :=
  done (if a.toNat % 0x1000 = 0x00C then s.readBy o a.toNat else s)

/-- PG_LOCK_WRITE (03 R44). -/
def execPgLockWrite (o : Origin) (a : BitVec 24) (v : Word) (s : State) : Host.Outcome State Fault Refusal :=
  done (if a.toNat % 0x1000 = 0x028 then s.regWrite o a.toNat 15 v else s)

/-- PKG_FLT_CLEAR (03 R59). -/
def execPkgFltClear (o : Origin) (v : Word) (s : State) : Host.Outcome State Fault Refusal :=
  done (s.regWrite o (R.PKG 0x020) 15 v)

/-- CURSOR_WRITE (03 R50). -/
def execCursorWrite (o : Origin) (a : BitVec 24) (v : Word) (s : State) : Host.Outcome State Fault Refusal :=
  done (if isCursor a.toNat then s.regWrite o a.toNat 15 v else s)

/-- WIN_WORD_READ (03 R50). -/
def execWinWordRead (o : Origin) (a : BitVec 24) (s : State) : Host.Outcome State Fault Refusal :=
  done (if isWinWord a.toNat false then s.readBy o a.toNat else s)

/-- WIN_LAST_WORD_READ (03 R50). -/
def execWinLastWordRead (o : Origin) (a : BitVec 24) (s : State) : Host.Outcome State Fault Refusal :=
  done (if isWinWord a.toNat true then s.readBy o a.toNat else s)

/-- WIN_WORD_STAGE (03 R50). -/
def execWinWordStage (o : Origin) (a : BitVec 24) (v : Word) (s : State) : Host.Outcome State Fault Refusal :=
  done (if isWinWord a.toNat false then s.regWrite o a.toNat 15 v else s)

/-- WIN_RECORD_WRITE (03 R50, R51). -/
def execWinRecordWrite (o : Origin) (a : BitVec 24) (v : Word) (s : State) : Host.Outcome State Fault Refusal :=
  done (if isWinWord a.toNat true then s.regWrite o a.toNat 15 v else s)

/-- ROUTE_ENTRY_WRITE (03 R63, R66). -/
def execRouteEntryWrite (o : Origin) (src : BitVec 9) (v : Word) (s : State) : Host.Outcome State Fault Refusal :=
  done (s.regWrite o (routeOfs src.toNat) 15 v)

/-- VEC_EOI_WRITE (03 R65). -/
def execVecEoiWrite (o : Origin) (v : Word) (s : State) : Host.Outcome State Fault Refusal :=
  done (s.regWrite o (R.IRQROUTE_VEC_EOI 0) 15 v)

/-- MSIX_MASK_WRITE (05 R94): an entry's mask, a register of the PCIE page, or the function mask of the PCIe configuration
space, which is written from step 4 of the start-up sequence on. -/
def execMsixMaskWrite (n : Option (Fin 32)) (m : Bool) (s : State) : Host.Outcome State Fault Refusal :=
  done (match n with
    | some k => s.regWrite .pcie (R.PCIE_MSIX_CTRL k.val) 15 (nw (flag m))
    | none => if s.answers then s.functionMask m else s)

/-- DT_LO_READ (02 R32). -/
def execDtLoRead (o : Origin) (s : State) : Host.Outcome State Fault Refusal := done (s.readBy o R.TIME_DT_LO)

/-- LO_CAPTURE_READ (02 R32). -/
def execLoCaptureRead (o : Origin) (a : BitVec 24) (s : State) : Host.Outcome State Fault Refusal :=
  done (match regInfo a.toNat with
    | some i => if (captureGroup a.toNat i).isEmpty then s else s.readBy o a.toNat
    | none => s)

/-- ISL_CTRL_WRITE (02 R37). -/
def execIslCtrlWrite (o : Origin) (v : Word) (s : State) : Host.Outcome State Fault Refusal :=
  done (s.regWrite o R.CLOCK_ISL_CTRL 15 v)

/-- RING_CTRL_WRITE (05 R98, R111). -/
def execRingCtrlWrite (o : Origin) (ring : Fin 4) (v : Word) (s : State) : Host.Outcome State Fault Refusal :=
  done (s.regWrite o (R.PORCH_RING_CTRL ring.val) 15 v)

/-- CMD_TAIL_DOORBELL (05 R98, R99). -/
def execCmdTailDoorbell (o : Origin) (ring : Fin 4) (v : Word) (s : State) : Host.Outcome State Fault Refusal :=
  done (s.regWrite o (R.PORCH_CMD_TAIL ring.val) 15 v)

/-- CPL_HEAD_WRITE (05 R98). -/
def execCplHeadWrite (o : Origin) (ring : Fin 4) (v : Word) (s : State) : Host.Outcome State Fault Refusal :=
  done (s.regWrite o (R.PORCH_CPL_HEAD ring.val) 15 v)

/-- XLATE_INVALIDATE (06 R122). -/
def execXlateInvalidate (o : Origin) (v : Word) (s : State) : Host.Outcome State Fault Refusal :=
  done (s.regWrite o R.XLATE_INV 15 v)

/-- DMA_START (06 R130). -/
def execDmaStart (o : Origin) (ch : Fin 16) (s : State) : Host.Outcome State Fault Refusal :=
  done (s.regWrite o (R.DMA_CTRL ch.val) 15 1)

/-- DMA_STOP (06 R130). -/
def execDmaStop (o : Origin) (ch : Fin 16) (s : State) : Host.Outcome State Fault Refusal :=
  done (s.regWrite o (R.DMA_CTRL ch.val) 15 2)

/-- DMA_RESUME (06 R130). -/
def execDmaResume (o : Origin) (ch : Fin 16) (s : State) : Host.Outcome State Fault Refusal :=
  done (s.regWrite o (R.DMA_CTRL ch.val) 15 4)

/-- DMA_DESC_PTR_WRITE (06 R130). -/
def execDmaDescPtrWrite (o : Origin) (ch : Fin 16) (v : Word) (s : State) : Host.Outcome State Fault Refusal :=
  done (s.regWrite o (R.DMA_DESC_PTR ch.val) 15 v)

/-- XFAULT_LOG_CLEAR (06 R134). -/
def execXfaultLogClear (o : Origin) (s : State) : Host.Outcome State Fault Refusal :=
  done (s.regWrite o R.XFAULT_LOG_CTRL 15 1)

/-- HOST_POSE_SUBMIT (07 R140): the write to HOST_POSE9 submits the ten words held. -/
def execHostPoseSubmit (o : Origin) (v : Word) (s : State) : Host.Outcome State Fault Refusal :=
  done (s.regWrite o (R.POSEIN_HOST_POSE 9) 15 v)

/-- LAST_POSE_READ (07 R140): the read of LAST_POSE0 captures all ten words for the reading master. -/
def execLastPoseRead (o : Origin) (s : State) : Host.Outcome State Fault Refusal := done (s.readBy o (R.POSEIN_LAST_POSE 0))

/-- COMMIT_COUNTER_CLEAR (09 R217). -/
def execCommitCounterClear (o : Origin) (s : State) : Host.Outcome State Fault Refusal :=
  done (s.regWrite o R.COMMIT_CNT_CTRL 15 1)

/-- RETIRE_LOST_CLEAR (09 R217). -/
def execRetireLostClear (o : Origin) (s : State) : Host.Outcome State Fault Refusal :=
  done (s.regWrite o R.RETIRE_LOST_CTRL 15 1)

/-- TRACE_ARM (13 R299). -/
def execTraceArm (o : Origin) (s : State) : Host.Outcome State Fault Refusal := done (s.regWrite o R.TRACE_CTRL 15 1)

/-- TRACE_FORCE (13 R299). -/
def execTraceForce (o : Origin) (s : State) : Host.Outcome State Fault Refusal := done (s.regWrite o R.TRACE_CTRL 15 2)

/-- TRACE_STOP (13 R299). -/
def execTraceStop (o : Origin) (s : State) : Host.Outcome State Fault Refusal := done (s.regWrite o R.TRACE_CTRL 15 4)

/-- CL_ARM_WRITE (14 R311). -/
def execClArmWrite (o : Origin) (cl : Fin 6) (v : Word) (s : State) : Host.Outcome State Fault Refusal :=
  done (s.regWrite o (R.PWMC_CL_CTRL cl.val) 15 v)

/-- Is an offset a field of a PWM channel that an owner holds (14 R309)? -/
def State.ownedField (s : State) (a : Nat) : Bool :=
  match regInfo a with
  | some i =>
    match i.page.kind, i.unit with
    | .pwmc, some k =>
      match (a % 0x1000 - 0x100) % 0x100 with
      | 0x28 => s.loopOwned (8 * i.inst + k)
      | 0x2C => s.loopOwned (8 * i.inst + k)
      | 0x30 => s.loopOwned (8 * i.inst + k)
      | 0x38 => s.motorOwned (8 * i.inst + k)
      | _ => false
    | _, _ => false
  | none => false

/-- OWNED_WRITE (14 R309). -/
def execOwnedWrite (o : Origin) (a : BitVec 24) (v : Word) (s : State) : Host.Outcome State Fault Refusal :=
  done (if s.ownedField a.toNat then s.regWrite o a.toNat 15 v else s)

/-- TRIP_CLR (14 R319). -/
def execTripClr (o : Origin) (v : Word) (s : State) : Host.Outcome State Fault Refusal :=
  done (s.regWrite o R.TRIP_TRIP_CLR 15 v)

/-- GCH_START (16 R346). -/
def execGchStart (o : Origin) (ch : Fin 256) (s : State) : Host.Outcome State Fault Refusal :=
  done (s.regWrite o (R.GCH_CH_CTRL ch.val) 15 1)

/-- GCH_STOP (16 R346). -/
def execGchStop (o : Origin) (ch : Fin 256) (s : State) : Host.Outcome State Fault Refusal :=
  done (s.regWrite o (R.GCH_CH_CTRL ch.val) 15 2)

/-- GCH_UPDATE (16 R347). -/
def execGchUpdate (o : Origin) (ch : Fin 256) (s : State) : Host.Outcome State Fault Refusal :=
  done (s.regWrite o (R.GCH_CH_CTRL ch.val) 15 4)

/-- GCH_DUMP_READ (16 R348). -/
def execGchDumpRead (o : Origin) (ch : Fin 256) (s : State) : Host.Outcome State Fault Refusal :=
  done (s.readBy o (R.GCH_DMP_DT_LO ch.val))

/-- CL_OWN_WRITE (16 R349). -/
def execClOwnWrite (o : Origin) (page : Fin 32) (v : Word) (s : State) : Host.Outcome State Fault Refusal :=
  done (s.regWrite o (R.GCH_CL_OWN page.val) 15 v)

/-- TP_INFO_READ (17 R366). -/
def execTpInfoRead (o : Origin) (pin : Fin 2) (s : State) : Host.Outcome State Fault Refusal :=
  done (s.readBy o (infoOfs pin.val))

end Sys2Proof.Machine
end

