-- ==== Sys2Proof/Machine/SecCmds.lean ====
section
/-!
DEFINITION. The meanings of the security commands and events (19 R399 to R421).
-/
namespace Sys2Proof.Machine

/-! ## Sessions -/

/-- SESSION_CHALLENGE (19 R401, R410, R412). -/
def execSessionChallenge (c : Cmd) (s : State) : Host.Outcome State Fault Refusal :=
  let role := c.byte 8
  let o := c.num 12 4
  let wrong := need 8 (decide (1 ≤ role) && decide (role ≤ 4)) ++ need 12 (decide (o + 64 ≤ 0x100000))
  let no : Bool := match s.openSlot c with
    | some k => s.ifLocked k || (role == 4 && !s.osardOk)
    | none => true
  done (s.runCmd c { CmdSpec.mk' 0x0C01 0 0 (c.badArg [(8, 8), (12, 15)] wrong) false with locked := no } (fun s =>
    match s.openSlot c with
    | some k =>
      if h : k < 6 then
        let (id, nonce, s) := s.issue ⟨k, h⟩ role
        (s.wrWords (sharedBase + o) nonce).ok c id 0
      else s
    | none => s))

/-- SESSION_OPEN (19 R410, R412, R418): `key` is the key that verifies the signature, if one does. -/
def execSessionOpen (c : Cmd) (key : Option (Fin 17)) (s : State) : Host.Outcome State Fault Refusal :=
  let o := c.num 12 4
  let chal := s.sec.chals.find? (fun x => x.id == c.num 8 4 && s.openSlot c == some x.slot.val && s.fresh x)
  let bad := c.badArg [(8, 15)] (need 12 (decide (o + 96 ≤ 0x100000)))
  done (s.runCmd c (CmdSpec.mk' 0x0C02 0 0 bad false) (fun s =>
    match chal, s.openSlot c with
    | some x, _ =>
      let s := s.setSec { s.sec with chals := s.sec.chals.erase x }
      let (st, s) := s.attempt x.slot x.role (s.keyFits x.role key && (x.role != 4 || s.osardOk))
      if st = 0 then s.ok c (nw (s.slotNum x.slot.val)) 0 else s.refuse c 0x0C02 st 0
    | none, some k =>
      if h : k < 6 then (s.failSession ⟨k, h⟩ 0).refuse c 0x0C02 0x13 0 else s
    | none, none => s.refuse c 0x0C02 0x13 0))

/-- SESSION_CLOSE (19 R412, R418). -/
def execSessionClose (c : Cmd) (s : State) : Host.Outcome State Fault Refusal :=
  done (s.runCmd c (CmdSpec.mk' 0x0C03 1 0 (c.badArg [] []) false) (fun s =>
    match s.cmdSlot c with
    | some k => (s.closeSession k).ok c 0 0
    | none => s))

/-- SESSION_IDLE_TIMEOUT (19 R412). -/
def execSessionIdleTimeout (slot : Fin 6) (s : State) : Host.Outcome State Fault Refusal :=
  let k := slot.val
  done (if s.slotRole k ≠ 0 ∧ s.sec.lastAct.getD k 0 + sDT (s.f R.SESSION_CFG 15 0) ≤ s.dt then s.closeSession k else s)

/-- CHALLENGE_EXPIRE (19 R410): 10 s after issue. -/
def execChallengeExpire (id : Word) (s : State) : Host.Outcome State Fault Refusal :=
  done (s.setSec { s.sec with chals := s.sec.chals.filter (fun x => x.id != id.toNat || s.fresh x) })

/-- INTERFACE_LOCKOUT_EXPIRE (19 R412). -/
def execInterfaceLockoutExpire (slot : Fin 6) (s : State) : Host.Outcome State Fault Refusal :=
  let k := slot.val
  done (match s.sec.lockUntil.getD k none with
    | some t =>
      if t ≤ s.dt then
        (s.setSec { s.sec with lockUntil := s.sec.lockUntil.set k none }).wb R.SECCTL_LOCKOUT k false
      else s
    | none => s)

/-! ## Keys (19 R413) -/

/-- KEY_INSTALL: the first ROLE_INTEGRATOR key of a package that holds none needs no session, over PCIE or HSPI in STANDBY. -/
def execKeyInstall (c : Cmd) (s : State) : Host.Outcome State Fault Refusal :=
  let k := c.byte 8
  let cls := c.byte 9
  let o := c.num 12 4
  let first := cls == 2 && s.integratorKeys.isEmpty && decide (c.ring.val < 2) && s.mode == 1
  let wrong := need 8 (decide (k ≤ 14)) ++ need 9 (decide (1 ≤ cls) && decide (cls ≤ 4)) ++ need 12 (decide (o + 96 ≤ 0x100000))
  done (s.runCmd c (CmdSpec.mk' 0x0C10 (if first then 0 else 2) 2 (c.badArg [(8, 9), (12, 15)] wrong) (!first && s.mode != 2))
    (fun s => ((s.setKey k ⟨cls, s.rdBytes (sharedBase + o) 96⟩).chg (R.KEYS 0)).ok c 0 0))

/-- KEY_REVOKE: never the last ROLE_INTEGRATOR key. -/
def execKeyRevoke (c : Cmd) (s : State) : Host.Outcome State Fault Refusal :=
  let k := c.byte 8
  let conflict := s.mode != 2 || s.integratorKeys.all (fun i => i == k)
  done (s.runCmd c (CmdSpec.mk' 0x0C11 2 2 (c.badArg [(8, 8)] (need 8 (decide (k ≤ 14)))) conflict)
    (fun s => ((s.setKey k ⟨0, []⟩).chg (R.KEYS 0)).ok c 0 0))

/-- KEY_EXPORT: the public ETH_IDENTITY key, uncompressed. -/
def execKeyExport (c : Cmd) (s : State) : Host.Outcome State Fault Refusal :=
  let o := c.num 12 4
  done (s.runCmd c (CmdSpec.mk' 0x0C12 1 0 (c.badArg [(12, 15)] (need 12 (decide (o + 97 ≤ 0x100000)))) false)
    (fun s => (s.wrBytes (sharedBase + o) (0x04#8 :: (s.keyAt 15).key)).ok c 0 0))

/-! ## CFG_LOCK (19 R415) -/

/-- The configuration lock changes. -/
def State.setLock (s : State) (v : Bool) : State :=
  let was := s.certified
  ((s.setSec { s.sec with cfgLock := v }).noteCert was).chg (R.SECCTL 0)

/-- CFG_LOCK_SET. -/
def execCfgLockSet (c : Cmd) (s : State) : Host.Outcome State Fault Refusal :=
  done (s.runCmd c (CmdSpec.mk' 0x0C20 2 2 (c.badArg [] []) (s.mode != 2)) (fun s => (s.setLock true).ok c 0 0))

/-- CFG_LOCK_CLEAR: over PCIE or HSPI. -/
def execCfgLockClear (c : Cmd) (s : State) : Host.Outcome State Fault Refusal :=
  done (s.runCmd c { CmdSpec.mk' 0x0C21 3 2 (c.badArg [] []) (s.mode != 2) with locked := decide (2 ≤ c.ring.val) }
    (fun s => (s.setLock false).ok c 0 0))

/-! ## Firmware (19 R405 to R407) -/

/-- FW_STAGE_BLOCK: `i` is the image found at the source, `r` what the block's programming finds, `verified` the outcome of
the verification of the whole slot. -/
def execFwStageBlock (i : ImageInfo) (r : FlashStep) (verified : Bool) (s : State) : Host.Outcome State Fault Refusal :=
  done (match s.worker 8 with
    | some j =>
      let b := s.job j
      if s.b (R.JOBS_JOB_STAT j) 7 ∨ (b.step = 0 ∧ s.jobSt j ≠ 2) then s
      else
        match (if b.step = 0 then s.stageRefused (b.num 20 4) i else none), r with
        | some d, _ => s.failJob j d
        | none, .flashError => (s.wb R.UPDATE_IMG_STAT (3 + s.otherSlot) false).failJob j 0x83
        | none, .written => s.stageBlock j i verified
    | none => s)

/-- FW_ACTIVATE (19 R406): a security reset, after which the slot that does not run is on trial. -/
def execFwActivate (c : Cmd) (s : State) : Host.Outcome State Fault Refusal :=
  let k := s.otherSlot
  done (s.runCmd c (CmdSpec.mk' 0x0C30 3 2 (c.badArg [] []) (s.mode != 1 || !s.b R.UPDATE_IMG_STAT (3 + k))) (fun s =>
    let s := s.resetPackage .sec 0
    let s := (s.wb R.UPDATE_IMG_STAT 1 (k == 1)).wb R.UPDATE_IMG_STAT 2 true
    s.setSec { s.sec with prevSlot := 1 - k }))

/-- SVN of the image that runs. -/
def State.runSvn (s : State) : Nat :=
  if s.b R.UPDATE_IMG_STAT 0 then s.f R.UPDATE_IMG_STAT 31 24 else s.f R.UPDATE_IMG_STAT 23 16

/-- FW_CONFIRM (19 R407): the trial image is permanent, and its SVN is blown. -/
def execFwConfirm (c : Cmd) (s : State) : Host.Outcome State Fault Refusal :=
  done (s.runCmd c (CmdSpec.mk' 0x0C31 2 2 (c.badArg [] []) (!s.onTrial)) (fun s =>
    let s := (s.wb R.UPDATE_IMG_STAT 2 false).setSec { s.sec with trialSince := none }
    let s := s.wf R.FUSE_SVN 6 0 (max (s.f R.FUSE_SVN 6 0) s.runSvn)
    ((s.fwAudit 0).chg (R.UPDATE 0)).ok c 0 0))

/-- TRIAL_TIMEOUT (19 R406): TRIAL_S after STANDBY was reached; the previous image takes effect at a reset, at once in STANDBY. -/
def execTrialTimeout (s : State) : Host.Outcome State Fault Refusal :=
  let due : Bool := match s.sec.trialSince with
    | some t => decide (t + sDT (s.f R.UPDATE_CFG 15 0) ≤ s.dt)
    | none => false
  done (if s.onTrial ∧ due = true then
    let s := s.endTrial
    if s.mode = 1 then (s.resetPackage .sec 0).irq (R.UPDATE 0) 1 else s.setSec { s.sec with revertDue := true }
  else s)

/-! ## Audit, RMA and debug -/

/-- AUDIT_CLEAR (19 R419): its own CLEAR record stands for it in the log. -/
def execAuditClear (c : Cmd) (s : State) : Host.Outcome State Fault Refusal :=
  let no := !([1, 2, 4, 5].contains s.mode) || !s.sec.audArchived
  done (s.runCmd c (CmdSpec.mk' 0x0C40 3 0 (c.badArg [] []) no) (fun s =>
    if s.audRun 1 then (s.auditClear (c.ring.val + 1) (s.cmdRole c) c.sess.toNat).ok c 0 0
    else s.refuse c 0x0C40 0x14 0))

/-- RMA_PERMIT (19 R401). -/
def execRmaPermit (c : Cmd) (s : State) : Host.Outcome State Fault Refusal :=
  done (s.runCmd c (CmdSpec.mk' 0x0C41 2 2 (c.badArg [] []) (s.mode != 1))
    (fun s => (s.setSec { s.sec with rmaPermit := true }).ok c 0 0))

/-- DBGCTL.STATE changes: source 448, and CERTIFIED with it. -/
def State.setDebug (s : State) (v : Nat) : State :=
  if s.f R.DBGCTL_STATE 1 0 = v then s
  else
    let was := s.certified
    ((s.wf R.DBGCTL_STATE 1 0 v).irq (R.DBGCTL 0) 0).noteCert was

/-- Level 2 erases key slots 0 to 14 and blows L2_USED. -/
def State.wipeKeys (s : State) : State :=
  let s := s.setSec { s.sec with keys := List.replicate 15 ⟨0, []⟩ ++ s.sec.keys.drop 15 }
  (s.lifeKb 5 2).wb R.FUSE_LIFE 8 true

/-- DEBUG_OPEN (19 R415, R416). -/
def execDebugOpen (c : Cmd) (s : State) : Host.Outcome State Fault Refusal :=
  let n := c.byte 8
  let k := CmdSpec.mk' 0x0C50 (n + 2) 2 (c.badArg [(8, 8)] (need 8 (n == 1 || n == 2))) (s.mode != 1 && s.mode != 4)
  done (s.runCmd c { k with locked := s.sec.cfgLock } (fun s =>
    let s := if n = 2 then s.wipeKeys else s
    ((s.setDebug n).chg (R.DBGCTL 0)).ok c 0 0))

/-- DEBUG_CLOSE (19 R416). -/
def execDebugClose (c : Cmd) (s : State) : Host.Outcome State Fault Refusal :=
  done (s.runCmd c (CmdSpec.mk' 0x0C51 3 1 (c.badArg [] []) false) (fun s => (s.setDebug 0).ok c 0 0))

end Sys2Proof.Machine
end

