-- ==== Sys2Proof/Machine/HostOps.lean ====
section
/-!
DEFINITION. The host interfaces as shared operations (05 R91 to R96): what a link-down resets, BAR2, quad-SPI frames, and
the Ethernet connections.
-/
namespace Sys2Proof.Machine

/-- Replace the host part. -/
def State.setHost (s : State) (h : HostIf) : State := { s with host := h }

/-! ## PCIe (05 R91, R92, R95) -/

/-- Is an offset on the PCIE page, where the MSI-X table lies too? -/
def onPcie (o : Nat) : Bool := decide (0x100000 ≤ o) && decide (o < 0x101000)

/-- What a function level reset and a link-down do: ring 0 off, the PCIE page and the MSI-X table back at their reset values,
the PCIe master's cursors reset, its session closed (05 R95, 19 R412). -/
def State.pcieReset (s : State) : State :=
  let s := s.wb (R.PORCH_RING_CTRL 0) 31 false
  let s := { s with regs := s.regs.filter (fun e => !onPcie e.1) }
  let s := s.setHost { s.host with wins := s.host.wins.filter (fun e => e.1 / 2 ^ 24 != Origin.pcie.master), fmask := false }
  s.closeSession 0

/-- The completion of a BAR2 request: 0 successful, 1 unsupported request, 2 completer abort, 3 poisoned. -/
def State.bar2Done (s : State) (k : Nat) : State := s.setHost { s.host with bar2 := k }

/-- Does a request cross a 4 KB boundary? -/
def crosses4K (o n : Nat) : Bool := decide (0x1000 < o % 0x1000 + n)

/-- Bytes of a request that is a write, kept where their byte enable is 0 (05 R92). -/
def State.bar2Write (s : State) (o : Nat) (data : List Byte) (be : List Bool) : State :=
  ((List.range data.length).zip data).foldl (fun (s : State) e =>
    if be.getD e.1 false then s.wr8 (sharedBase + o + e.1) e.2 else s) s

/-- Bytes as words, the last one filled with zeros. -/
def paddedWords (l : List Byte) : List Word := bytesWords ((l.length + 3) / 4) (l ++ List.replicate 3 0)

/-- A field-store view read of `n` bytes, through context 16 (05 R92, 06 R117, R121). -/
def State.viewRead (s : State) (o n : Nat) : State :=
  match s.translate 16 o n false with
  | (.ok a, s) => (s.returns (paddedWords (s.rdBytes a n))).bar2Done 0
  | (.error f, s) => ((s.xfault 16 o false f).xfaultEv f).bar2Done 2

/-- A field-store view write: refused (06 R121). -/
def State.viewWrite (s : State) (o n : Nat) : State :=
  match s.translate 16 o n true with
  | (.ok _, s) => s
  | (.error f, s) => (s.xfault 16 o true f).xfaultEv f

/-! ## Quad-SPI frames (05 R93) -/

/-- Byte `i` of a frame's header. -/
def hdrByte (h : BitVec 40) (i : Nat) : Nat := (h >>> (8 * i)).toNat % 256

/-- A header's five bytes. -/
def hdrBytes (h : BitVec 40) : List Byte := (List.range 5).map (fun i => BitVec.ofNat 8 (hdrByte h i))

/-- The address of a header, most significant byte first. -/
def hdrAddr (h : BitVec 40) : Nat := hdrByte h 1 * 65536 + hdrByte h 2 * 256 + hdrByte h 3

/-- Words a header asks for. -/
def hdrCount (h : BitVec 40) : Nat := hdrByte h 4 + 1

/-- Does the slave answer? -/
def State.hspiUp (s : State) : Bool := s.answers && s.b R.HSPI_CFG 0

/-- A frame is counted. -/
def State.frame (s : State) : State := s.inc R.HSPI_STAT 31 16 1

/-- Result of the newest frame that is no status read. -/
def State.frameRes (s : State) (k : Nat) : State := s.setHost { s.host with hspiRes := k }

/-- A CRC that fails. -/
def State.crcFail (s : State) : State := ((s.flt (R.HSPI 0) 0).satInc R.HSPI_STAT 15 0 1).frameRes 1

/-- A malformed frame. -/
def State.badFrame (s : State) : State := (s.flt (R.HSPI 0) 1).frameRes 2

/-- Is a header well formed: a word count of 1 to 16, and for shared SRAM bits [23:20] zero and every word inside 1 MB? -/
def hdrOk (h : BitVec 40) (sram : Bool) : Bool :=
  decide (hdrCount h ≤ 16) && (!sram || decide (hdrAddr h + 4 * hdrCount h ≤ 0x100000))

/-- Words written at ascending register offsets. -/
def State.regWrites (s : State) (o : Origin) : Nat → List Word → State
  | _, [] => s
  | a, v :: t => (s.regWrite o (a % 2 ^ 24) 15 v).regWrites o (a + 4) t

/-- Words read at ascending register offsets. -/
def State.regReads (s : State) (o : Origin) : Nat → Nat → List Word × State
  | _, 0 => ([], s)
  | a, n + 1 =>
    let x := s.regRead o (a % 2 ^ 24) 15
    let y := x.2.regReads o (a + 4) n
    (x.1 :: y.1, y.2)

/-- The opcode byte is one of the frames'. -/
def frameOps : List Nat := [0x02, 0x0B, 0x12, 0x1B, 0x05]

/-- A frame of opcode `op` whose words and CRCs are in: the access `act` if it is well formed. A header with the opcode of
another frame is that frame's row (log 14). -/
def State.hspiFrame (s : State) (op : Nat) (h : BitVec 40) (hcrc : BitVec 16) (dataOk lenOk : Bool) (act : State → State) : State :=
  if !s.hspiUp then s
  else if crc16 0xFFFF#16 (hdrBytes h) ≠ hcrc then (s.frame.crcFail).returns (List.replicate (min 16 (hdrCount h)) 0)
  else if hdrByte h 0 ≠ op ∧ frameOps.contains (hdrByte h 0) then s
  else if hdrByte h 0 ≠ op ∨ !hdrOk h (op == 0x12 || op == 0x1B) ∨ !lenOk then s.frame.badFrame
  else if !dataOk then s.frame.crcFail
  else (act s.frame).frameRes 0

/-! ## The Ethernet command service (05 R96, 19 R411) -/

/-- A connection. -/
def State.conn (s : State) (k : Nat) : EthConn := s.host.eth.getD k ⟨false, none, false, none⟩

/-- Replace a connection. -/
def State.setConn (s : State) (k : Nat) (x : EthConn) : State := s.setHost { s.host with eth := s.host.eth.set k x }

/-- The service listens on a port. -/
def State.ethListens (s : State) (p : Nat) : Bool :=
  s.answers && s.b R.PORCH_PORCH_CFG p && s.b (R.ETH_ETH_CFG p) 31 && s.f (R.ETH_ETH_STAT p) 1 0 != 0

/-- A connection ends, and its session closes (19 R412). -/
def State.dropConn (s : State) (k : Nat) : State := (s.setConn k ⟨false, none, false, none⟩).closeSession (2 + k)

/-- Is a connection's session open? -/
def State.connOpen (s : State) (k : Nat) : Bool := (s.conn k).estab && s.slotRole (2 + k) != 0

/-- A message sent on connection `k`: its type and its words. -/
def State.ethSend (s : State) (k typ : Nat) (l : List Word) : State :=
  s.setHost { s.host with out := s.host.out ++ [OutMsg.mk (8 + k / 2) 6 (nw (typ + 256 * k) :: l)] }

/-- The service firmware sets a ring up, with sizes and bases of its own (05 R97): free values inside shared SRAM. -/
def State.setupRing (s : State) (r : Nat) : State :=
  if s.ringEn r then s
  else
    let (x, s) := s.freeBits 64
    let (y, s) := s.freeBits 64
    let c := 4 + x % 7
    let p := 4 + y % 7
    let s := s.w (R.PORCH_CMD_BASE r) (nw (x / 8 % (16385 - 2 ^ c) * 64))
    let s := s.w (R.PORCH_CPL_BASE r) (nw (y / 8 % (65537 - 2 ^ p) * 16))
    (s.w (R.PORCH_RING_CTRL r) (nw (2 ^ 31 + p * 256 + c))).ringStart r

/-- A command message, out of its protection: its descriptor queued on the ring of its port. With the ring full, or with
no descriptor of 64 bytes, it waits outside (log 20). -/
def State.ethCommand (s : State) (k : Nat) (desc : List Byte) : State :=
  let r := 2 + k / 2
  let t := s.f (R.PORCH_CMD_TAIL r) 9 0
  let t' := (t + 1) % s.cmdSize r
  if desc.length ≠ 64 ∨ t' = s.f (R.PORCH_CMD_HEAD r) 9 0 ∨ s.ringEn r = false then s
  else
    (s.wrBytes (sharedBase + s.f (R.PORCH_CMD_BASE r) 19 6 * 64 + 64 * t) desc).wf (R.PORCH_CMD_TAIL r) 9 0 t'

/-- A register frame, out of its protection: executed and answered with type 0x04. -/
def State.ethRegFrame (s : State) (k : Fin 4) (h : BitVec 40) (data : List Word) : State :=
  let n := hdrCount h
  if hdrByte h 0 = 0x02 ∧ n ≤ 16 ∧ data.length = n then
    (s.regWrites (.eth k) (hdrAddr h) data).ethSend k.val 4 [0]
  else if hdrByte h 0 = 0x0B ∧ n ≤ 16 then
    let x := s.regReads (.eth k) (hdrAddr h) n
    (x.2.returns x.1).ethSend k.val 4 (0 :: x.1)
  else s.ethSend k.val 4 [2]

/-- A message of types 0x01 to 0x04 on a connection: in the clear, or before the session is open, it is discarded and
the connection closed (05 R96, 19 R411). -/
def State.ethInner (s : State) (k : Fin 4) (plain : Bool) (act : State → State) : State :=
  if (s.conn k.val).up = false then s
  else if plain || !s.connOpen k.val then s.dropConn k.val
  else act s

end Sys2Proof.Machine
end

