-- ==== Sys2Proof/Machine/JobCmds.lean ====
section
/-!
DEFINITION. The meanings of the job commands and of what moves every job between its states (05 R104 to R108, 06 R132).
-/
namespace Sys2Proof.Machine

/-- The role of the job a handle names, "as START"; any session where it names none (05 R104). -/
def State.handleRole (s : State) (c : Cmd) : Nat :=
  match s.findJob c.handle.toNat with
  | some j => kindRole (s.jobKind j)
  | none => 1

/-- Live jobs of a kind. -/
def State.liveOf (s : State) (k : Nat) : Nat :=
  ((List.range 16).filter (fun j => liveJob (s.jobSt j) && s.jobKind j == k)).length

/-- The lowest free slot (05 R105; log 8). -/
def State.freeJob (s : State) : Option Nat := (List.range 16).find? (fun j => s.jobSt j == 0)

/-- The checks of a START. -/
def State.startSpec (s : State) (c : Cmd) : CmdSpec :=
  let k := c.byte 8
  { CmdSpec.mk' 0x0110 (kindRole k) (kindAud k) (c.badArg (startUses k) (s.startWrong c)) (!(kindsIn s.mode).contains k) with
    busy := s.freeJob.isNone || decide (kindMax k ≤ s.liveOf k) }

/-- A job is created in QUEUED (05 R105, R106); a GNSS_SEARCH takes its context (16 R351). -/
def State.createJob (s : State) (c : Cmd) (j : Nat) : State :=
  let k := c.byte 8
  let g := (s.job j).gen % 15 + 1
  let b : Job := { Job.reset with
    gen := g, prio := c.byte 9, order := 1 + (s.jobs.map (·.order)).foldl max 0, notify := c.flags.getLsbD 2, irq := c.flags.getLsbD 0, idx := c.idx, params := c.args }
  let s := (s.setJob j b).w (R.JOBS_JOB_STAT j) (nw ((g * 16 + j) * 2 ^ 24 + k * 2 ^ 16 + c.ring.val * 16))
  let s := (s.w (R.JOBS_JOB_DETAIL j) (nw c.tag.toNat)).setJobSt j 1
  match k, s.freeCtx with
  | 1, some x =>
    s.ctxTake j x (c.byte 12) (c.byte 13) (c.byte 14 % 2) (c.byte 15) (toSigned 32 (c.num 16 4)) (c.num 20 2)
  | _, _ => s

/-- JOB_START (05 R104, R106). -/
def execJobStart (c : Cmd) (s : State) : Host.Outcome State Fault Refusal :=
  let t := s.touchCmd c
  let k := t.startSpec c
  done (if s.pkg.cellar then s else let s := t; match s.porchFails c k, s.freeJob with
    | some (st, d), _ => s.refuse c 0x0110 st d
    | none, none => s
    | none, some j =>
      let h := ((s.job j).gen % 15 + 1) * 16 + j
      let r0 : Word := if c.byte 8 = 1 then nw (s.freeCtx.getD 0) else 0
      let s := if k.aud = 0 then s else s.audit (s.cmdAudit c 0x0110 1 h r0 0)
      let s := s.createJob c j
      (s.putRec { ring := c.ring.val, tag := c.tag.toNat, status := 0x01, handle := h, idx := c.idx.toNat, final := false,
                  job := true, detail := 0, r0 := r0, r1 := 0, irq := c.flags.getLsbD 0 }).leave c)

/-- The checks of a command on a job. -/
def State.handleSpec (s : State) (c : Cmd) (op role : Nat) (bad : Option Nat) (conflict : Nat → Bool) : CmdSpec :=
  { CmdSpec.mk' op role 0 bad (match s.findJob c.handle.toNat with | some j => conflict j | none => false) with
    noJob := (s.findJob c.handle.toNat).isNone }

/-- The job of a command that passed its checks. -/
def State.onJob (s : State) (c : Cmd) (f : State → Nat → State) : State :=
  match s.findJob c.handle.toNat with
  | some j => f s j
  | none => s

/-- May a job be suspended: QUEUED, or RUNNING before its last step (05 R106)? -/
def State.canSuspend (s : State) (j : Nat) : Bool :=
  s.jobSt j == 1 || (s.jobSt j == 2 && !s.b (R.JOBS_JOB_STAT j) 7)

/-- JOB_SUSPEND (05 R106). -/
def execJobSuspend (c : Cmd) (s : State) : Host.Outcome State Fault Refusal :=
  done (s.runCmd c (s.handleSpec c 0x0111 (s.handleRole c) (c.badArg [] []) (fun j => !s.canSuspend j)) (fun s =>
    s.onJob c (fun s j =>
      if s.jobSt j = 1 then ((s.setJobSt j 4).notifyJob j).reply c 0 c.handle.toNat 0 0 0
      else (s.setJob j { s.job j with suspend := some c }).setJobSt j 3)))

/-- JOB_RESUME (05 R106). -/
def execJobResume (c : Cmd) (s : State) : Host.Outcome State Fault Refusal :=
  let no (j : Nat) : Bool := s.jobSt j != 4 || !(kindsIn s.mode).contains (s.jobKind j)
  done (s.runCmd c (s.handleSpec c 0x0112 (s.handleRole c) (c.badArg [] []) no) (fun s =>
    s.onJob c (fun s j => ((s.setJobSt j 1).notifyJob j).reply c 0 c.handle.toNat 0 0 0)))

/-- May a job be cancelled (05 R106)? -/
def State.canCancel (s : State) (j : Nat) : Bool :=
  s.jobSt j == 1 || s.jobSt j == 4 || ((s.jobSt j == 2 || s.jobSt j == 3) && !s.b (R.JOBS_JOB_STAT j) 7)

/-- JOB_CANCEL (05 R106). -/
def execJobCancel (c : Cmd) (s : State) : Host.Outcome State Fault Refusal :=
  done (s.runCmd c (s.handleSpec c 0x0113 (s.handleRole c) (c.badArg [] []) (fun j => !s.canCancel j)) (fun s =>
    s.onJob c (fun s j => (s.setJob j { s.job j with cancel := some c }).cancelJob j 0)))

/-- A finished slot becomes FREE; its generation counter stays (05 R105). -/
def State.freeSlotOf (s : State) (j : Nat) : State :=
  let s := s.setJob j { Job.reset with gen := (s.job j).gen }
  ((s.w (R.JOBS_JOB_STAT j) 0).w (R.JOBS_JOB_DETAIL j) 0).irq (R.JOBS 0) 1

/-- JOB_QUERY (05 R104, R106). -/
def execJobQuery (c : Cmd) (s : State) : Host.Outcome State Fault Refusal :=
  done (s.runCmd c (s.handleSpec c 0x0114 1 (c.badArg [(8, 8)] (need 8 (decide (c.byte 8 ≤ 1)))) (fun _ => false)) (fun s =>
    s.onJob c (fun s j =>
      let r0 := s.r (R.JOBS_JOB_STAT j)
      let r1 := s.jobMs j
      let s := if c.byte 8 = 1 ∧ !liveJob (s.jobSt j) then s.freeSlotOf j else s
      s.reply c 0 c.handle.toNat 0 r0 r1)))

/-- A job enters RUNNING: a FLOW_CALIBRATE begins its step with outputs (10 R236). -/
def State.enterRun (s : State) (j : Nat) : State :=
  let s := s.setJobSt j 2
  let b := s.job j
  if s.jobKind j = 5 ∧ b.step = 0 then
    if 2 ≤ b.num 12 1 then s.setJob j { b with step := 2, vals := [s.dt] }
    else
      let ids := s.calOutlets j
      let flow := (s.r (R.FING_F_COUNT (fld (s.r (R.METER_PCFG (b.num 13 1 % 4))) 27 24))).toNat
      let s := (s.setJob j { b with step := 1, vals := [s.dt, flow] }).noteRegions j (s.openRegions ids)
      let out (id : Nat) : MeterOut :=
        { v := 0, rate := 0, out := if oMeter s.tbl id = 2 then min (b.num 24 4) 0xFFFF else b.num 24 4, idx := 0, fallback := false,
          clip := false, low := false, susp := false, ovr := false, under := false, lead := 0, q := 0, rateSat := false,
          flowSat := false }
      let s := { s with meter := { s.meter with
        out := s.meter.out.filter (fun e => !ids.contains e.1) ++ ids.map (fun id => (id, out id)) } }
      ids.foldl (fun (s : State) id => s.runOn id) s
  else if s.jobKind j = 5 ∧ b.step = 3 then s.setJob j { b with vals := b.vals.set 0 s.dt }
  else s

/-- The next job to run: highest priority, then oldest (05 R106). -/
def State.nextJob (s : State) : Option Nat :=
  let better (a b : Nat) : Bool :=
    decide ((s.job a).prio < (s.job b).prio) || (decide ((s.job a).prio = (s.job b).prio) && decide ((s.job a).order < (s.job b).order))
  (List.range 16).foldl (fun (best : Option Nat) j =>
    if s.jobSt j = 1 then
      match best with
      | some b => if better j b then some j else best
      | none => some j
    else best) none

/-- JOB_DISPATCH (05 R105, R106). -/
def execJobDispatch (s : State) : Host.Outcome State Fault Refusal :=
  done (match s.nextJob with
    | some j => if s.runSlots < 8 then s.enterRun j else s
    | none => s)

/-- What a kind does as it is suspended: a search releases its capture slots; a calibration step with outputs on begins
again after the RESUME, its outputs off until then (16 R353, 10 R236; log 7). -/
def State.suspendKind (s : State) (j : Nat) : State :=
  match s.jobKind j with
  | 1 => match s.jobCtx j with | some x => s.ctxSuspend x | none => s
  | 5 =>
    let st := (s.job j).step
    let s := if st = 1 then s.calOff j else s
    if st = 1 ∨ st = 2 then s.jobStep j 0 else s
  | _ => s

/-- JOB_SAFE_POINT (05 R106). -/
def execJobSafePoint (slot : Fin 16) (s : State) : Host.Outcome State Fault Refusal :=
  let j := slot.val
  done (if s.b (R.JOBS_JOB_STAT j) 7 then s
    else if s.jobSt j = 3 then (((s.suspendKind j).setJobSt j 4).notifyJob j).endSuspend j 0
    else if s.jobSt j = 5 then s.endCancelled j (s.job j).cancelDetail
    else s)

/-- JOB_WORK_COMPLETE (05 R106). -/
def execJobWorkComplete (slot : Fin 16) (s : State) : Host.Outcome State Fault Refusal :=
  let j := slot.val
  done (if (s.jobSt j = 2 ∨ s.jobSt j = 3) ∧ (s.job j).step = doneStep then s.jobDone j (s.job j).res0 (s.job j).res1 else s)

/-- Does a job run its work: RUNNING, SUSPENDING or CANCELLING? -/
def State.jobActive (s : State) (j : Nat) : Bool := s.jobSt j == 2 || s.jobSt j == 3 || s.jobSt j == 5

/-- JOB_ERROR (05 R106): the job's own failure code. -/
def execJobError (slot : Fin 16) (detail : BitVec 8) (s : State) : Host.Outcome State Fault Refusal :=
  done (if s.jobActive slot.val then s.failJob slot.val detail.toNat else s)

/-- JOB_DMA_FAULT_TIMEOUT (06 R132): a translation fault of the job's DMA unresolved after 1 ms. -/
def execJobDmaFaultTimeout (slot : Fin 16) (s : State) : Host.Outcome State Fault Refusal :=
  done (if s.jobActive slot.val then s.failJob slot.val 0x10 else s)

end Sys2Proof.Machine
end

