-- ==== Sys2Proof/Machine/MemCmds.lean ====
section
/-!
DEFINITION. The meanings of the memory events (06): patrol scrubbing, the Pantry's fills and write-backs, DMA bursts.
-/
namespace Sys2Proof.Machine

/-- Operating seconds (04 R88). -/
def State.opSec (s : State) : Nat := s.pkg.opTicks / 256

/-- Count `n` corrections of a memory page (k: 0 SRAM, 1 MRAM, 2 LPDDR); more than 16 within an hour of operating time
set CE_RATE (06 R113). -/
def State.eccCorrected (s : State) (k n : Nat) : State :=
  let base := R.SRAM 0 + 0x1000 * k
  let s := s.satInc (base + 0x040) 15 0 n
  let old := s.mu.ceLog.filter (fun e => decide (s.opSec < e.2 + 3600))
  let log := old ++ List.replicate (min n 17) (k, s.opSec)
  let s := { s with mu := { s.mu with ceLog := log } }
  if 16 < (log.filter (fun e => e.1 == k)).length then s.fltOnce base 1 else s

/-- An uncorrectable error at a physical address, by its area (06 R115): counters, address and fault of the page; a
Pantry slot is dropped. -/
def State.eccBad (s : State) (k a : Nat) : State :=
  let base := R.SRAM 0 + 0x1000 * k
  let s := (s.satInc (base + 0x040) 31 16 1).w (base + 0x044) (nw a)
  let s := if k = 2 then s.wf R.LPDDR_UE_ADDR_HI 7 0 (a / 2 ^ 32) else s
  let s := (s.flt base 0).evFlt base 0
  if k = 0 ∧ a < 112 * 36864 ∧ (s.slot (a / 36864)).st ≠ .free then s.dropSlot (a / 36864) else s

/-- What a patrol pass found on a page: corrections, and the address of an uncorrectable error. -/
def State.scrubFound (s : State) (k corr : Nat) (ue : Option (BitVec 40)) : State :=
  let s := if corr = 0 then s else s.eccCorrected k corr
  match ue with
  | some a => s.eccBad k a.toNat
  | none => s

/-- SRAM_PATROL_SCRUB (06 R113): not inside CELLAR. -/
def execSramPatrolScrub (corr : Nat) (ue : Option (BitVec 40)) (s : State) : Host.Outcome State Fault Refusal :=
  done (if s.pkg.cellar then s else s.scrubFound 0 corr ue)

/-- LPDDR_PATROL_SCRUB (06 R114): not before the zero fill is complete, nor while the DRAM is in self-refresh. -/
def execLpddrPatrolScrub (corr : Nat) (ue : Option (BitVec 40)) (s : State) : Host.Outcome State Fault Refusal :=
  done (if s.pkg.cellar || !s.b R.LPDDR_CFG 4 || decide (s.dramSize = 0) then s else s.scrubFound 2 corr ue)

/-- XSPI_TIMEOUT (06 R116). -/
def execXspiTimeout (s : State) : Host.Outcome State Fault Refusal := done (s.fltEv (R.XSPI 0) 0)

/-- A fill ends in slot `i`: the tile's bytes, with damaged 64-byte blocks of coverage and boundary zero-filled and
damaged prescription blocks marked (06 R115, R123, R124). -/
def State.fillSlot (s : State) (i : Nat) (bad : List (Fin 576)) : State :=
  let p := s.slot i
  match s.tileOrd p.tile with
  | none => s.setSlot i PantrySlot.reset
  | some o =>
    let s := s.copy (slotAddr i) (s.tileAddr o) 36864
    let s := bad.foldl (fun (s : State) b =>
      if b.val < 512 then s.wrBytes (slotAddr i + 64 * b.val) (List.replicate 64 0)
      else
        let m := SMap.get (fun _ => 0) s.rast.damage i ||| 2 ^ (b.val - 512)
        { s with rast := { s.rast with damage := SMap.put (fun _ => 0) s.rast.damage i m } }) s
    let s := if bad = [] then s else (s.flt (R.LPDDR 0) 2).event 0x2 2 3 0x4202 (nw o) s.tick32
    let s := s.setSlot i { p with st := .clean }
    { s with rast := { s.rast with absent := s.rast.absent.filter (fun (a : Absence) => !decide (a.tile = p.tile)) } }

/-- PANTRY_FILL_COMPLETE (06 R124, R127): a fill of the old field is discarded. -/
def execPantryFillComplete (bad : List (Fin 576)) (s : State) : Host.Outcome State Fault Refusal :=
  done (match s.mu.fillNow with
    | none => s
    | some i =>
      let s := { s with mu := { s.mu with fillNow := none } }
      let s := if (s.slot i).discard then s.setSlot i PantrySlot.reset
               else if (s.slot i).st = .filling then s.fillSlot i bad else s
      s.pump)

/-- DIRTY_AGE_EXPIRE (06 R124): a slot DIRTY for 1 s goes to WRITEBACK. -/
def execDirtyAgeExpire (slot : Fin 112) (s : State) : Host.Outcome State Fault Refusal :=
  let p := s.slot slot.val
  done (if p.st = .dirty ∧ p.dirtySince + sDT 1 ≤ s.dt then s.beginWb slot.val else s)

/-- The write-back at the head of DMA14's queue ends (06 R124). -/
def State.wbEnd (s : State) (i : Nat) : State :=
  let s := s.writeBack i
  let p := s.slot i
  if p.redirty then s.setSlot i { p with st := .dirty, redirty := false, dirtySince := s.dt }
  else s.setSlot i { p with st := .clean }

/-- PANTRY_WRITEBACK_COMPLETE (06 R124); `ue` an uncorrectable error in the slot it reads (06 R115). -/
def execPantryWritebackComplete (ue : Bool) (s : State) : Host.Outcome State Fault Refusal :=
  done (match s.mu.wbQ with
    | [] => s
    | i :: t =>
      let s := { s with mu := { s.mu with wbQ := t } }
      (if ue then s.eccBad 0 (slotAddr i) else s.wbEnd i).pump)

/-- DMA_BURST (06 R130, R131): one burst of a channel; `ue` an uncorrectable error in what it reads. -/
def execDmaBurst (ch : Fin 16) (ue : Bool) (s : State) : Host.Outcome State Fault Refusal := done (s.dmaBurst ch.val ue)

end Sys2Proof.Machine
end

