-- ==== Sys2Proof/Machine/PosnCmds.lean ====
section
/-!
DEFINITION. The meanings of the positioning service's commands and events (17).
-/
namespace Sys2Proof.Machine

/-- The positioning service exists and runs. -/
def State.posnOn (s : State) : Bool := s.variant == .g && s.mode != 0

/-- GNSS_EPOCH_SOLUTION (17 R357, R358, R361 to R363). -/
def State.gnssEpoch (s : State) (q : GnssSol) : State :=
  let fix := s.fixOf q
  let hdg := decide (fix ≠ 0) && s.hdgOk q
  let s := (s.setFix fix).setGnssStat q
  let s := (s.setPosn { s.posn with float := false }).setHeading q hdg
  let s := s.observe q.obs
  let s := if 1 ≤ fix then s.timing q else s
  s.measure 1 (solRecord q fix hdg)

/-- GNSS_EPOCH_SOLUTION. -/
def execGnssEpochSolution (sol : GnssSol) (s : State) : Host.Outcome State Fault Refusal :=
  done (if s.posnOn && s.f R.CLOCK_ISL_STAT 9 8 == 0 && decide (sol.dt.toNat ≤ s.dt) then s.gnssEpoch sol else s)

/-- RTCM_FEED, opcode 0x0A01 (17 R359). -/
def execRtcmFeed (c : Cmd) (s : State) : Host.Outcome State Fault Refusal :=
  let len := c.num 12 2
  let ofs := c.num 8 4
  let wrong := (if 0x100000 < ofs + len then [8] else []) ++ (if len = 0 ∨ 4096 < len then [12] else [])
  done (if s.variant = .n then s.refuse c 0x0A01 0x10 0
    else s.runCmd c (CmdSpec.mk' 0x0A01 1 0 (c.badArg [(8, 13)] wrong) false) (fun s =>
      let r := s.rtcmFeed 0 (s.rdBytes (sharedBase + ofs) len)
      r.2.2.ok c (nw r.1) (nw r.2.1)))

/-- RTCM_STREAM_DATA (18 R384). -/
def execRtcmStreamData (src : Fin 5) (data : List Byte) (s : State) : Host.Outcome State Fault Refusal :=
  done (if s.posnOn ∧ src.val ≠ 0 then (s.rtcmFeed src.val data).2.2 else s)

/-- CORR_AGE_EXPIRE (17 R360): CORR_LOST and source 337, once until a new complete epoch. -/
def execCorrAgeExpire (s : State) : Host.Outcome State Fault Refusal :=
  done (if s.posnOn && s.posn.corr.isSome && !s.corrOk && !s.posn.corrLost then
      ((s.setPosn { s.posn with corrLost := true }).fltEv (R.GNSSCTL 0) 0).irq (R.GNSSCTL 0) 1
    else s)

/-- GNSS_MAP_INSTALL (17 R363, R368). -/
def execGnssMapInstall (adt : BitVec 64) (ans : Int) (rate : Word) (s : State) : Host.Outcome State Fault Refusal :=
  done (if s.posnOn && decide (adt.toNat ≤ s.dt) then s.timeInstall adt.toNat ans rate else s)

/-- TIME_PULSE (17 R364). -/
def execTimePulse (pin : Fin 2) (s : State) : Host.Outcome State Fault Refusal := done (s.tpPulse pin.val)

/-- TIME_PULSE_END (17 R364). -/
def execTimePulseEnd (pin : Fin 2) (s : State) : Host.Outcome State Fault Refusal := done (s.tpEnd pin.val)

/-- TP_INFO_PUBLISH (17 R366). -/
def execTpInfoPublish (pin : Fin 2) (s : State) : Host.Outcome State Fault Refusal := done (s.tpPublish pin.val)

/-- Is a loss of timing present (17 R367)? -/
def State.timeLost (s : State) : Bool :=
  s.f R.CLOCK_ISL_STAT 9 8 != 0 ||
    (match s.posn.timing with | some t => decide (t + sDT 2 ≤ s.dt) | none => false)

/-- TIMING_LOSS (17 R367, R370). -/
def execTimingLoss (s : State) : Host.Outcome State Fault Refusal :=
  done (if s.posnOn && s.timeLost && (s.tpSt 0 == 1 || s.tpSt 0 == 2 || s.tpSt 0 == 6) then s.timeLoss else s)

/-- HOLDOVER_EXPIRE (17 R363, R367): each pin by its HOLD_POLICY. -/
def execHoldoverExpire (s : State) : Host.Outcome State Fault Refusal :=
  let st (n : Nat) := if s.b (R.TPULSE_TP_CFG n) 28 then 4 else 5
  done (if s.posnOn && s.tpSt 0 == 3 && decide (s.posn.holdAt + sDT (s.f R.TPULSE_HOLDOVER 15 0) ≤ s.dt) then
      ((s.setTpSt 0 (st 0)).setTpSt 1 (st 1)).wb R.TIME_DT_STAT 3 false
    else s)

/-- TP_STEP (17 R369). -/
def execTpStep (s : State) : Host.Outcome State Fault Refusal := done (if s.posnOn then s.tpStep else s)

end Sys2Proof.Machine
end

