-- ==== Sys2Proof/Machine/HostCmds.lean ====
section
/-!
DEFINITION. The meanings of the host-interface events and of the Porch's descriptor fetch (05 R91 to R104).
-/
namespace Sys2Proof.Machine

/-! ## PCIe -/

/-- PCIE_FLR (05 R95): the link stays as it is. -/
def execPcieFlr (s : State) : Host.Outcome State Fault Refusal :=
  done (if s.answers then
    let link := s.r R.PCIE_LINK_STAT
    s.pcieReset.w R.PCIE_LINK_STAT link
  else s)

/-- PCIE_LINK_DOWN (05 R95, R111). -/
def execPcieLinkDown (s : State) : Host.Outcome State Fault Refusal :=
  done (if s.answers && s.b R.PCIE_LINK_STAT 8 then
    let s := s.pcieReset.flt (R.PCIE 0) 0
    s.setHost { s.host with linkLost := true }
  else s)

/-- PCIE_LINK_UP (05 R95, R111): `speed` is 1 to 3. -/
def execPcieLinkUp (speed : BitVec 4) (s : State) : Host.Outcome State Fault Refusal :=
  done (if s.answers && decide (1 ≤ speed.toNat) && decide (speed.toNat ≤ 3) then
    let s := s.w R.PCIE_LINK_STAT (nw (0x110 + speed.toNat))
    if s.host.linkLost then (s.setHost { s.host with linkLost := false }).irq (R.PCIE 0) 0 else s
  else s)

/-- PCIE_POISONED_REQUEST (05 R91). -/
def execPciePoisonedRequest (s : State) : Host.Outcome State Fault Refusal :=
  done (if s.answers then s.flt (R.PCIE 0) 1 else s)

/-- PCIE_MALFORMED_TLP (05 R92): it touches no byte, and no register shows it. -/
def execPcieMalformedTlp (s : State) : Host.Outcome State Fault Refusal := done s

/-- BAR2_SRAM_ACCESS (05 R92, 21 R456): `data` are the bytes of a write, or as many bytes as a read asks for. A request
that crosses a 4 KB boundary is malformed. A read that finds an uncorrectable error (`ue`) completes poisoned, with free
bytes (06 R115, log 5). -/
def execBar2SramAccess (ofs : BitVec 20) (wr : Bool) (data : List Byte) (be : List Bool) (ue : Bool) (s : State) :
    Host.Outcome State Fault Refusal :=
  done (if !s.answers || crosses4K ofs.toNat data.length then s
  else if wr then s.bar2Write ofs.toNat data be
  else if ue then
    let n := (data.length + 3) / 4
    let w := (List.range n).map (fun i => (Config.freeWord (s.freeCtr + i)).setWidth 32)
    (({ s with freeCtr := s.freeCtr + n }.eccBad 0 (sharedBase + ofs.toNat)).returns w).bar2Done 3
  else (s.returns (paddedWords (s.rdBytes (sharedBase + ofs.toNat) data.length))).bar2Done 0)

/-- BAR2_FIELD_STORE_ACCESS (05 R92, 06 R117, R121). -/
def execBar2FieldStoreAccess (ofs : BitVec 31) (wr : Bool) (len : Nat) (s : State) : Host.Outcome State Fault Refusal :=
  done (if !s.answers || crosses4K ofs.toNat len then s
  else if wr then s.viewWrite ofs.toNat len else s.viewRead ofs.toNat len)

/-- BAR2_RESERVED_ACCESS (05 R92). -/
def execBar2ReservedAccess (wr : Bool) (s : State) : Host.Outcome State Fault Refusal :=
  done (if s.answers then
    let s := s.flt (R.PCIE 0) 2
    if wr then s else s.bar2Done 1
  else s)

/-! ## Quad-SPI -/

/-- HSPI_REG_WRITE_FRAME (05 R93). -/
def execHspiRegWriteFrame (hdr : BitVec 40) (hcrc : BitVec 16) (data : List Word) (dcrc : BitVec 16) (s : State) :
    Host.Outcome State Fault Refusal :=
  done (s.hspiFrame 0x02 hdr hcrc (crc16 0xFFFF#16 (data.flatMap wordBytes) == dcrc) (data.length == hdrCount hdr)
    (fun s => s.regWrites .hspi (hdrAddr hdr) data))

/-- HSPI_REG_READ_FRAME (05 R93). -/
def execHspiRegReadFrame (hdr : BitVec 40) (hcrc : BitVec 16) (s : State) : Host.Outcome State Fault Refusal :=
  done (s.hspiFrame 0x0B hdr hcrc true true (fun s =>
    let x := s.regReads .hspi (hdrAddr hdr) (hdrCount hdr)
    x.2.returns x.1))

/-- HSPI_SRAM_WRITE_FRAME (05 R93). -/
def execHspiSramWriteFrame (hdr : BitVec 40) (hcrc : BitVec 16) (data : List Word) (dcrc : BitVec 16) (s : State) :
    Host.Outcome State Fault Refusal :=
  done (s.hspiFrame 0x12 hdr hcrc (crc16 0xFFFF#16 (data.flatMap wordBytes) == dcrc) (data.length == hdrCount hdr)
    (fun s => s.wrWords (sharedBase + hdrAddr hdr) data))

/-- HSPI_SRAM_READ_FRAME (05 R93). -/
def execHspiSramReadFrame (hdr : BitVec 40) (hcrc : BitVec 16) (s : State) : Host.Outcome State Fault Refusal :=
  done (s.hspiFrame 0x1B hdr hcrc true true (fun s => s.returns (s.rdWords (sharedBase + hdrAddr hdr) (hdrCount hdr))))

/-- HSPI_STATUS_READ (05 R93): the result stays. -/
def execHspiStatusRead (s : State) : Host.Outcome State Fault Refusal :=
  done (if s.hspiUp then s.frame.returns [nw s.host.hspiRes] else s)

/-! ## Ethernet -/

/-- ETH_CONNECT (05 R96): up to two connections on a port that listens. -/
def execEthConnect (port : Fin 2) (s : State) : Host.Outcome State Fault Refusal :=
  let p := port.val
  done (if s.ethListens p then
    match [2 * p, 2 * p + 1].find? (fun k => !(s.conn k).up) with
    | some k => (s.setupRing (2 + p)).setConn k ⟨true, none, false, none⟩
    | none => s
  else s)

/-- ETH_COMMAND_MESSAGE (05 R96, 19 R411): `plain` is a message not protected by type 0x14. -/
def execEthCommandMessage (k : Fin 4) (plain : Bool) (desc : List Byte) (s : State) : Host.Outcome State Fault Refusal :=
  done (s.ethInner k plain (fun s => s.ethCommand k.val desc))

/-- ETH_REGISTER_FRAME (05 R96). -/
def execEthRegisterFrame (k : Fin 4) (plain : Bool) (hdr : BitVec 40) (data : List Word) (s : State) :
    Host.Outcome State Fault Refusal :=
  done (s.ethInner k plain (fun s => s.ethRegFrame k hdr data))

/-- The slot of a connection (19 R409). -/
def connSlot (k : Fin 4) : Fin 6 := ⟨2 + k.val, by omega⟩

/-- ETH_KEY_EXCHANGE (19 R411): type 0x10 is answered with type 0x11, whose ephemeral key and signature are free values (log
5). A role no session can open in now gets type 0x13 with NOT_AUTHORISED (19 R401, R412). -/
def execEthKeyExchange (k : Fin 4) (role : BitVec 8) (s : State) : Host.Outcome State Fault Refusal :=
  let r := role.toNat
  done (if !(s.conn k.val).up then s
  else if (s.conn k.val).estab then s.dropConn k.val
  else if r < 1 ∨ 4 < r ∨ s.ifLocked (2 + k.val) = true ∨ (r = 4 ∧ s.osardOk = false) then s.ethSend k.val 0x13 [0x13]
  else
    let eph := (List.range 49).map (fun i => (Config.freeWord (s.freeCtr + i)).setWidth 32)
    let s := { s with freeCtr := s.freeCtr + 49 }
    let (_, nonce, s) := s.issue (connSlot k) r
    (s.setConn k.val ⟨true, some r, false, none⟩).ethSend k.val 0x11 (eph.take 25 ++ nonce ++ eph.drop 25))

/-- ETH_ROLE_SIGNATURE (19 R410, R411): type 0x12, with the key that verifies it, is answered with type 0x13. -/
def execEthRoleSignature (k : Fin 4) (key : Option (Fin 17)) (s : State) : Host.Outcome State Fault Refusal :=
  let slot := connSlot k
  done (if !(s.conn k.val).up then s
  else if (s.conn k.val).estab then s.dropConn k.val
  else
    match s.sec.chals.reverse.find? (fun x => x.slot == slot && s.fresh x) with
    | some x =>
      let s := s.setSec { s.sec with chals := s.sec.chals.erase x }
      let (st, s) := s.attempt slot x.role (s.keyFits x.role key && (x.role != 4 || s.osardOk))
      if st = 0 then
        (s.setConn k.val ⟨true, some x.role, true, none⟩).ethSend k.val 0x13 [nw (s.slotNum slot.val * 65536)]
      else s.ethSend k.val 0x13 [0x13]
    | none => (s.failSession slot ((s.conn k.val).role.getD 0)).ethSend k.val 0x13 [0x13])

/-- ETH_PROTECTED_MESSAGE (19 R411): a counter that does not rise, or a tag that fails, closes the connection and its session. -/
def execEthProtectedMessage (k : Fin 4) (ctr : Nat) (tagOk : Bool) (inner : EthInner) (s : State) :
    Host.Outcome State Fault Refusal :=
  let x := s.conn k.val
  let fell : Bool := match x.rxCtr with | some c => decide (ctr ≤ c) | none => false
  done (if !x.up then s
  else if !s.connOpen k.val || fell || !tagOk then s.dropConn k.val
  else
    let s := s.setConn k.val { x with rxCtr := some ctr }
    match inner with
    | .command desc => s.ethCommand k.val desc
    | .regFrame hdr data => s.ethRegFrame k hdr data
    | .other => s)

/-- ETH_CONNECTION_LOSS (19 R412). -/
def execEthConnectionLoss (k : Fin 4) (s : State) : Host.Outcome State Fault Refusal :=
  done (if (s.conn k.val).up then s.dropConn k.val else s)

/-! ## The Porch -/

/-- NOP (05 R104): in BOOT too (19 R404). -/
def execNop (c : Cmd) (s : State) : Host.Outcome State Fault Refusal :=
  done (s.runCmd c { CmdSpec.mk' 0x0100 0 0 (c.badArg [] []) false with inBoot := true } (fun s => s.ok c 0 0))

/-- Run a command of the SYS, HOST and raster to metering domains by its opcode; none where no such command is (05 R104). -/
def runLow (op : Nat) (c : Cmd) (s : State) : Option (Host.Outcome State Fault Refusal) :=
  match op with
  | 0x0001 => some (execModeReq c s)
  | 0x0002 => some (execSafeEnter c s)
  | 0x0003 => some (execSafeExit c s)
  | 0x0004 => some (execCellarEnter c s)
  | 0x0005 => some (execReset c s)
  | 0x0006 => some (execWallSet c s)
  | 0x0100 => some (execNop c s)
  | 0x0110 => some (execJobStart c s)
  | 0x0111 => some (execJobSuspend c s)
  | 0x0112 => some (execJobResume c s)
  | 0x0113 => some (execJobCancel c s)
  | 0x0114 => some (execJobQuery c s)
  | 0x0401 => some (execFieldUnload c s)
  | 0x0501 => some (execOutletSwitch c s)
  | 0x0502 => some (execOutletRevert c s)
  | 0x0510 => some (execRateSwitch c s)
  | 0x0511 => some (execTotalsReset c s)
  | 0x0512 => some (execCalMeasure c s)
  | 0x0601 => some (execOutForce c s)
  | 0x0602 => some (execRegionCtrl c s)
  | 0x0603 => some (execChUnlatch c s)
  | 0x0610 => some (execLearnReset c s)
  | _ => none

/-- Run a command of the other domains by its opcode; `key` is the key that verifies a SESSION_OPEN's signature. -/
def runHigh (op : Nat) (c : Cmd) (key : Option (Fin 17)) (s : State) : Option (Host.Outcome State Fault Refusal) :=
  match op with
  | 0x0701 => some (execLoopMode c s)
  | 0x0702 => some (execLoopCoefLoad c s)
  | 0x0901 => some (execDioUnlatch c s)
  | 0x0A01 => some (execRtcmFeed c s)
  | 0x0B01 => some (execCanTx c s)
  | 0x0C01 => some (execSessionChallenge c s)
  | 0x0C02 => some (execSessionOpen c key s)
  | 0x0C03 => some (execSessionClose c s)
  | 0x0C10 => some (execKeyInstall c s)
  | 0x0C11 => some (execKeyRevoke c s)
  | 0x0C12 => some (execKeyExport c s)
  | 0x0C20 => some (execCfgLockSet c s)
  | 0x0C21 => some (execCfgLockClear c s)
  | 0x0C30 => some (execFwActivate c s)
  | 0x0C31 => some (execFwConfirm c s)
  | 0x0C40 => some (execAuditClear c s)
  | 0x0C41 => some (execRmaPermit c s)
  | 0x0C50 => some (execDebugOpen c s)
  | 0x0C51 => some (execDebugClose c s)
  | 0x0D01 => some (execEvrClear c s)
  | _ => none

/-- A descriptor read with an uncorrectable error: it completes with FAULT; its tag and its IRQ flag are free (05 R111, 06
R115). -/
def State.damagedDesc (s : State) (ring idx : Nat) : State :=
  let (x, s) := s.freeBits 17
  let s := s.eccBad 0 (sharedBase + s.f (R.PORCH_CMD_BASE ring) 19 6 * 64 + 64 * idx)
  (s.flt (R.PORCH 0) 1).putRec { ring := ring, tag := x % 65536, status := 0x20, handle := 0, idx := idx, final := true,
                                 job := false, detail := 0, r0 := 0, r1 := 0, irq := decide (65536 ≤ x) }

/-- The descriptor's 64 bytes as a command (05 R100). -/
def descCmd (ring : Fin 4) (idx : Nat) (d : List Byte) : Cmd :=
  { ring := ring, idx := BitVec.ofNat 10 idx, flags := d.getD 2 0, handle := d.getD 3 0,
    tag := BitVec.ofNat 16 (leNat ((d.drop 4).take 2)), sess := BitVec.ofNat 16 (leNat ((d.drop 6).take 2)), args := d.drop 8 }

/-- Commands of a ring that are in progress. -/
def State.busyCmds (s : State) (ring : Nat) : Nat := s.host.inProg.countP (fun p => p.cmd.ring.val == ring)

/-- The command of a descriptor, read at the head of its ring: in progress from here on. -/
def State.runDesc (s : State) (op : Nat) (c : Cmd) (key : Option (Fin 17)) : Host.Outcome State Fault Refusal :=
  let t := s.setHost { s.host with inProg := s.host.inProg ++ [⟨op, c⟩] }
  match runLow op c t with
  | some o => o
  | none =>
    match runHigh op c key t with
    | some o => o
    | none => done (s.reply c 0x10 0 0 0 0)

/-- PORCH_DESCRIPTOR_FETCH (05 R98, R100, R103): the descriptor at CMD_HEAD is read when there is room for its records and
fewer than 8 commands of the ring are in progress; a FENCE waits for every earlier command. -/
def execPorchDescriptorFetch (ring : Fin 4) (ecc : Bool) (key : Option (Fin 17)) (s : State) :
    Host.Outcome State Fault Refusal :=
  let r := ring.val
  let h := s.f (R.PORCH_CMD_HEAD r) 9 0
  if !s.answers || !s.ringEn r || h == s.f (R.PORCH_CMD_TAIL r) 9 0 || s.heldBack r || decide (8 ≤ s.busyCmds r) then done s
  else
    let d := s.rdBytes (sharedBase + s.f (R.PORCH_CMD_BASE r) 19 6 * 64 + 64 * h) 64
    let c := descCmd ring h d
    if ecc then done ((s.wf (R.PORCH_CMD_HEAD r) 9 0 ((h + 1) % s.cmdSize r)).damagedDesc r h)
    else if c.flags.getLsbD 1 && s.busyCmds r != 0 then done s
    else (s.wf (R.PORCH_CMD_HEAD r) 9 0 ((h + 1) % s.cmdSize r)).runDesc (leNat (d.take 2)) c key

end Sys2Proof.Machine
end

