-- ==== Sys2Proof/Machine/Dispatch.lean ====
section
/-!
DEFINITION. One arm per command: each is one direct call of the command's meaning.
-/
namespace Sys2Proof.Machine

def exec (i : Instr) (s : State) : Host.Outcome State Fault Refusal :=
  match i with
  | .regWrite o a be v => Sys2Proof.Machine.execRegWrite o a be v s
  | .unimplOffsetAccess o a wr => Sys2Proof.Machine.execUnimplOffsetAccess o a wr s
  | .gatedAccess o a wr => Sys2Proof.Machine.execGatedAccess o a wr s
  | .configWrite o a v => Sys2Proof.Machine.execConfigWrite o a v s
  | .pgStatBarrierRead o a => Sys2Proof.Machine.execPgStatBarrierRead o a s
  | .pgLockWrite o a v => Sys2Proof.Machine.execPgLockWrite o a v s
  | .pkgFltClear o v => Sys2Proof.Machine.execPkgFltClear o v s
  | .cursorWrite o a v => Sys2Proof.Machine.execCursorWrite o a v s
  | .winWordRead o a => Sys2Proof.Machine.execWinWordRead o a s
  | .winLastWordRead o a => Sys2Proof.Machine.execWinLastWordRead o a s
  | .winWordStage o a v => Sys2Proof.Machine.execWinWordStage o a v s
  | .winRecordWrite o a v => Sys2Proof.Machine.execWinRecordWrite o a v s
  | .routeEntryWrite o src v => Sys2Proof.Machine.execRouteEntryWrite o src v s
  | .vecEoiWrite o v => Sys2Proof.Machine.execVecEoiWrite o v s
  | .msixMaskWrite n m => Sys2Proof.Machine.execMsixMaskWrite n m s
  | .lockstepDisagree pair => Sys2Proof.Machine.execLockstepDisagree pair s
  | .safeWindowsEnd => Sys2Proof.Machine.execSafeWindowsEnd s
  | .frameBoundary => Sys2Proof.Machine.execFrameBoundary s
  | .probeStageStart => Sys2Proof.Machine.execProbeStageStart s
  | .probeWindowEnd => Sys2Proof.Machine.execProbeWindowEnd s
  | .planStageStart => Sys2Proof.Machine.execPlanStageStart s
  | .commitPoint => Sys2Proof.Machine.execCommitPoint s
  | .frameOverrun => Sys2Proof.Machine.execFrameOverrun s
  | .logicHeartbeatSend => Sys2Proof.Machine.execLogicHeartbeatSend s
  | .fieldHeartbeat b t => Sys2Proof.Machine.execFieldHeartbeat b t s
  | .heartbeatMiss b => Sys2Proof.Machine.execHeartbeatMiss b s
  | .fieldHbTimeout b => Sys2Proof.Machine.execFieldHbTimeout b s
  | .fldWdogExpire => Sys2Proof.Machine.execFldWdogExpire s
  | .logicFldHbTimeout b => Sys2Proof.Machine.execLogicFldHbTimeout b s
  | .rfLinkLoss => Sys2Proof.Machine.execRfLinkLoss s
  | .rfLinkReturn gap => Sys2Proof.Machine.execRfLinkReturn gap s
  | .refLost => Sys2Proof.Machine.execRefLost s
  | .refDrift ppm => Sys2Proof.Machine.execRefDrift ppm s
  | .tdcRecalibrate => Sys2Proof.Machine.execTdcRecalibrate s
  | .dtLoRead o => Sys2Proof.Machine.execDtLoRead o s
  | .loCaptureRead o a => Sys2Proof.Machine.execLoCaptureRead o a s
  | .wallErrorEstimate err rate => Sys2Proof.Machine.execWallErrorEstimate err rate s
  | .wallSet c => Sys2Proof.Machine.execWallSet c s
  | .islCtrlWrite o v => Sys2Proof.Machine.execIslCtrlWrite o v s
  | .islandStateReached isl => Sys2Proof.Machine.execIslandStateReached isl s
  | .modeReq c => Sys2Proof.Machine.execModeReq c s
  | .regionSequenceClose => Sys2Proof.Machine.execRegionSequenceClose s
  | .drainOffEdges => Sys2Proof.Machine.execDrainOffEdges s
  | .drainComplete => Sys2Proof.Machine.execDrainComplete s
  | .drainMaxExpire => Sys2Proof.Machine.execDrainMaxExpire s
  | .safeEnter c => Sys2Proof.Machine.execSafeEnter c s
  | .safeExit c => Sys2Proof.Machine.execSafeExit c s
  | .cellarEnter c => Sys2Proof.Machine.execCellarEnter c s
  | .wakeLowDebounced => Sys2Proof.Machine.execWakeLowDebounced s
  | .pwrFailAssert => Sys2Proof.Machine.execPwrFailAssert s
  | .pfGraceExpire => Sys2Proof.Machine.execPfGraceExpire s
  | .pwrFailRelease => Sys2Proof.Machine.execPwrFailRelease s
  | .railOutOfRange rail above act => Sys2Proof.Machine.execRailOutOfRange rail above act s
  | .dieTempSample die t => Sys2Proof.Machine.execDieTempSample die t s
  | .dieOvertemp die => Sys2Proof.Machine.execDieOvertemp die s
  | .powerOnReset => Sys2Proof.Machine.execPowerOnReset s
  | .mainRailLoss ticks => Sys2Proof.Machine.execMainRailLoss ticks s
  | .resetPin => Sys2Proof.Machine.execResetPin s
  | .reset c => Sys2Proof.Machine.execReset c s
  | .wdogReset pair => Sys2Proof.Machine.execWdogReset pair s
  | .bootPowerRelease => Sys2Proof.Machine.execBootPowerRelease s
  | .bootPllLock => Sys2Proof.Machine.execBootPllLock s
  | .bootHostReady => Sys2Proof.Machine.execBootHostReady s
  | .bootImageVerify a b mb => Sys2Proof.Machine.execBootImageVerify a b mb s
  | .bootDramTrained fitted => Sys2Proof.Machine.execBootDramTrained fitted s
  | .dramInitFillDone => Sys2Proof.Machine.execDramInitFillDone s
  | .bootFieldRelease vddOk fb0 fb1 => Sys2Proof.Machine.execBootFieldRelease vddOk fb0 fb1 s
  | .bootConfigLoad bad newestStored => Sys2Proof.Machine.execBootConfigLoad bad newestStored s
  | .bootAtticOpen torn => Sys2Proof.Machine.execBootAtticOpen torn s
  | .bootComplete ms => Sys2Proof.Machine.execBootComplete ms s
  | .cellarScrub corr bad => Sys2Proof.Machine.execCellarScrub corr bad s
  | .dramHoldExpire => Sys2Proof.Machine.execDramHoldExpire s
  | .wakeHighDebounced stay => Sys2Proof.Machine.execWakeHighDebounced stay s
  | .canWake stay => Sys2Proof.Machine.execCanWake stay s
  | .wakeTimerExpire stay => Sys2Proof.Machine.execWakeTimerExpire stay s
  | .mainRailsReturn stay => Sys2Proof.Machine.execMainRailsReturn stay s
  | .optCheckpoint => Sys2Proof.Machine.execOptCheckpoint s
  | .pcieFlr => Sys2Proof.Machine.execPcieFlr s
  | .pcieLinkDown => Sys2Proof.Machine.execPcieLinkDown s
  | .pcieLinkUp speed => Sys2Proof.Machine.execPcieLinkUp speed s
  | .pciePoisonedRequest => Sys2Proof.Machine.execPciePoisonedRequest s
  | .pcieMalformedTlp => Sys2Proof.Machine.execPcieMalformedTlp s
  | .bar2SramAccess ofs wr data be ue => Sys2Proof.Machine.execBar2SramAccess ofs wr data be ue s
  | .bar2FieldStoreAccess ofs wr len => Sys2Proof.Machine.execBar2FieldStoreAccess ofs wr len s
  | .bar2ReservedAccess wr => Sys2Proof.Machine.execBar2ReservedAccess wr s
  | .hspiRegWriteFrame hdr hcrc data dcrc => Sys2Proof.Machine.execHspiRegWriteFrame hdr hcrc data dcrc s
  | .hspiRegReadFrame hdr hcrc => Sys2Proof.Machine.execHspiRegReadFrame hdr hcrc s
  | .hspiSramWriteFrame hdr hcrc data dcrc => Sys2Proof.Machine.execHspiSramWriteFrame hdr hcrc data dcrc s
  | .hspiSramReadFrame hdr hcrc => Sys2Proof.Machine.execHspiSramReadFrame hdr hcrc s
  | .hspiStatusRead => Sys2Proof.Machine.execHspiStatusRead s
  | .ethConnect port => Sys2Proof.Machine.execEthConnect port s
  | .ethCommandMessage k plain desc => Sys2Proof.Machine.execEthCommandMessage k plain desc s
  | .ethRegisterFrame k plain hdr data => Sys2Proof.Machine.execEthRegisterFrame k plain hdr data s
  | .ethKeyExchange k role => Sys2Proof.Machine.execEthKeyExchange k role s
  | .ethRoleSignature k key => Sys2Proof.Machine.execEthRoleSignature k key s
  | .ethProtectedMessage k ctr tagOk inner => Sys2Proof.Machine.execEthProtectedMessage k ctr tagOk inner s
  | .ethConnectionLoss k => Sys2Proof.Machine.execEthConnectionLoss k s
  | .ringCtrlWrite o ring v => Sys2Proof.Machine.execRingCtrlWrite o ring v s
  | .cmdTailDoorbell o ring v => Sys2Proof.Machine.execCmdTailDoorbell o ring v s
  | .cplHeadWrite o ring v => Sys2Proof.Machine.execCplHeadWrite o ring v s
  | .porchDescriptorFetch ring ecc key => Sys2Proof.Machine.execPorchDescriptorFetch ring ecc key s
  | .nop c => Sys2Proof.Machine.execNop c s
  | .jobStart c => Sys2Proof.Machine.execJobStart c s
  | .jobSuspend c => Sys2Proof.Machine.execJobSuspend c s
  | .jobResume c => Sys2Proof.Machine.execJobResume c s
  | .jobCancel c => Sys2Proof.Machine.execJobCancel c s
  | .jobQuery c => Sys2Proof.Machine.execJobQuery c s
  | .jobDispatch => Sys2Proof.Machine.execJobDispatch s
  | .jobSafePoint slot => Sys2Proof.Machine.execJobSafePoint slot s
  | .jobWorkComplete slot => Sys2Proof.Machine.execJobWorkComplete slot s
  | .jobError slot detail => Sys2Proof.Machine.execJobError slot detail s
  | .jobDmaFaultTimeout slot => Sys2Proof.Machine.execJobDmaFaultTimeout slot s
  | .sramPatrolScrub corr ue => Sys2Proof.Machine.execSramPatrolScrub corr ue s
  | .lpddrPatrolScrub corr ue => Sys2Proof.Machine.execLpddrPatrolScrub corr ue s
  | .xspiTimeout => Sys2Proof.Machine.execXspiTimeout s
  | .xlateInvalidate o v => Sys2Proof.Machine.execXlateInvalidate o v s
  | .pantryFillComplete bad => Sys2Proof.Machine.execPantryFillComplete bad s
  | .dirtyAgeExpire slot => Sys2Proof.Machine.execDirtyAgeExpire slot s
  | .pantryWritebackComplete ue => Sys2Proof.Machine.execPantryWritebackComplete ue s
  | .dmaStart o ch => Sys2Proof.Machine.execDmaStart o ch s
  | .dmaStop o ch => Sys2Proof.Machine.execDmaStop o ch s
  | .dmaResume o ch => Sys2Proof.Machine.execDmaResume o ch s
  | .dmaDescPtrWrite o ch v => Sys2Proof.Machine.execDmaDescPtrWrite o ch v s
  | .dmaBurst ch ue => Sys2Proof.Machine.execDmaBurst ch ue s
  | .xfaultLogClear o => Sys2Proof.Machine.execXfaultLogClear o s
  | .hostPoseSubmit o v => Sys2Proof.Machine.execHostPoseSubmit o v s
  | .hostPoseFuse => Sys2Proof.Machine.execHostPoseFuse s
  | .lastPoseRead o => Sys2Proof.Machine.execLastPoseRead o s
  | .poseMeasurementFuse src rec => Sys2Proof.Machine.execPoseMeasurementFuse src rec s
  | .poseStale => Sys2Proof.Machine.execPoseStale s
  | .drMaxExpire => Sys2Proof.Machine.execDrMaxExpire s
  | .n2kPoseMeasurement bus sof part => Sys2Proof.Machine.execN2kPoseMeasurement bus sof part s
  | .n2kGnssDataTimeout => Sys2Proof.Machine.execN2kGnssDataTimeout s
  | .imuDrdySample edge data => Sys2Proof.Machine.execImuDrdySample edge data s
  | .imuLost => Sys2Proof.Machine.execImuLost s
  | .imuStationaryDetect => Sys2Proof.Machine.execImuStationaryDetect s
  | .hitchEstimateTick => Sys2Proof.Machine.execHitchEstimateTick s
  | .hitchSensedRestart => Sys2Proof.Machine.execHitchSensedRestart s
  | .hitchDisagree hitch => Sys2Proof.Machine.execHitchDisagree hitch s
  | .poseHistoryEntry => Sys2Proof.Machine.execPoseHistoryEntry s
  | .historyInvalidEntry => Sys2Proof.Machine.execHistoryInvalidEntry s
  | .cyclicIndex => Sys2Proof.Machine.execCyclicIndex s
  | .fieldLoadTileCopy sigOk => Sys2Proof.Machine.execFieldLoadTileCopy sigOk s
  | .fieldLoadDrainEnd => Sys2Proof.Machine.execFieldLoadDrainEnd s
  | .fieldSwap => Sys2Proof.Machine.execFieldSwap s
  | .fieldUnload c => Sys2Proof.Machine.execFieldUnload c s
  | .rasterBuildRow => Sys2Proof.Machine.execRasterBuildRow s
  | .coverageExportTile slot => Sys2Proof.Machine.execCoverageExportTile slot s
  | .outletSwitch c => Sys2Proof.Machine.execOutletSwitch c s
  | .outletRevert c => Sys2Proof.Machine.execOutletRevert c s
  | .edgeLanding id => Sys2Proof.Machine.execEdgeLanding id s
  | .localEdgeExecute id => Sys2Proof.Machine.execLocalEdgeExecute id s
  | .boostEdgeExecute id vbst => Sys2Proof.Machine.execBoostEdgeExecute id vbst s
  | .motorEdgeExecute id => Sys2Proof.Machine.execMotorEdgeExecute id s
  | .dioEdgeExecute id => Sys2Proof.Machine.execDioEdgeExecute id s
  | .remoteDispatch id => Sys2Proof.Machine.execRemoteDispatch id s
  | .remoteReport path addr sof data => Sys2Proof.Machine.execRemoteReport path addr sof data s
  | .reportTimeout id => Sys2Proof.Machine.execReportTimeout id s
  | .delayedConfirmation id => Sys2Proof.Machine.execDelayedConfirmation id s
  | .retireSegmentForm id => Sys2Proof.Machine.execRetireSegmentForm id s
  | .retireWrite => Sys2Proof.Machine.execRetireWrite s
  | .tcSectionCommand bus sof cmds => Sys2Proof.Machine.execTcSectionCommand bus sof cmds s
  | .tcServerLost => Sys2Proof.Machine.execTcServerLost s
  | .commitCounterClear o => Sys2Proof.Machine.execCommitCounterClear o s
  | .retireLostClear o => Sys2Proof.Machine.execRetireLostClear o s
  | .rateSwitch c => Sys2Proof.Machine.execRateSwitch c s
  | .totalsReset c => Sys2Proof.Machine.execTotalsReset c s
  | .calMeasure c => Sys2Proof.Machine.execCalMeasure c s
  | .calStepEnd measure unstable => Sys2Proof.Machine.execCalStepEnd measure unstable s
  | .calWaitExpire => Sys2Proof.Machine.execCalWaitExpire s
  | .calApply => Sys2Proof.Machine.execCalApply s
  | .totalsCheckpoint => Sys2Proof.Machine.execTotalsCheckpoint s
  | .flowMeterLost p => Sys2Proof.Machine.execFlowMeterLost p s
  | .pullinPeakReached ch => Sys2Proof.Machine.execPullinPeakReached ch s
  | .pullinEnd ch => Sys2Proof.Machine.execPullinEnd ch s
  | .weakPullin ch => Sys2Proof.Machine.execWeakPullin ch s
  | .staggerMaxExpire ch => Sys2Proof.Machine.execStaggerMaxExpire ch s
  | .decayCurrentLow ch => Sys2Proof.Machine.execDecayCurrentLow ch s
  | .outletOvercurrent ch => Sys2Proof.Machine.execOutletOvercurrent ch s
  | .outletRetryExpire ch => Sys2Proof.Machine.execOutletRetryExpire ch s
  | .retryCountReset ch => Sys2Proof.Machine.execRetryCountReset ch s
  | .pwmNozzlePulseStart ch => Sys2Proof.Machine.execPwmNozzlePulseStart ch s
  | .pwmNozzlePulseDecay ch => Sys2Proof.Machine.execPwmNozzlePulseDecay ch s
  | .regionFieldLive reg v => Sys2Proof.Machine.execRegionFieldLive reg v s
  | .regionCloseTimeout reg => Sys2Proof.Machine.execRegionCloseTimeout reg s
  | .regionSwitchStuck reg v => Sys2Proof.Machine.execRegionSwitchStuck reg v s
  | .regionLockoutEntry reg v => Sys2Proof.Machine.execRegionLockoutEntry reg v s
  | .regionRecover reg v => Sys2Proof.Machine.execRegionRecover reg v s
  | .regionSagThreshold reg v => Sys2Proof.Machine.execRegionSagThreshold reg v s
  | .regionThermalEstimate reg v cur => Sys2Proof.Machine.execRegionThermalEstimate reg v cur s
  | .openOnCheck ch cur => Sys2Proof.Machine.execOpenOnCheck ch cur s
  | .offstateTest ch up down => Sys2Proof.Machine.execOffstateTest ch up down s
  | .crossSuspect ch => Sys2Proof.Machine.execCrossSuspect ch s
  | .clusterOvertemp cl t => Sys2Proof.Machine.execClusterOvertemp cl t s
  | .clusterTempRecover cl t => Sys2Proof.Machine.execClusterTempRecover cl t s
  | .boostPeakReached b => Sys2Proof.Machine.execBoostPeakReached b s
  | .boostTpkMax b => Sys2Proof.Machine.execBoostTpkMax b s
  | .boostShotEnd b => Sys2Proof.Machine.execBoostShotEnd b s
  | .boostCurrentLow b => Sys2Proof.Machine.execBoostCurrentLow b s
  | .boostWaitStart b vbst => Sys2Proof.Machine.execBoostWaitStart b vbst s
  | .boostDeferExpire b => Sys2Proof.Machine.execBoostDeferExpire b s
  | .boostOvercurrent b => Sys2Proof.Machine.execBoostOvercurrent b s
  | .vbstOvervoltage v => Sys2Proof.Machine.execVbstOvervoltage v s
  | .vbstLow v => Sys2Proof.Machine.execVbstLow v s
  | .outForce c => Sys2Proof.Machine.execOutForce c s
  | .outForcePulseEnd u => Sys2Proof.Machine.execOutForcePulseEnd u s
  | .regionCtrl c => Sys2Proof.Machine.execRegionCtrl c s
  | .chUnlatch c => Sys2Proof.Machine.execChUnlatch c s
  | .selftestChannelDone closes v flt res ind => Sys2Proof.Machine.execSelftestChannelDone closes v flt res ind s
  | .openingResult ch t chop fall => Sys2Proof.Machine.execOpeningResult ch t chop fall s
  | .openingWindowTimeout ch => Sys2Proof.Machine.execOpeningWindowTimeout ch s
  | .closingSpanStart ch => Sys2Proof.Machine.execClosingSpanStart ch s
  | .closingKinkResult ch t peak => Sys2Proof.Machine.execClosingKinkResult ch t peak s
  | .closingSpanEnd ch => Sys2Proof.Machine.execClosingSpanEnd ch s
  | .motionResultLanding bridge => Sys2Proof.Machine.execMotionResultLanding bridge s
  | .learnReset c => Sys2Proof.Machine.execLearnReset c s
  | .sweepOutletDone closes v fault on off => Sys2Proof.Machine.execSweepOutletDone closes v fault on off s
  | .loopSample loop => Sys2Proof.Machine.execLoopSample loop s
  | .loopEvaluation ue => Sys2Proof.Machine.execLoopEvaluation ue s
  | .loopHoldClear loop => Sys2Proof.Machine.execLoopHoldClear loop s
  | .loopMode c => Sys2Proof.Machine.execLoopMode c s
  | .loopCoefLoad c => Sys2Proof.Machine.execLoopCoefLoad c s
  | .traceArm o => Sys2Proof.Machine.execTraceArm o s
  | .traceForce o => Sys2Proof.Machine.execTraceForce o s
  | .traceStop o => Sys2Proof.Machine.execTraceStop o s
  | .pwmZero cl => Sys2Proof.Machine.execPwmZero cl s
  | .pwmPeriodEvent cl => Sys2Proof.Machine.execPwmPeriodEvent cl s
  | .pwmCompare ch => Sys2Proof.Machine.execPwmCompare ch s
  | .deadTimeEnd ch => Sys2Proof.Machine.execDeadTimeEnd ch s
  | .clArmWrite o cl v => Sys2Proof.Machine.execClArmWrite o cl v s
  | .ownedWrite o a v => Sys2Proof.Machine.execOwnedWrite o a v s
  | .delayLineCalibrate taps => Sys2Proof.Machine.execDelayLineCalibrate taps s
  | .pwmSyncPulse cl => Sys2Proof.Machine.execPwmSyncPulse cl s
  | .pwmSyncLoss cl => Sys2Proof.Machine.execPwmSyncLoss cl s
  | .pwmSynciEdge t => Sys2Proof.Machine.execPwmSynciEdge t s
  | .tripPinEdge t dt active => Sys2Proof.Machine.execTripPinEdge t dt active s
  | .tripActivate t => Sys2Proof.Machine.execTripActivate t s
  | .tripBlankEdge t => Sys2Proof.Machine.execTripBlankEdge t s
  | .tripClr o v => Sys2Proof.Machine.execTripClr o v s
  | .tripInputInactive t => Sys2Proof.Machine.execTripInputInactive t s
  | .dioInputChange pin level t => Sys2Proof.Machine.execDioInputChange pin level t s
  | .dioConductionChange pin => Sys2Proof.Machine.execDioConductionChange pin s
  | .dioShort pin => Sys2Proof.Machine.execDioShort pin s
  | .dioRetryExpire pin => Sys2Proof.Machine.execDioRetryExpire pin s
  | .dioUnlatch c => Sys2Proof.Machine.execDioUnlatch c s
  | .dioExtVoltage pin => Sys2Proof.Machine.execDioExtVoltage pin s
  | .dioOpen pin ma => Sys2Proof.Machine.execDioOpen pin ma s
  | .vioLow g vio => Sys2Proof.Machine.execVioLow g vio s
  | .vioOk g vio => Sys2Proof.Machine.execVioOk g vio s
  | .vioStaggerOn g => Sys2Proof.Machine.execVioStaggerOn g s
  | .ainConversion n code => Sys2Proof.Machine.execAinConversion n code s
  | .ainOverload n => Sys2Proof.Machine.execAinOverload n s
  | .ainBurdenReconnect n => Sys2Proof.Machine.execAinBurdenReconnect n s
  | .finRisingEdge n t => Sys2Proof.Machine.execFinRisingEdge n t s
  | .finGateEnd n => Sys2Proof.Machine.execFinGateEnd n s
  | .finTimeout n => Sys2Proof.Machine.execFinTimeout n s
  | .quadCount pair up => Sys2Proof.Machine.execQuadCount pair up s
  | .antOpen a cur => Sys2Proof.Machine.execAntOpen a cur s
  | .antShort a cur => Sys2Proof.Machine.execAntShort a cur s
  | .antBiasRetry a => Sys2Proof.Machine.execAntBiasRetry a s
  | .gchStart o ch => Sys2Proof.Machine.execGchStart o ch s
  | .gchStop o ch => Sys2Proof.Machine.execGchStop o ch s
  | .gchUpdate o ch => Sys2Proof.Machine.execGchUpdate o ch s
  | .gchStartDtReached ch => Sys2Proof.Machine.execGchStartDtReached ch s
  | .gchIntervalEnd ch acc ue => Sys2Proof.Machine.execGchIntervalEnd ch acc ue s
  | .gchDumpRead o ch => Sys2Proof.Machine.execGchDumpRead o ch s
  | .clOwnWrite o page v => Sys2Proof.Machine.execClOwnWrite o page v s
  | .searchCaptureStart x => Sys2Proof.Machine.execSearchCaptureStart x s
  | .searchCaptureDone x => Sys2Proof.Machine.execSearchCaptureDone x s
  | .searchCellDone x found ue => Sys2Proof.Machine.execSearchCellDone x found ue s
  | .searchChainFail x => Sys2Proof.Machine.execSearchChainFail x s
  | .gnssEpochSolution sol => Sys2Proof.Machine.execGnssEpochSolution sol s
  | .rtcmFeed c => Sys2Proof.Machine.execRtcmFeed c s
  | .rtcmStreamData src data => Sys2Proof.Machine.execRtcmStreamData src data s
  | .corrAgeExpire => Sys2Proof.Machine.execCorrAgeExpire s
  | .gnssMapInstall adt ans rate => Sys2Proof.Machine.execGnssMapInstall adt ans rate s
  | .timePulse pin => Sys2Proof.Machine.execTimePulse pin s
  | .tpInfoPublish pin => Sys2Proof.Machine.execTpInfoPublish pin s
  | .tpInfoRead o pin => Sys2Proof.Machine.execTpInfoRead o pin s
  | .timingLoss => Sys2Proof.Machine.execTimingLoss s
  | .holdoverExpire => Sys2Proof.Machine.execHoldoverExpire s
  | .tpStep => Sys2Proof.Machine.execTpStep s
  | .canFrameRx bus id dlc data sof tec rec_ => Sys2Proof.Machine.execCanFrameRx bus id dlc data sof tec rec_ s
  | .canTx c => Sys2Proof.Machine.execCanTx c s
  | .canFrameSent bus tec rec_ => Sys2Proof.Machine.execCanFrameSent bus tec rec_ s
  | .canBusOff bus tec rec_ => Sys2Proof.Machine.execCanBusOff bus tec rec_ s
  | .canBusOffRecovery bus => Sys2Proof.Machine.execCanBusOffRecovery bus s
  | .addressClaim bus addr => Sys2Proof.Machine.execAddressClaim bus addr s
  | .addressLost bus => Sys2Proof.Machine.execAddressLost bus s
  | .ethFrameRx port fr => Sys2Proof.Machine.execEthFrameRx port fr s
  | .ptpSync port ns us => Sys2Proof.Machine.execPtpSync port ns us s
  | .ptpSyncLoss port => Sys2Proof.Machine.execPtpSyncLoss port s
  | .beaconSend => Sys2Proof.Machine.execBeaconSend s
  | .hxFrameRx port hdr pay crc t => Sys2Proof.Machine.execHxFrameRx port hdr pay crc t s
  | .nodeAbsent node => Sys2Proof.Machine.execNodeAbsent node s
  | .masterClaim => Sys2Proof.Machine.execMasterClaim s
  | .systPublish => Sys2Proof.Machine.execSystPublish s
  | .sessionChallenge c => Sys2Proof.Machine.execSessionChallenge c s
  | .sessionOpen c key => Sys2Proof.Machine.execSessionOpen c key s
  | .sessionClose c => Sys2Proof.Machine.execSessionClose c s
  | .sessionIdleTimeout slot => Sys2Proof.Machine.execSessionIdleTimeout slot s
  | .challengeExpire id => Sys2Proof.Machine.execChallengeExpire id s
  | .interfaceLockoutExpire slot => Sys2Proof.Machine.execInterfaceLockoutExpire slot s
  | .keyInstall c => Sys2Proof.Machine.execKeyInstall c s
  | .keyRevoke c => Sys2Proof.Machine.execKeyRevoke c s
  | .keyExport c => Sys2Proof.Machine.execKeyExport c s
  | .cfgLockSet c => Sys2Proof.Machine.execCfgLockSet c s
  | .cfgLockClear c => Sys2Proof.Machine.execCfgLockClear c s
  | .fwStageBlock img r verified => Sys2Proof.Machine.execFwStageBlock img r verified s
  | .fwActivate c => Sys2Proof.Machine.execFwActivate c s
  | .fwConfirm c => Sys2Proof.Machine.execFwConfirm c s
  | .trialTimeout => Sys2Proof.Machine.execTrialTimeout s
  | .auditClear c => Sys2Proof.Machine.execAuditClear c s
  | .rmaPermit c => Sys2Proof.Machine.execRmaPermit c s
  | .debugOpen c => Sys2Proof.Machine.execDebugOpen c s
  | .debugClose c => Sys2Proof.Machine.execDebugClose c s
  | .eventRecordWrite ecc => Sys2Proof.Machine.execEventRecordWrite ecc s
  | .evrClear c => Sys2Proof.Machine.execEvrClear c s
  | .archiveBlock => Sys2Proof.Machine.execArchiveBlock s
  | .lifeStatsSave ue => Sys2Proof.Machine.execLifeStatsSave ue s
  | .lifeSecondTick => Sys2Proof.Machine.execLifeSecondTick s
  | .railInRange rail => Sys2Proof.Machine.execRailInRange rail s
  | .vbstRecover v => Sys2Proof.Machine.execVbstRecover v s
  | .dioRetryCountReset pin => Sys2Proof.Machine.execDioRetryCountReset pin s
  | .antOpenClear a cur => Sys2Proof.Machine.execAntOpenClear a cur s
  | .tripBlankEnd t => Sys2Proof.Machine.execTripBlankEnd t s
  | .remoteSpeedPeriod id => Sys2Proof.Machine.execRemoteSpeedPeriod id s
  | .ethLinkChange port speed => Sys2Proof.Machine.execEthLinkChange port speed s
  | .quadInvalidExpire pair => Sys2Proof.Machine.execQuadInvalidExpire pair s
  | .timePulseEnd pin => Sys2Proof.Machine.execTimePulseEnd pin s

end Sys2Proof.Machine
end

