-- ==== Sys2Proof/Machine/Tick.lean ====
section
/-!
DEFINITION. The passing of time while no command waits (02 R28, 04 R88; log 1).
-/
namespace Sys2Proof.Machine

/-- Base ticks of 10 ns in 1/256 s of operating time. -/
def ticksPer256th : Nat := 390625

/-- One base tick: DT advances by 256 while it runs, and wraps at 2^64; operating time advances outside CELLAR. -/
def State.tick (s : State) : State :=
  let acc := s.pkg.opAcc + 1
  let s := if s.pkg.dtRun then { s with dt := (s.dt + 256) % 2 ^ 64 } else s
  if s.pkg.cellar then s
  else if acc < ticksPer256th then { s with pkg := { s.pkg with opAcc := acc } }
  else { s with pkg := { s.pkg with opAcc := 0, opTicks := s.pkg.opTicks + 1 } }

/-- The step on an empty queue. -/
def idle (s : State) : Host.Outcome State Fault Refusal := done s.tick

end Sys2Proof.Machine
end

