-- ==== Sys2Proof/Safety.lean ====
section
/-!
DEFINITION. What a claim calls safe: the canonical forms of the sparse storage, and the settled interrupt vectors.
-/
namespace Sys2Proof.Machine

/-- Memory is in its canonical form. -/
abbrev Memory.wf (m : SMap Byte) : Prop := SMap.wf memDefault m = true

/-- The registers are in their canonical form. -/
abbrev State.regsWf (s : State) : Prop := SMap.wf (regDefault s.variant) s.regs = true

/-- No message is due: every vector whose level is 1 and which is armed is masked, with its pending bit set (03 R65, 05 R94). -/
def State.settled (s : State) : Prop :=
  ∀ n, n < 32 → bit s.vecStat n = true → s.b (R.IRQROUTE_VEC_ARMED 0) n = true →
    s.vecMasked n = true ∧ s.b R.PCIE_MSIX_PBA n = true

/-- A command answers a next state, and it is the settled form of `t`: `t` with every message that is due sent. -/
def Runs (i : Instr) (s t : State) : Prop := exec i s = .next (settle t)

/-- A Porch command passes every check of 05 R103, outside CELLAR. -/
abbrev Accepts (s : State) (c : Cmd) (k : CmdSpec) : Prop :=
  s.pkg.cellar = false ∧ (s.touchCmd c).porchFails c k = none

/-- The state an accepted command acts on: its session kept alive and, where it is audited, its record committed with a
completion status and RESULT words (19 R412, R417). -/
def State.audited (s : State) (c : Cmd) (k : CmdSpec) (status : Nat) (r0 r1 : Word) : State :=
  if k.aud = 0 then s.touchCmd c else (s.touchCmd c).audit ((s.touchCmd c).cmdAudit c k.opcode status 0 r0 r1)

/-- The same with status OK. -/
def State.acceptedBy (s : State) (c : Cmd) (k : CmdSpec) : State := s.audited c k 0x00 0 0

/-- A whole-word access at offset `a` reaches a register: interfaces answer, and the offset is neither unimplemented nor
gated (02 R38, 03 R58, 05 R93). -/
def State.reaches (s : State) (a : Nat) : Bool :=
  s.answers && decide (a % 4 = 0) && (match s.target a with | .reg _ => true | _ => false)

/-- The reserved bits of the register at an offset (03 R57). -/
def reservedAt (a : Nat) : Word :=
  match regInfo a with
  | some i => reservedBits i.fields
  | none => 0

/-- A write of `v` at offset `a` reaches its register and sets no reserved bit. -/
abbrev State.takes (s : State) (a : Nat) (v : Word) : Prop := s.reaches a = true ∧ (v &&& reservedAt a) = 0

/-- What a configuration write refused for `reason` at offset `a` shows of itself in the next state (03 R55): CFG_REFUSED, the
event record where the queue has room for it, COUNT, and the capture of the first refusal. -/
def State.refusedTo (s t : State) (o : Origin) (a reason : Nat) : Prop :=
  t.fltB (R.PKG 0) 3 = true ∧
  (s.attic.fifo.length < 32 →
    ∃ ev, t.attic.fifo = s.attic.fifo ++ [ev] ∧ fld (nth ev 0) 27 24 = 0 ∧ fld (nth ev 0) 15 0 = 0xC004 ∧
      nth ev 5 = BitVec.ofNat 32 (reason * 2 ^ 28 + a)) ∧
  (s.fltB (R.PKG 0) 3 = false → t.r R.PKG_REFUSED_ADDR = BitVec.ofNat 32 (o.code * 2 ^ 24 + a) ∧
    t.f R.PKG_REFUSED_INFO 31 16 = 1 ∧ t.f R.PKG_REFUSED_INFO 3 0 = reason) ∧
  (s.fltB (R.PKG 0) 3 = true → t.r R.PKG_REFUSED_ADDR = s.r R.PKG_REFUSED_ADDR ∧
    t.f R.PKG_REFUSED_INFO 31 16 = min (s.f R.PKG_REFUSED_INFO 31 16 + 1) 0xFFFF ∧
    t.f R.PKG_REFUSED_INFO 15 0 = s.f R.PKG_REFUSED_INFO 15 0)

/-- A quad-SPI frame of opcode `op` is answered: the slave is up, and its header passes its CRC and is well formed (05 R93). -/
def State.hspiFine (s : State) (op : Nat) (h : BitVec 40) (hcrc : BitVec 16) : Bool :=
  s.hspiUp && crc16 0xFFFF#16 (hdrBytes h) == hcrc && hdrByte h 0 == op && hdrOk h (op == 0x12 || op == 0x1B)

end Sys2Proof.Machine
end

