-- ==== Sys2Proof/Certificates/Slice0/Obligations.lean ====
section
/-!
DEFINITION. The statements for the provers: the block as a whole, the rules of accesses and of the host interfaces, and for
every command where it completes and with what state.
-/
open Sys2Proof Sys2Proof.Machine

/-! ## The block as a whole -/

/-- A step runs the command at the front of the queue, on the state with the queue's rest. -/
def Obligations.StepRunsFront : Prop :=
  ∀ (c : Instr) (rest : List Instr) (s : State), s.pending = c :: rest → step s = exec c { s with pending := rest }

/-- With no command waiting a base tick of 10 ns passes: DT advances by 256 while it runs (02 R28), and nothing else that a
register or memory shows changes. That time passes on an empty queue is the model's choice (log 1). -/
def Obligations.IdleTick : Prop :=
  ∀ s : State, s.pending = [] →
    ∃ t, step s = .next t ∧ t.dt = (if s.pkg.dtRun then (s.dt + 256) % 2 ^ 64 else s.dt) ∧ t.pending = [] ∧ t.mem = s.mem ∧
      t.jobs = s.jobs ∧ t.look = s.look ∧
      ∀ k, k ≠ R.IRQROUTE_VEC_ARMED 0 → k ≠ R.PCIE_MSIX_PBA → t.r k = s.r k

/-- What reset leaves: DT 0 and not yet running, mode BOOT, every page header at its stated reset values, every vector armed,
no message due, the storage in canonical form, no command waiting. -/
def Obligations.ResetHolds : Prop :=
  State.reset.dt = 0 ∧ State.reset.pkg.dtRun = false ∧ State.reset.mode = 0 ∧
  State.reset.r (R.IRQROUTE_VEC_ARMED 0) = 0xFFFFFFFF#32 ∧
  (∀ p ∈ pageTable, ∀ k < p.count,
    let b := p.domain * 0x100000 + (p.first + k) * 0x1000
    State.reset.r (b + 0x008) = 0x10000#32 ∧ State.reset.r (b + 0x010) = 0 ∧ State.reset.r (b + 0x014) = 0 ∧
    State.reset.r (b + 0x020) = 0 ∧ State.reset.r (b + 0x024) = BitVec.ofNat 32 p.fltMask ∧ State.reset.r (b + 0x028) = 0 ∧
    State.reset.r (b + 0x02C) = 0) ∧
  (∀ src < 512, State.reset.r (routeOfs src) = 0) ∧
  State.reset.settled ∧ Memory.wf State.reset.mem ∧ State.reset.regsWf ∧ State.reset.pending = []

/-- No command stops the block: in every state, whatever its operands, it answers a next state, in which every message that
is due has been sent. -/
def Obligations.EveryCommandCompletes : Prop :=
  ∀ (i : Instr) (s : State), ∃ t, Runs i s t

/-- After every step, of a command or of a tick, no interrupt message is due: a vector whose level is 1 and which is still
armed is masked, and its pending bit is set (03 R65). -/
def Obligations.StepSettled : Prop :=
  ∀ s t : State, step s = .next t → t.settled

/-! ## Rules of register accesses and interrupts (02, 03) -/

/-- MSI-X vector `n` after any command or tick: level 1 and armed, it is disarmed and one message is issued; masked, it stays
armed with its pending bit set and no message; else nothing happens to it. A write of 1 to VEC_EOI bit `n` arms it, and while its
level is 1 and it is not masked one message follows. -/
def Obligations.MsixMessages : Prop :=
  (∀ (i : Instr) (s : State), ∃ u, exec i s = .next (settle u) ∧
    ∀ n < 32,
      let t := settle u
      let due := bit u.vecStat n && u.b (R.IRQROUTE_VEC_ARMED 0) n
      (due = true → u.vecMasked n = false →
        t.b (R.IRQROUTE_VEC_ARMED 0) n = false ∧ t.host.msix.count n = u.host.msix.count n + 1) ∧
      (due = true → u.vecMasked n = true →
        t.b (R.IRQROUTE_VEC_ARMED 0) n = true ∧ t.b R.PCIE_MSIX_PBA n = true ∧
          t.host.msix.count n = u.host.msix.count n) ∧
      (due = false → t.b (R.IRQROUTE_VEC_ARMED 0) n = u.b (R.IRQROUTE_VEC_ARMED 0) n ∧
        t.b R.PCIE_MSIX_PBA n = u.b R.PCIE_MSIX_PBA n ∧ t.host.msix.count n = u.host.msix.count n)) ∧
  (∀ (o : Origin) (v : Word) (s : State) (n : Nat), n < 32 → s.takes (R.IRQROUTE_VEC_EOI 0) v → bit v n = true →
    ∃ t, exec (.vecEoiWrite o v) s = .next t ∧
      (bit s.vecStat n = false → t.b (R.IRQROUTE_VEC_ARMED 0) n = true ∧ t.host.msix.count n = s.host.msix.count n) ∧
      (bit s.vecStat n = true → s.vecMasked n = false →
        t.b (R.IRQROUTE_VEC_ARMED 0) n = false ∧ t.host.msix.count n = s.host.msix.count n + 1)) ∧
  (∀ (n : Fin 32) (s : State), s.reaches (R.PCIE_MSIX_CTRL n.val) = true → s.host.fmask = false →
    bit s.vecStat n.val = true → s.b (R.IRQROUTE_VEC_ARMED 0) n.val = true →
      ∃ t, exec (.msixMaskWrite (some n) false) s = .next t ∧ t.host.msix.count n.val = s.host.msix.count n.val + 1 ∧
        t.b (R.IRQROUTE_VEC_ARMED 0) n.val = false)

/-- PG_LOCK of any page: a write of 1 locks it; a write of 0, and every write once it is locked, changes no register. -/
def Obligations.PageLock : Prop :=
  ∀ (o : Origin) (a : BitVec 24) (v : Word) (s : State) (i : RegInfo), s.takes a.toNat v → a.toNat % 0x1000 = 0x028 →
    regInfo a.toNat = some i → (i.page.kind = .dma → dmaOwner o i.inst = true) →
      ∃ t, exec (.pgLockWrite o a v) s = .next t ∧ t.b a.toNat 0 = (s.b a.toNat 0 || bit v 0) ∧ t.mem = s.mem ∧
        (∀ k, k ≠ a.toNat → k ≠ R.IRQROUTE_VEC_ARMED 0 → k ≠ R.PCIE_MSIX_PBA → t.r k = s.r k) ∧
        (s.b a.toNat 0 = true ∨ bit v 0 = false → t.r a.toNat = s.r a.toNat)

/-- An access to an unimplemented offset: a read returns 0, a write changes nothing, and ACCESS is set; an access to a gated
page leaves ACCESS as it is. The GNSS pages of a CZT-4192N are unimplemented. -/
def Obligations.UnimplementedAccess : Prop :=
  (∀ (o : Origin) (a : BitVec 24) (wr : Bool) (s : State), s.answers = true →
    s.target (a.toNat - a.toNat % 4) = .absent →
      ∃ t, exec (.unimplOffsetAccess o a wr) s = .next t ∧ t.r (R.PKG 0x020) = s.r (R.PKG 0x020) ||| 1#32 ∧
        (wr = false → t.host.readData = [0]) ∧ t.mem = s.mem ∧ t.dt = s.dt ∧
        ∀ k, k ∉ [R.PKG 0x020, R.PKG_ACC_FLT_ADDR, R.PKG_ACC_FLT_INFO, R.IRQROUTE_VEC_ARMED 0, R.PCIE_MSIX_PBA] →
          t.r k = s.r k) ∧
  (∀ (o : Origin) (a : BitVec 24) (wr : Bool) (s : State), s.answers = true →
    s.target (a.toNat - a.toNat % 4) = .gated →
      ∃ t, exec (.gatedAccess o a wr) s = .next t ∧ t.fltB (R.CLOCK 0) 1 = true ∧ (wr = false → t.host.readData = [0]) ∧
        t.mem = s.mem ∧
        ∀ k, k ∉ [R.CLOCK 0x020, R.IRQROUTE_VEC_ARMED 0, R.PCIE_MSIX_PBA] → t.r k = s.r k) ∧
  (∀ (s : State) (a : Nat), s.variant = .n → a / 0x100000 = 0xA → s.target a = .absent)

/-- The capture of faulting accesses: the first one after ACCESS, WIDTH and RSVD_WRITE were all clear is captured with COUNT 1;
each later one adds 1 to COUNT, which saturates, and leaves the capture. Stated for ACCESS and WIDTH, whose writes land on no
register. -/
def Obligations.FaultCapture : Prop :=
  ∀ (o : Origin) (a : BitVec 24) (s : State), s.answers = true →
    (∀ wr, s.target (a.toNat - a.toNat % 4) = .absent →
      ∃ t, exec (.unimplOffsetAccess o a wr) s = .next t ∧
        (s.r (R.PKG 0x020) &&& 7#32 = 0 →
          t.r R.PKG_ACC_FLT_ADDR = BitVec.ofNat 32 (o.code * 2 ^ 24 + a.toNat) ∧ t.f R.PKG_ACC_FLT_INFO 31 16 = 1 ∧
          t.f R.PKG_ACC_FLT_INFO 15 0 = if wr then 1 else 0) ∧
        (s.r (R.PKG 0x020) &&& 7#32 ≠ 0 → t.r R.PKG_ACC_FLT_ADDR = s.r R.PKG_ACC_FLT_ADDR ∧
          t.f R.PKG_ACC_FLT_INFO 31 16 = min (s.f R.PKG_ACC_FLT_INFO 31 16 + 1) 0xFFFF ∧
          t.f R.PKG_ACC_FLT_INFO 15 0 = s.f R.PKG_ACC_FLT_INFO 15 0)) ∧
    (∀ (be : BitVec 4) (v : Word) (i : RegInfo), s.target (a.toNat - a.toNat % 4) = .reg i → be ≠ 15#4 ∨ a.toNat % 4 ≠ 0 →
      ∃ t, exec (.regWrite o a be v) s = .next t ∧ t.fltB (R.PKG 0) 1 = true ∧ t.mem = s.mem ∧
        (∀ k, k ∉ [R.PKG 0x020, R.PKG_ACC_FLT_ADDR, R.PKG_ACC_FLT_INFO, R.IRQROUTE_VEC_ARMED 0, R.PCIE_MSIX_PBA] →
          t.r k = s.r k) ∧
        (s.r (R.PKG 0x020) &&& 7#32 = 0 →
          t.r R.PKG_ACC_FLT_ADDR = BitVec.ofNat 32 (o.code * 2 ^ 24 + a.toNat) ∧ t.f R.PKG_ACC_FLT_INFO 31 16 = 1 ∧
          t.f R.PKG_ACC_FLT_INFO 15 0 = 3) ∧
        (s.r (R.PKG 0x020) &&& 7#32 ≠ 0 → t.r R.PKG_ACC_FLT_ADDR = s.r R.PKG_ACC_FLT_ADDR ∧
          t.f R.PKG_ACC_FLT_INFO 31 16 = min (s.f R.PKG_ACC_FLT_INFO 31 16 + 1) 0xFFFF))

/-- A refused configuration write leaves its register or table unchanged, sets CFG_REFUSED, stages an event record of source SYS
and code CFG_REFUSED that carries the reason, counts in REFUSED_INFO, and is captured in REFUSED_ADDR when it is the first since
CFG_REFUSED was clear (03 R55). The reasons are tried in the order of 03 R53. First a write of a register, then the write of a whole
record through a window, whose offset is that of the last window word. Configuration registers lie outside page and unit headers,
and a DMA page has none. -/
def Obligations.ConfigRefused : Prop :=
  (∀ (o : Origin) (a : BitVec 24) (v : Word) (s : State) (i : RegInfo) (reason : Nat),
    s.takes a.toNat v → regInfo a.toNat = some i → isConfig a.toNat = true → 0x40 ≤ a.toNat % 0x1000 →
    i.page.kind ≠ .dma → (i.unit.isSome = true → 0x20 ≤ a.toNat - frameBase i.page i.base (i.unit.getD 0)) →
      let x := s.touchAcc o
      let gate := x.cfgGate o i a.toNat (i.fields.any (fun f => f.ty == .rws))
      let new := x.cfgValue i a.toNat v
      (gate = some reason ∨
        (gate = none ∧ x.stateOk i a.toNat new = false ∧ reason = 2) ∨
        (gate = none ∧ x.stateOk i a.toNat new = true ∧ x.valueOk i a.toNat new = false ∧ reason = 5) ∨
        (gate = none ∧ x.stateOk i a.toNat new = true ∧ x.valueOk i a.toNat new = true ∧ new ≠ x.r a.toNat ∧
          x.audCfg 1 = false ∧ reason = 3)) →
        ∃ t, exec (.configWrite o a v) s = .next t ∧ t.r a.toNat = s.r a.toNat ∧ t.mem = s.mem ∧
          s.refusedTo t o a.toNat reason) ∧
  (∀ (o : Origin) (a : BitVec 24) (v : Word) (s : State) (i : RegInfo) (w : WinSpec) (j reason : Nat),
    s.takes a.toNat v → regInfo a.toNat = some i → i.win = some (w, j + 2) → j + 1 = w.words → w.cls ≠ .ro →
      let c := i.base + w.ofs
      let x := (s.touchAcc o).winOpen o.master c w
      let k := (x.win o.master c).cursor
      let l := (x.win o.master c).offered w.words v
      let ch := (List.range w.words).filter (fun n => nth (x.winOld w.id k) n != nth l n)
      let gate := x.cfgGate o i (c + 4 * (w.words + 1)) (w.cls == .rws)
      x.winEnd o.master c w = false →
      (gate = some reason ∨ (gate = none ∧ x.recordOk w.id l = false ∧ reason = 5) ∨
        (gate = none ∧ x.recordOk w.id l = true ∧ ch ≠ [] ∧ x.audCfg (audParts ch.length) = false ∧ reason = 3)) →
        ∃ t, exec (.winRecordWrite o a v) s = .next t ∧ t.winOld w.id k = s.winOld w.id k ∧ t.mem = s.mem ∧
          s.refusedTo t o (c + 4 * (w.words + 1)) reason)

/-- The two halves of DT belong together: once the quad-SPI master has read DT_LO at some DT, its read of DT_HI, however much
later, returns the upper word of that same DT. -/
def Obligations.DtHalves : Prop :=
  ∀ s : State, s.reaches R.TIME_DT_LO = true →
    ∃ t, exec (.dtLoRead .hspi) s = .next t ∧ t.host.readData = [BitVec.ofNat 32 s.dt] ∧
      ∀ (u : State) (h : BitVec 40) (crc : BitVec 16), u.host.caps = t.host.caps → u.reaches R.TIME_DT_HI = true →
        u.hspiFine 0x0B h crc = true → hdrAddr h = R.TIME_DT_HI → hdrCount h = 1 →
          ∃ w, exec (.hspiRegReadFrame h crc) u = .next w ∧ w.host.readData = [BitVec.ofNat 32 (s.dt / 2 ^ 32)] ∧
            w.mem = u.mem

/-- Frame of the register reads: each changes what its master read and captured, and nothing else. -/
def Obligations.ReadsChangeHostOnly : Prop :=
  ∀ (o : Origin) (a : BitVec 24) (ch : Fin 256) (pin : Fin 2) (s : State),
    ∀ p ∈ [(Instr.pgStatBarrierRead o a, a.toNat), (.dtLoRead o, R.TIME_DT_LO), (.loCaptureRead o a, a.toNat),
        (.lastPoseRead o, R.POSEIN_LAST_POSE 0), (.gchDumpRead o ch, R.GCH_DMP_DT_LO ch.val),
        (.tpInfoRead o pin, infoOfs pin.val)],
      s.reaches p.2 = true → (∀ i, regInfo p.2 = some i → i.win = none) →
        ∃ t, exec p.1 s = .next t ∧ t.host.wins = s.host.wins ∧ t.host.inProg = s.host.inProg ∧ t.host.out = s.host.out ∧
          t = { s with regs := t.regs, host := t.host } ∧
          ∀ k, k ≠ R.IRQROUTE_VEC_ARMED 0 → k ≠ R.PCIE_MSIX_PBA → t.r k = s.r k

/-- Frame of the events that touch few registers, whatever the state: memory, DT, the queue and every register but those listed
beside each event (and the two of the message path) stay. -/
def Obligations.PlainEventFrames : Prop :=
  ∀ (s : State) (pin : Fin 32) (lv : Bool) (t : BitVec 64) (d : Fin 2) (us : Word) (b : Fin 8) (n : Fin 16) (q : Fin 6)
      (ch : Fin 48) (addr : Byte) (tr : Fin 8) (sl : Fin 6) (id : Word),
    ∀ p ∈ [(Instr.dioInputChange pin lv t, [R.DIOG_IO_STAT pin.val, R.DIOG_G_STAT (pin.val / 8), R.DIOG_IO_EDGE_LO pin.val,
              R.DIOG_IO_EDGE_LO pin.val + 4, R.DIOG_IO_CNT pin.val, R.DIOG_U pin.val 0 + 8]),
        (.ptpSync d t us, [R.ETH_PTP_STAT d.val]), (.boostCurrentLow b, [R.BANK_U b.val 0x04]), (.ainBurdenReconnect n, []),
        (.quadInvalidExpire q, []), (.deadTimeEnd ch, []), (.addressClaim d addr, [R.CAN_CAN_ADDR d.val]),
        (.fieldHeartbeat d t, [R.DIE_FLDHB_STAT]), (.logicHeartbeatSend, []), (.tdcRecalibrate, []),
        (.imuStationaryDetect, [R.IMU_STAT]), (.challengeExpire id, []), (.interfaceLockoutExpire sl, [R.SECCTL_LOCKOUT]),
        (.delayLineCalibrate (some addr), [R.PWMCTL_CAL_STAT]), (.pciePoisonedRequest, [R.PCIE 0x020]),
        (.pcieMalformedTlp, []), (.hspiStatusRead, [R.HSPI_STAT]), (.bar2ReservedAccess lv, [R.PCIE 0x020]),
        (.tripBlankEdge tr, []), (.n2kGnssDataTimeout, [])],
      ∃ u, exec p.1 s = .next u ∧ u.mem = s.mem ∧ u.dt = s.dt ∧ u.pending = s.pending ∧ u.jobs = s.jobs ∧
        ∀ k, k ∉ p.2 → k ≠ R.IRQROUTE_VEC_ARMED 0 → k ≠ R.PCIE_MSIX_PBA → u.r k = s.r k

/-- A package reset from each source that the block answers returns every register to its reset value but those that MRAM,
fuses and the rules of 02 R29, 04 R74 and 09 R192 keep, every PG_LOCK among them, and leaves the block in BOOT with no job and no
session. -/
def Obligations.ResetReturnsRegisters : Prop :=
  ∀ (n : Nat) (pair : Fin 2) (s : State), s.pkg.cellar = false →
    ∀ p ∈ [(Instr.powerOnReset, true), (.mainRailLoss n, true), (.resetPin, true), (.wdogReset pair, s.up 5)], p.2 = true →
      ∃ t, exec p.1 s = .next t ∧ t.pkg.bootStep = 0 ∧ t.mode = 0 ∧ t.jobs = List.replicate 16 Job.reset ∧
        t.sec.chals = [] ∧
        (∀ k, k % 0x1000 = 0x028 → t.r k = regDefault s.variant k) ∧
        ∀ k, mramReg k = false → k ∉ [R.CELLAR_SCRUB, R.TIME_DT_STAT, R.OUTLETWIN_SW_STAT, R.UPDATE 0x010,
            R.IRQROUTE_VEC_ARMED 0, R.PCIE_MSIX_PBA] →
          t.r k = regDefault s.variant k

/-! ## Rules of the host interfaces (05) -/

/-- The completion record of a NOP: the 16 bytes of 05 R101 in the ring's next entry, CPL_TAIL one further, PHASE inverted where
the ring wraps, the ring's source raised where the command asks for it; every other byte of memory and every other register
stays. The ring's size and tail are legal. -/
def Obligations.CompletionRecord : Prop :=
  ∀ (c : Cmd) (s : State),
    let r := c.ring.val
    let tail := s.f (R.PORCH_CPL_TAIL r) 9 0
    let ph := s.b (R.PORCH_CPL_TAIL r) 16
    let base := sharedBase + s.f (R.PORCH_CPL_BASE r) 19 4 * 16 + 16 * tail
    let next := (tail + 1) % s.cplSize r
    Accepts s c { CmdSpec.mk' 0x0100 0 0 (c.badArg [] []) false with inBoot := true } →
    s.ringEn r = true → 0 < s.cplFree r → s.f (R.PORCH_RING_CTRL r) 11 8 ≤ 10 → tail < s.cplSize r →
      ∃ t, exec (.nop c) s = .next t ∧
        t.rdBytes base 16 =
          natLE 2 c.tag.toNat ++ [0x00#8, 0x00#8] ++ natLE 2 c.idx.toNat ++ [(if ph then 3#8 else 2#8), 0x00#8] ++
            List.replicate 8 0#8 ∧
        (∀ a, a < base ∨ base + 16 ≤ a → t.rd8 a = s.rd8 a) ∧
        t.f (R.PORCH_CPL_TAIL r) 9 0 = next ∧ t.b (R.PORCH_CPL_TAIL r) 16 = (if next = 0 then !ph else ph) ∧
        (c.flags.getLsbD 0 = true → t.b (R.PORCH 0x010) r = true) ∧
        (r < 2 → t.r (R.PORCH_CPL_HEAD r) = s.r (R.PORCH_CPL_HEAD r)) ∧
        ∀ k, k ∉ [R.PORCH_CPL_TAIL r, R.PORCH_CPL_HEAD r, R.PORCH 0x010, R.IRQROUTE_VEC_ARMED 0, R.PCIE_MSIX_PBA] →
          t.r k = s.r k

/-- The checks of 05 R103 in their order, for three commands that need a session, a mode or object state, and room in the audit
log: the first that fails gives the status, with the event record of its code, and the command does nothing else. -/
def Obligations.RefusalsInOrder : Prop :=
  ∀ (c : Cmd) (s : State), s.pkg.cellar = false →
    ∀ p ∈ [(Instr.cfgLockSet c, 0x0C20, 2, s.mode != 2), (.rmaPermit c, 0x0C41, 2, s.mode != 1),
        (.cellarEnter c, 0x0004, 2, !(s.mode == 1 || s.mode == 5) || !s.noPending)],
      let op := p.2.1
      let t := s.touchCmd c
      let ev (code status : Nat) := (t.evNow code (BitVec.ofNat 32 ((c.ring.val + 1) * 65536 + op))).reply c status 0 0 0 0
      (∀ d, c.badArg [] [] = some d → Runs p.1 s (t.reply c 0x11 0 d 0 0)) ∧
      (c.badArg [] [] = none →
        (s.mode = 0 → Runs p.1 s (ev 0x03 0x12)) ∧
        (s.mode ≠ 0 →
          ((c.sess ≠ 0 ∧ s.cmdSlot c = none) ∨ s.cmdRole c < p.2.2.1 → Runs p.1 s (ev 0x16 0x13)) ∧
          (¬((c.sess ≠ 0 ∧ s.cmdSlot c = none) ∨ s.cmdRole c < p.2.2.1) →
            (p.2.2.2 = true → Runs p.1 s (ev 0x03 0x12)) ∧
            (p.2.2.2 = false → op ≠ 0x0004 → s.audCfg 1 = false → Runs p.1 s (ev 0x17 0x14)) ∧
            (p.2.2.2 = false → op = 0x0004 → s.audRun 1 = false → Runs p.1 s (ev 0x17 0x14)))))

/-- Quad-SPI frames that fail: a wrong header CRC makes no access and returns zero data, a wrong data CRC writes no word; the frame
is counted, CRC and CRC_ERR are set and counted, and the next status read returns 1, as often as it is read. -/
def Obligations.HspiFailedFrames : Prop :=
  ∀ (h : BitVec 40) (hc dc : BitVec 16) (data : List Word) (s : State), s.hspiUp = true →
    (∀ i ∈ [Instr.hspiRegWriteFrame h hc data dc, .hspiRegReadFrame h hc, .hspiSramWriteFrame h hc data dc,
        .hspiSramReadFrame h hc],
      (crc16 0xFFFF#16 (hdrBytes h) ≠ hc ∨
        (∃ op, (i = .hspiRegWriteFrame h hc data dc ∧ op = 0x02 ∨ i = .hspiSramWriteFrame h hc data dc ∧ op = 0x12) ∧
          s.hspiFine op h hc = true ∧ data.length = hdrCount h ∧ crc16 0xFFFF#16 (data.flatMap wordBytes) ≠ dc)) →
        ∃ t, exec i s = .next t ∧ t.mem = s.mem ∧ t.host.wins = s.host.wins ∧ t.host.hspiRes = 1 ∧
          (crc16 0xFFFF#16 (hdrBytes h) ≠ hc → t.host.readData = List.replicate (min 16 (hdrCount h)) 0) ∧
          t.fltB (R.HSPI 0) 0 = true ∧ t.f R.HSPI_STAT 15 0 = min (s.f R.HSPI_STAT 15 0 + 1) 0xFFFF ∧
          t.f R.HSPI_STAT 31 16 = (s.f R.HSPI_STAT 31 16 + 1) % 65536 ∧
          ∀ k, k ∉ [R.HSPI_STAT, R.HSPI 0x020, R.IRQROUTE_VEC_ARMED 0, R.PCIE_MSIX_PBA] → t.r k = s.r k) ∧
    (∃ t, exec .hspiStatusRead s = .next t ∧ t.host.readData = [BitVec.ofNat 32 s.host.hspiRes] ∧
      t.host.hspiRes = s.host.hspiRes ∧ t.mem = s.mem)

/-- Stores to shared SRAM: a good quad-SPI frame stores its words little-endian at its address; a BAR2 write stores each byte whose
enable is set. Every other byte of memory stays, and so does every register but the frame count. -/
def Obligations.SharedSramStores : Prop :=
  (∀ (h : BitVec 40) (hc dc : BitVec 16) (data : List Word) (s : State), s.hspiFine 0x12 h hc = true →
    crc16 0xFFFF#16 (data.flatMap wordBytes) = dc → data.length = hdrCount h →
      ∃ t, exec (.hspiSramWriteFrame h hc data dc) s = .next t ∧
        (∀ j < data.length, ∀ b < 4,
          t.rd8 (sharedBase + hdrAddr h + 4 * j + b) = (nth data j).extractLsb' (8 * b) 8) ∧
        (∀ a, a < sharedBase + hdrAddr h ∨ sharedBase + hdrAddr h + 4 * data.length ≤ a → t.rd8 a = s.rd8 a) ∧
        ∀ k, k ∉ [R.HSPI_STAT, R.IRQROUTE_VEC_ARMED 0, R.PCIE_MSIX_PBA] → t.r k = s.r k) ∧
  (∀ (ofs : BitVec 20) (data : List Byte) (be : List Bool) (ue : Bool) (s : State), s.answers = true →
    crosses4K ofs.toNat data.length = false →
      ∃ t, exec (.bar2SramAccess ofs true data be ue) s = .next t ∧
        (∀ j < data.length, t.rd8 (sharedBase + ofs.toNat + j) =
          if be.getD j false then data.getD j 0 else s.rd8 (sharedBase + ofs.toNat + j)) ∧
        (∀ a, a < sharedBase + ofs.toNat ∨ sharedBase + ofs.toNat + data.length ≤ a → t.rd8 a = s.rd8 a) ∧
        ∀ k, k ≠ R.IRQROUTE_VEC_ARMED 0 → k ≠ R.PCIE_MSIX_PBA → t.r k = s.r k)

/-! ## Register accesses complete (02, 03) -/

/-- Where REG_WRITE, UNIMPL_OFFSET_ACCESS and GATED_ACCESS complete: a whole-word write that reaches a register, with no reserved
bit set, lands there; at an absent or gated offset the write is ignored and the read returns 0, with PKG.ACCESS and its capture, or
CLOCK.GATED_ACCESS, set. -/
def Obligations.RegisterAccessesComplete : Prop :=
  (∀ (o : Origin) (a : BitVec 24) (v : Word) (s : State) (i : RegInfo),
    s.takes a.toNat v → regInfo a.toNat = some i →
      Runs (.regWrite o a 15 v) s ((s.touchAcc o).landWrite o i a.toNat v)) ∧
  (∀ (o : Origin) (a : BitVec 24) (s : State), s.answers = true → s.target (a.toNat - a.toNat % 4) = .absent →
    Runs (.unimplOffsetAccess o a true) s ((s.touchAcc o).accFault o a.toNat 0 true) ∧
    Runs (.unimplOffsetAccess o a false) s ((s.accFault o a.toNat 0 false).returns [0])) ∧
  (∀ (o : Origin) (a : BitVec 24) (s : State), s.answers = true → s.target (a.toNat - a.toNat % 4) = .gated →
    Runs (.gatedAccess o a true) s ((s.touchAcc o).flt (R.CLOCK 0) 1) ∧
    Runs (.gatedAccess o a false) s ((s.flt (R.CLOCK 0) 1).returns [0]))

/-- Where CONFIG_WRITE completes: a change that passes every check of 03 R53 is audited, applied, kept in the store and
counted. Configuration registers lie outside the page and unit headers. -/
def Obligations.ConfigWriteCompletes : Prop :=
  ∀ (o : Origin) (a : BitVec 24) (v : Word) (s : State) (i : RegInfo),
    s.takes a.toNat v → regInfo a.toNat = some i → isConfig a.toNat = true → 0x40 ≤ a.toNat % 0x1000 →
    i.page.kind ≠ .dma → (i.unit.isSome = true → 0x20 ≤ a.toNat - frameBase i.page i.base (i.unit.getD 0)) →
      let t := s.touchAcc o
      let new := t.cfgValue i a.toNat v
      t.cfgGate o i a.toNat (i.fields.any (fun f => f.ty == .rws)) = none → t.stateOk i a.toNat new = true →
      t.valueOk i a.toNat new = true → new ≠ t.r a.toNat → t.audCfg 1 = true →
        Runs (.configWrite o a v) s
          ((((t.audit { typ := 1, origin := (t.accSession o).2.2, role := (t.accSession o).1, result := 0,
                        sess := (t.accSession o).2.1, changed := 1, w3 := nw a.toNat, w4 := 0,
                        vals := [(t.r a.toNat, new)] }).setConfig i a.toNat new).storeWrite a.toNat new).countChange i)

/-- Where the accesses of page headers complete: the barrier read of PG_STAT, the locking write of PG_LOCK, and the clearing
of PKG.FLT_STAT. -/
def Obligations.HeaderAccessesComplete : Prop :=
  (∀ (o : Origin) (a : BitVec 24) (s : State), s.reaches a.toNat = true → a.toNat % 0x1000 = 0x00C →
    Runs (.pgStatBarrierRead o a) s (s.returns [s.pgStat (pageBase a.toNat)])) ∧
  (∀ (o : Origin) (a : BitVec 24) (v : Word) (s : State) (i : RegInfo), s.takes a.toNat v → a.toNat % 0x1000 = 0x028 →
    regInfo a.toNat = some i → (i.page.kind = .dma → dmaOwner o i.inst = true) → bit v 0 = true →
      Runs (.pgLockWrite o a v) s ((s.touchAcc o).wb a.toNat 0 true)) ∧
  (∀ (o : Origin) (v : Word) (s : State), s.takes (R.PKG 0x020) v → Runs (.pkgFltClear o v) s ((s.touchAcc o).pkgClear v))

/-- Where the window accesses complete (03 R50, R51): the CURSOR write, the reads of a word and of the last word, the staging
of a word, and a record write that passes the checks and changes the record. -/
def Obligations.WindowAccessesComplete : Prop :=
  (∀ (o : Origin) (a : BitVec 24) (v : Word) (s : State) (i : RegInfo) (w : WinSpec), s.takes a.toNat v →
    regInfo a.toNat = some i → i.win = some (w, 0) →
      Runs (.cursorWrite o a v) s ((s.touchAcc o).winCursor o.master (i.base + w.ofs) w v)) ∧
  (∀ (o : Origin) (a : BitVec 24) (s : State) (i : RegInfo) (w : WinSpec) (j : Nat), s.reaches a.toNat = true →
    regInfo a.toNat = some i → i.win = some (w, j + 2) →
      let r := s.winRead o.master (i.base + w.ofs) w j
      (j + 1 ≠ w.words → Runs (.winWordRead o a) s (r.2.returns [r.1])) ∧
      (j + 1 = w.words → Runs (.winLastWordRead o a) s (r.2.returns [r.1]))) ∧
  (∀ (o : Origin) (a : BitVec 24) (v : Word) (s : State) (i : RegInfo) (w : WinSpec) (j : Nat), s.takes a.toNat v →
    regInfo a.toNat = some i → i.win = some (w, j + 2) →
      let c := i.base + w.ofs
      let t := (s.touchAcc o).winOpen o.master c w
      w.cls ≠ .ro → t.winEnd o.master c w = false →
        (j + 1 < w.words → Runs (.winWordStage o a v) s (t.setWin o.master c ((t.win o.master c).stage j v))) ∧
        (j + 1 = w.words →
          let x := t.win o.master c
          let l := x.offered w.words v
          let old := t.winOld w.id x.cursor
          let ch := (List.range w.words).filter (fun k => nth old k != nth l k)
          let ofs := c + 4 * (w.words + 1)
          t.cfgGate o i ofs (w.cls == .rws) = none → t.recordOk w.id l = true → ch ≠ [] →
          t.audCfg (audParts ch.length) = true →
            let u := ((t.audit { typ := 2, origin := (t.accSession o).2.2, role := (t.accSession o).1, result := 0,
                                 sess := (t.accSession o).2.1, changed := ch.foldl (fun m k => m + 2 ^ k) 0,
                                 w3 := nw ofs, w4 := nw x.cursor,
                                 vals := ch.map (fun k => (nth old k, nth l k)) }).winApply w.id x.cursor l).countChange i
            Runs (.winRecordWrite o a v) s ((u.setWin o.master c { x with staged := [] }).winNext o.master c w)))

/-- Where the writes of the interrupt path complete (03 R63, R65; 05 R94): a route entry (one of no valid target sets
BAD_TARGET instead), VEC_EOI, an entry's mask and the
function mask. -/
def Obligations.InterruptWritesComplete : Prop :=
  (∀ (o : Origin) (src : BitVec 9) (v : Word) (s : State), s.takes (routeOfs src.toNat) v → fld v 7 0 ≤ 0x27 →
    Runs (.routeEntryWrite o src v) s ((s.touchAcc o).w (routeOfs src.toNat) (v &&& 0x1FF#32))) ∧
  (∀ (o : Origin) (src : BitVec 9) (v : Word) (s : State), s.takes (routeOfs src.toNat) v → 0x27 < fld v 7 0 →
    Runs (.routeEntryWrite o src v) s ((s.touchAcc o).flt (pageBase (routeOfs src.toNat)) 0)) ∧
  (∀ (o : Origin) (v : Word) (s : State), s.takes (R.IRQROUTE_VEC_EOI 0) v →
    Runs (.vecEoiWrite o v) s ((s.touchAcc o).vecEoi v)) ∧
  (∀ (k : Fin 32) (m : Bool) (s : State), s.reaches (R.PCIE_MSIX_CTRL k.val) = true →
    Runs (.msixMaskWrite (some k) m) s ((s.touchAcc .pcie).msixCtrl k.val m)) ∧
  (∀ (m : Bool) (s : State), s.answers = true → Runs (.msixMaskWrite none m) s (s.functionMask m))

/-- Where the capturing reads complete (02 R32, 07 R140, 16 R348, 17 R366): each returns its register and keeps the group's
words for its master. -/
def Obligations.CapturingReadsComplete : Prop :=
  (∀ (o : Origin) (s : State), s.reaches R.TIME_DT_LO = true →
    Runs (.dtLoRead o) s
      (((s.keep o R.TIME_DT_LO (nw s.dt)).keep o R.TIME_DT_HI (nw (s.dt / 2 ^ 32))).returns [nw s.dt])) ∧
  (∀ (o : Origin) (a : BitVec 24) (s : State) (i : RegInfo), s.reaches a.toNat = true → regInfo a.toNat = some i →
    i.win = none → captureGroup a.toNat i ≠ [] →
      Runs (.loCaptureRead o a) s ((s.readWord o a.toNat i).2.returns [(s.readWord o a.toNat i).1])) ∧
  (∀ (o : Origin) (s : State) (i : RegInfo), s.reaches (R.POSEIN_LAST_POSE 0) = true →
    regInfo (R.POSEIN_LAST_POSE 0) = some i →
      Runs (.lastPoseRead o) s ((s.readWord o (R.POSEIN_LAST_POSE 0) i).2.returns [s.r (R.POSEIN_LAST_POSE 0)])) ∧
  (∀ (o : Origin) (ch : Fin 256) (s : State) (i : RegInfo), s.reaches (R.GCH_DMP_DT_LO ch.val) = true →
    regInfo (R.GCH_DMP_DT_LO ch.val) = some i →
      Runs (.gchDumpRead o ch) s ((s.readWord o (R.GCH_DMP_DT_LO ch.val) i).2.returns [s.r (R.GCH_DMP_DT_LO ch.val)])) ∧
  (∀ (o : Origin) (pin : Fin 2) (s : State) (i : RegInfo), s.reaches (infoOfs pin.val) = true →
    regInfo (infoOfs pin.val) = some i →
      Runs (.tpInfoRead o pin) s ((s.readWord o (infoOfs pin.val) i).2.returns [s.r (infoOfs pin.val)]))

/-- Where the writes of ring registers complete (05 R97 to R99): a disabled ring takes its sizes and its enable, an enabled one
of unchanged sizes its enable, and an index below its ring's size is stored. -/
def Obligations.RingWritesComplete : Prop :=
  (∀ (o : Origin) (ring : Fin 4) (v : Word) (s : State), s.takes (R.PORCH_RING_CTRL ring.val) v →
    (o.isHost = true → ring.val < 2) → 4 ≤ fld v 3 0 → fld v 3 0 ≤ 10 → 4 ≤ fld v 11 8 → fld v 11 8 ≤ 10 →
      let n := ring.val
      let t := s.touchAcc o
      let new := nw (flag (bit v 31) * 2 ^ 31 + fld v 11 8 * 256 + fld v 3 0)
      (s.ringEn n = false → bit v 31 = true → s.ringsFit n (fld v 3 0) (fld v 11 8) = true →
        Runs (.ringCtrlWrite o ring v) s ((t.w (R.PORCH_RING_CTRL n) new).ringStart n)) ∧
      (s.ringEn n = false → bit v 31 = false → Runs (.ringCtrlWrite o ring v) s (t.w (R.PORCH_RING_CTRL n) new)) ∧
      (s.ringEn n = true → fld v 3 0 = s.f (R.PORCH_RING_CTRL n) 3 0 → fld v 11 8 = s.f (R.PORCH_RING_CTRL n) 11 8 →
        Runs (.ringCtrlWrite o ring v) s (t.wb (R.PORCH_RING_CTRL n) 31 (bit v 31)))) ∧
  (∀ (o : Origin) (ring : Fin 4) (v : Word) (s : State), s.takes (R.PORCH_CMD_TAIL ring.val) v →
    (o.isHost = true → ring.val < 2) → fld v 9 0 < s.cmdSize ring.val →
      Runs (.cmdTailDoorbell o ring v) s ((s.touchAcc o).w (R.PORCH_CMD_TAIL ring.val) (nw (fld v 9 0)))) ∧
  (∀ (o : Origin) (ring : Fin 4) (v : Word) (s : State), s.takes (R.PORCH_CPL_HEAD ring.val) v →
    (o.isHost = true → ring.val < 2) → fld v 9 0 < s.cplSize ring.val →
      Runs (.cplHeadWrite o ring v) s ((s.touchAcc o).w (R.PORCH_CPL_HEAD ring.val) (nw (fld v 9 0))))

/-- Where the writes of the memory unit and of the look-ahead pages complete (06 R122, R128, R130, R134; 07 R140; 09 R217): the
translation-cache invalidation, the DMA actions on a channel of the writer's side, the clearing of the fault log, a pose submitted,
the edge counters and the lost counters cleared. -/
def Obligations.UnitWritesComplete : Prop :=
  (∀ (o : Origin) (v : Word) (s : State), s.takes R.XLATE_INV v →
    Runs (.xlateInvalidate o v) s ((s.touchAcc o).xlateInv v)) ∧
  (∀ (o : Origin) (ch : Fin 16) (s : State), s.reaches (R.DMA_CTRL ch.val) = true → dmaOwner o ch.val = true →
    let t := s.touchAcc o
    (s.dmaSt ch.val = 0 →
      Runs (.dmaStart o ch) s (t.dmaFetch ch.val (fld (s.r (R.DMA_DESC_PTR ch.val)) 31 5 * 32))) ∧
    Runs (.dmaStop o ch) s (t.dmaStopCmd ch.val) ∧ Runs (.dmaResume o ch) s (t.dmaResume ch.val)) ∧
  (∀ (o : Origin) (ch : Fin 16) (v : Word) (s : State), s.takes (R.DMA_DESC_PTR ch.val) v → dmaOwner o ch.val = true →
    Runs (.dmaDescPtrWrite o ch v) s ((s.touchAcc o).dmaPtr ch.val v)) ∧
  (∀ (o : Origin) (s : State), s.reaches R.XFAULT_LOG_CTRL = true →
    Runs (.xfaultLogClear o) s ((s.touchAcc o).xlogClear 1)) ∧
  (∀ (o : Origin) (v : Word) (s : State), s.takes (R.POSEIN_HOST_POSE 9) v →
    Runs (.hostPoseSubmit o v) s (((s.touchAcc o).w (R.POSEIN_HOST_POSE 9) v).submitPose o)) ∧
  (∀ (o : Origin) (s : State), s.reaches R.COMMIT_CNT_CTRL = true →
    Runs (.commitCounterClear o) s ((s.touchAcc o).cntClear 1)) ∧
  (∀ (o : Origin) (s : State), s.reaches R.RETIRE_LOST_CTRL = true →
    Runs (.retireLostClear o) s ((s.touchAcc o).lostClear 1))

/-- Where the writes of the control, PWM and GNSS pages complete (02 R37; 13 R299; 14 R309, R311, R319; 16 R346 to R349): a
setting of the clock islands that the mode permits, the trace actions, the arming of a cluster, a write an owner holds off, a
trip's clearing, the actions of a tracking channel that is the writer's, and the hand-over of channels. -/
def Obligations.EngineWritesComplete : Prop :=
  (∀ (o : Origin) (v : Word) (s : State), s.takes R.CLOCK_ISL_CTRL v → s.variant = .g →
    (∀ lo ∈ [0, 2, 4, 6, 8], fld v (lo + 1) lo ≠ 3 ∧ islandFits lo s.mode (fld v (lo + 1) lo) = true) →
      Runs (.islCtrlWrite o v) s
        ([0, 2, 4, 6, 8].foldl (fun t lo => t.wf R.CLOCK_ISL_CTRL (lo + 1) lo (fld v (lo + 1) lo)) (s.touchAcc o))) ∧
  (∀ (o : Origin) (s : State), s.reaches R.TRACE_CTRL = true →
    Runs (.traceArm o) s (s.touchAcc o).traceArm ∧ Runs (.traceForce o) s (s.touchAcc o).traceForce ∧
    Runs (.traceStop o) s (s.touchAcc o).traceStop) ∧
  (∀ (o : Origin) (cl : Fin 6) (v : Word) (s : State), s.takes (R.PWMC_CL_CTRL cl.val) v →
    Runs (.clArmWrite o cl v) s ((s.touchAcc o).armCluster cl.val v)) ∧
  (∀ (o : Origin) (ch : Fin 48) (k : Fin 3) (v : Word) (s : State), s.takes (R.PWMC_U ch.val (0x28 + 4 * k.val)) v →
    s.loopOwned ch.val = true →
      Runs (.ownedWrite o (BitVec.ofNat 24 (R.PWMC_U ch.val (0x28 + 4 * k.val))) v) s ((s.touchAcc o).pwmOwned ch.val)) ∧
  (∀ (o : Origin) (ch : Fin 48) (v : Word) (s : State), s.takes (R.PWMC_U ch.val 0x38) v → s.motorOwned ch.val = true →
    Runs (.ownedWrite o (BitVec.ofNat 24 (R.PWMC_U ch.val 0x38)) v) s ((s.touchAcc o).pwmOwned ch.val)) ∧
  (∀ (o : Origin) (v : Word) (s : State), s.takes R.TRIP_TRIP_CLR v →
    Runs (.tripClr o v) s ((s.touchAcc o).tripClr v)) ∧
  (∀ (o : Origin) (ch : Fin 256) (s : State), s.reaches (R.GCH_CH_CTRL ch.val) = true →
    (o.isHost = true → s.gchHost ch.val = true) →
      let t := s.touchAcc o
      Runs (.gchStart o ch) s (t.gchStart ch.val) ∧ Runs (.gchStop o ch) s (t.gchStop ch.val) ∧
      Runs (.gchUpdate o ch) s (t.gchUpdate ch.val)) ∧
  (∀ (o : Origin) (page : Fin 32) (v : Word) (s : State) (i : RegInfo), s.takes (R.GCH_CL_OWN page.val) v →
    regInfo (R.GCH_CL_OWN page.val) = some i →
      let a := R.GCH_CL_OWN page.val
      let t := s.touchAcc o
      let new := t.cfgValue i a v
      t.cfgGate o i a false = none → t.stateOk i a new = true → t.valueOk i a new = true → new ≠ t.r a → t.audCfg 1 = true →
        Runs (.clOwnWrite o page v) s
          ((((t.audit { typ := 1, origin := (t.accSession o).2.2, role := (t.accSession o).1, result := 0,
                        sess := (t.accSession o).2.1, changed := 1, w3 := nw a, w4 := 0,
                        vals := [(t.r a, new)] }).ownWrite page.val new).storeWrite a new).countChange i))

/-! ## Modes, SAFE, the drain, supervision, supplies, the Cellar (01, 02, 04) -/

/-- Where the mode commands complete: each that passes the checks of 05 R103 takes its effect. RESET leaves no record. -/
def Obligations.ModeCommandsComplete : Prop :=
  (∀ (c : Cmd) (s : State),
    let m := c.byte 8
    let k := CmdSpec.mk' 0x0001 (modeRole m) 1 (c.badArg [(8, 8)] (need 8 (decide (m ≤ 5))))
      (!s.noPending || !modeRow s.mode m || !s.modeReady m)
    Accepts s c k → Runs (.modeReq c) s ((s.acceptedBy c k).modeAct' c m)) ∧
  (∀ (c : Cmd) (s : State),
    let k := { CmdSpec.mk' 0x0002 0 0 (c.badArg [] []) false with anySess := true, inBoot := true }
    Accepts s c k →
      let t := s.touchCmd c
      Runs (.safeEnter c) s (((t.auditOrCount (t.cmdAudit c 0x0002 0 0 0 0)).safeCause cHost).ok c 0 0)) ∧
  (∀ (c : Cmd) (s : State),
    let k := CmdSpec.mk' 0x0003 2 1 (c.badArg [] []) (!(s.mode == 5) || s.causesLive != 0 || !s.bridgesHeld || !s.noPending)
    Accepts s c k →
      let t := (((s.acceptedBy c k).w R.SAFE_CAUSE 0).releaseField).openAll
      Runs (.safeExit c) s ((t.setPkg { t.pkg with safeClosing := none }).toStandby (some c))) ∧
  (∀ (c : Cmd) (s : State),
    let k := CmdSpec.mk' 0x0004 2 1 (c.badArg [] []) (!(s.mode == 1 || s.mode == 5) || !s.noPending)
    Accepts s c k → Runs (.cellarEnter c) s ((s.acceptedBy c k).ok c 0 0).cellarTry) ∧
  (∀ (c : Cmd) (s : State),
    let k := CmdSpec.mk' 0x0005 2 1 (c.badArg [] []) false
    Accepts s c k → Runs (.reset c) s (((s.acceptedBy c k).leave c).resetPackage .sw 0)) ∧
  (∀ (c : Cmd) (s : State),
    let k := CmdSpec.mk' 0x0006 2 2 (c.badArg [(8, 23)] []) false
    Accepts s c k → Runs (.wallSet c) s (((s.acceptedBy c k).wallStep (c.num 8 8 : Nat) (c.num 16 8)).ok c 0 0))

/-- Where the events of wall time, of the region sequence, the drain and SAFE complete: each at its time or condition. -/
def Obligations.DrainEventsComplete : Prop :=
  (∀ (err : Int) (rate : Word) (s : State), s.f R.TIME_WALL_SRC 2 0 ≠ 0 → s.pkg.cellar = false → s.mode ≠ 0 →
    ((s.b R.TIME_DT_STAT 2 = false ∨ 1000000 < err.natAbs) →
      Runs (.wallErrorEstimate err rate) s (s.wallStep (s.wallNs + err) s.dt)) ∧
    (s.b R.TIME_DT_STAT 2 = true → err.natAbs ≤ 1000000 →
      let old := sword (s.r R.TIME_WALL_RATE)
      Runs (.wallErrorEstimate err rate) s
        ((s.w R.TIME_WALL_RATE (wordOf (clamp (old - 549755813) (old + 549755813) (sword rate)))).inc R.TIME_MAP_SEQ 31 0 2))) ∧
  (∀ (s : State) (g : Nat) (rest : List Nat), s.drive.closeSeq = g :: rest → s.drive.closeAt ≤ s.dt →
    (s.mode = 3 ∨ s.mode = 4) →
      let t := if (s.region g).held then s else s.requestClose g
      Runs .regionSequenceClose s { t with drive := { t.drive with closeSeq := rest, closeAt := t.dt + msDT 5 } }) ∧
  (∀ (s : State) (d : Drain), s.pkg.drain = some d → d.offDone = false →
    (∀ e ∈ s.look.queues, ∀ x ∈ e.2.edges, x.exec ≤ s.dt) →
      let t := s.squashAll.drainEdges
      let t := if t.mode = 4 then t.endManual else t
      Runs .drainOffEdges s (t.setDrain (some { d with offDone := true }))) ∧
  (∀ (s : State) (d : Drain), s.pkg.drain = some d → d.offDone = true → s.queuesEmpty = true → s.windowsOpen = false →
    s.chansOff = true → s.offsDue = true → Runs .drainComplete s s.drainEnd) ∧
  (∀ (s : State) (d : Drain), s.pkg.drain = some d → d.start + msDT 100 ≤ s.dt →
    Runs .drainMaxExpire s (((if d.offDone then s else s.squashAll.drainEdges).banksOff 3).drainEnd)) ∧
  (∀ (s : State) (t : DT), s.pkg.safeClosing = some t → (s.windowsOpen = false ∨ t + msDT 100 ≤ s.dt) →
    Runs .safeWindowsEnd s (s.openAll.setPkg { s.openAll.pkg with safeClosing := none }))

/-- Where the supervision of the dies and of the reference completes (01 R9, R16 to R20; 02 R23, R32, R37). -/
def Obligations.SupervisionEventsComplete : Prop :=
  (∀ (pair : Fin 2) (s : State), s.up 5 = true →
    let t := s.setPkg { s.pkg with halted := s.pkg.halted.set pair.val true }
    Runs (.lockstepDisagree pair) s ((((t.evNow (5 + pair.val) 0).irq (R.DIE 0) 2).endTrial).safeCause cLockstep)) ∧
  (∀ (s : State), s.up 7 = true →
    Runs .logicHeartbeatSend s
      ((List.range 2).foldl (fun (u : State) b =>
        if u.b R.DIE_FLDHB_STAT b then
          { u with host := { u.host with out := u.host.out ++ [⟨16 + b, 0, [nw u.dt, nw (u.dt / 2 ^ 32)]⟩] } }
        else u) s)) ∧
  (∀ (b : Fin 2) (t : BitVec 64) (s : State), s.up 7 = true → s.b R.DIE_FLDHB_STAT b.val = true → t.toNat ≤ s.dt →
    let since := if s.bridgeBeat b.val then (s.pkg.beatSince.getD b.val none).getD s.dt else s.dt
    Runs (.fieldHeartbeat b t) s
      ((s.setPkg { s.pkg with
          fieldBeat := s.pkg.fieldBeat.set b.val t.toNat
          beatLast := s.pkg.beatLast.set b.val (some s.dt)
          beatSince := s.pkg.beatSince.set b.val (some since)
          fldWdog := false }).wf R.DIE_FLDHB_STAT (15 + 8 * b.val) (8 + 8 * b.val) 0)) ∧
  (∀ (b : Fin 2) (s : State), s.up 7 = true →
    let t := s.satInc R.DIE_FLDHB_STAT (15 + 8 * b.val) (8 + 8 * b.val) 1
    Runs (.heartbeatMiss b) s
      (if t.f R.DIE_FLDHB_STAT (15 + 8 * b.val) (8 + 8 * b.val) = 3 then t.irqEv (R.DIE 0) 1 else t)) ∧
  (∀ (b : Fin 2) (s : State), s.bridgeLost b.val = true →
    Runs (.fieldHbTimeout b) s (s.fieldDieSafe b.val) ∧
    Runs (.logicFldHbTimeout b) s ((s.setPkg { s.pkg with beatSince := s.pkg.beatSince.set b.val none }).safeCause cFldHb)) ∧
  (∀ (s : State), s.up 7 = true → Runs .fldWdogExpire s ((s.setPkg { s.pkg with fldWdog := true }).fieldDieSafe 4)) ∧
  (∀ (s : State), s.up 2 = true → Runs .refLost s (s.refFault 0)) ∧
  (∀ (ppm : BitVec 16) (s : State), s.up 2 = true →
    let t := s.wf R.CLOCK_REF_STAT 31 16 ppm.toNat
    Runs (.refDrift ppm) s (if 20000 < (toSigned 16 ppm.toNat).natAbs then t.refFault 1 else t)) ∧
  (∀ (s : State), Runs .tdcRecalibrate s s) ∧
  (∀ (i : Island) (s : State), s.up 2 = true →
    let lo := islandLo i
    let new := s.f R.CLOCK_ISL_CTRL (lo + 1) lo
    let old := s.f R.CLOCK_ISL_STAT (lo + 1) lo
    new ≠ old →
      let t := (s.wf R.CLOCK_ISL_STAT (lo + 1) lo new).irq (R.CLOCK 0) 2
      let t := if old = 2 then t.ungate lo else t
      Runs (.islandStateReached i) s
        (if lo = 6 then (if new = 0 then t.pwmGo else if old = 0 then t.pwmStop else t)
         else if lo = 8 ∧ new = 2 then t.gnssOff else t))

/-- Where the events of supplies, temperatures and resets complete (04 R74, R77 to R81). -/
def Obligations.SupplyEventsComplete : Prop :=
  (∀ (s : State), s.pkg.cellar = false → s.b R.SUPPLY_RAIL_STAT 8 = false →
    (s.mode = 0 → Runs .pwrFailAssert s (s.setPkg { s.pkg with pfBoot := true })) ∧
    (s.mode ≠ 0 → Runs .pwrFailAssert s s.pfAct)) ∧
  (∀ (s : State) (t : DT), s.pkg.pfAt = some t → t + msDT (s.f R.SUPPLY_PF_CFG 15 8) ≤ s.dt →
    Runs .pfGraceExpire s ((s.setPkg { s.pkg with pfAt := none }).leave' (s.b R.SUPPLY_PF_CFG 0))) ∧
  (∀ (s : State), s.pkg.cellar = false →
    let t := if s.pkg.pfAt.isSome then s.evNow 0x02 0 else s
    let t := t.wb R.SUPPLY_RAIL_STAT 8 false
    Runs .pwrFailRelease s (t.setPkg { t.pkg with pfAt := none, pfBoot := false })) ∧
  (∀ (rail : Fin 7) (above : Bool) (s : State), s.pkg.cellar = false →
    let t := (s.wb R.SUPPLY_RAIL_STAT rail.val false).fltEv (R.SUPPLY 0) rail.val
    let t := t.setPkg { t.pkg with railsSince := none }
    Runs (.railOutOfRange rail above none) s t ∧
    ∀ n, Runs (.railOutOfRange rail above (some n)) s (t.railAct rail.val above n)) ∧
  (∀ (rail : Fin 7) (s : State), s.up 1 = true →
    let t := s.wb R.SUPPLY_RAIL_STAT rail.val true
    Runs (.railInRange rail) s
      (if t.railsOk ∧ t.pkg.railsSince.isNone = true then t.setPkg { t.pkg with railsSince := some t.dt } else t)) ∧
  (∀ (die : Die) (x : BitVec 16) (s : State), s.up 2 = true → ¬(dieNum die = 2 ∧ s.variant = .n) →
    let d := dieNum die
    let t := s.wf (tempReg d) 15 0 x.toNat
    let t := t.warnTemp d (toSigned 16 x.toNat)
    Runs (.dieTempSample die x) s (t.coolTemp d (toSigned 16 x.toNat))) ∧
  (∀ (die : Die) (s : State), s.up 2 = true → ¬(dieNum die = 2 ∧ s.variant = .n) → s.pkg.hot.getD (dieNum die) false = false →
    let t := s.setPkg { s.pkg with hot := s.pkg.hot.set (dieNum die) true }
    Runs (.dieOvertemp die) s
      (match dieNum die with
       | 0 => t.safeCause cTjLogic
       | 1 => t.fieldDieSafe 2
       | _ => ((t.followChains).irq (R.DIE 0) 3).irqEv (R.SUPPLY 0) 2)) ∧
  (∀ (s : State), Runs .powerOnReset s (s.resetPackage .por 0)) ∧
  (∀ (n : Nat) (s : State), s.pkg.cellar = false →
    Runs (.mainRailLoss n) s (s.resetPackage .mainRail n) ∧ Runs .resetPin s (s.resetPackage .pin 0)) ∧
  (∀ (pair : Fin 2) (s : State), s.up 5 = true → Runs (.wdogReset pair) s (s.resetPackage .wdog 0))

/-- Where the events of the Cellar and the Attic's commands and events complete (04 R71, R84 to R89; 20 R425 to R436). -/
def Obligations.CellarAndAtticComplete : Prop :=
  (∀ (s : State),
    let t := s.setPkg { s.pkg with wakeLow := true, wakeActive := false }
    Runs .wakeLowDebounced s
      (if s.pkg.cellar = false ∧ t.autoEnter = true then
        (if t.mode = 3 ∨ t.mode = 4 then t.requestDrain none false else t.leave' true) else t)) ∧
  (∀ (corr : Nat) (bad : BitVec 8) (s : State), s.pkg.cellar = true →
    let t := (s.satInc R.CELLAR_SCRUB 15 0 corr).satInc R.CELLAR_SCRUB 31 16 (popCount 8 bad.toNat)
    Runs (.cellarScrub corr bad) s (t.wf R.CELLAR_LAST 15 8 (t.f R.CELLAR_LAST 15 8 &&& (~~~ bad).toNat))) ∧
  (∀ (s : State), s.pkg.cellar = true → s.pkg.dramHoldEn = true →
    Runs .dramHoldExpire s (s.setPkg { s.pkg with dramHoldEn := false, dramKept := false })) ∧
  (∀ (stay : Nat) (s : State),
    let t := s.setPkg { s.pkg with wakeLow := false, wakeActive := true }
    (s.pkg.cellar = true → Runs (.wakeHighDebounced stay) s (t.wake 1 stay)) ∧
    (s.pkg.cellar = false → Runs (.wakeHighDebounced stay) s t)) ∧
  (∀ (stay : Nat) (s : State), s.pkg.cellar = true →
    (s.b R.CELLAR_CFG 2 = true → Runs (.canWake stay) s (s.wake 2 stay)) ∧
    (0 < (s.r R.CELLAR_WAKE_TIMER).toNat → (s.r R.CELLAR_WAKE_TIMER).toNat ≤ stay / 32768 →
      Runs (.wakeTimerExpire stay) s (s.wake 3 stay)) ∧
    Runs (.mainRailsReturn stay) s (s.wake 4 stay)) ∧
  (∀ (b : Bool) (s : State), s.atticOpen = true →
    Runs (.eventRecordWrite b) s (s.writeHead b) ∧ Runs (.lifeStatsSave b) s (s.lifeSave b) ∧
    Runs .optCheckpoint s (s.optCheckpoint false)) ∧
  (∀ (c : Cmd) (s : State),
    let k := CmdSpec.mk' 0x0D01 3 2 (c.badArg [] []) (!([1, 2, 4, 5].contains s.mode) || !s.attic.evArchived)
    Accepts s c k → Runs (.evrClear c) s ((s.acceptedBy c k).clearLog.ok c 0 0)) ∧
  (∀ (s : State) (j : Nat), s.worker 7 = some j → Runs .archiveBlock s (s.archiveBlock j)) ∧
  (∀ (s : State), s.pkg.cellar = false → Runs .lifeSecondTick s s.lifeSecond)

/-! ## Start-up, jobs and memory (04 R75; 05 R104 to R106; 06) -/

/-- Where the steps of the start-up sequence complete: each after the one before it. -/
def Obligations.BootStepsComplete : Prop :=
  (∀ (s : State), s.atStep 0 = true →
    Runs .bootPowerRelease s (((s.w R.RESET_CAUSE (nw s.pkg.cause)).wf R.SUPPLY_RAIL_STAT 5 0 0x3F).toStep 1)) ∧
  (∀ (s : State), s.atStep 1 = true →
    let t := (s.wb R.CLOCK_REF_STAT 8 true).wb R.CLOCK_REF_STAT 9 true
    Runs .bootPllLock s (t.setPkg { t.pkg with bootStep := 2, dtRun := true })) ∧
  (∀ (s : State), s.atStep 2 = true → Runs .bootHostReady s (s.toStep 4)) ∧
  (∀ (a b : ImageInfo) (mb : BitVec 8) (s : State), s.atStep 4 = true → s.f R.UPDATE_IMG_STAT 6 5 = 0 →
    let k := if s.b R.UPDATE_IMG_STAT 1 then 1 else 0
    let i := if k = 1 then b else a
    let t := (s.w R.XSPI_STAT (nw (mb.toNat * 256 + 2))).tryImage k i
    t.imageOk i = true → Runs (.bootImageVerify a b mb) s (t.runImage k i)) ∧
  (∀ (n : BitVec 4) (s : State), s.atStep 5 = true →
    let t := (s.wf R.LPDDR_CFG 3 0 n.toNat).wb R.LPDDR_CFG 4 s.pkg.dramKept
    Runs (.bootDramTrained n) s ((t.wb R.CLOCK_REF_STAT 10 true).toStep 6)) ∧
  (∀ (s : State), s.up 6 = true → s.b R.LPDDR_CFG 4 = false →
    let t := { s with mem := s.mem.filter (fun e => !decide (dramBase ≤ e.1)) }.wb R.LPDDR_CFG 4 true
    Runs .dramInitFillDone s (t.setPkg { t.pkg with dramKept := true })) ∧
  (∀ (vdd fb0 fb1 : Bool) (s : State), s.atStep 6 = true →
    let t := (((s.wb R.SUPPLY_RAIL_STAT 6 vdd).toStep 7).wb R.DIE_FLDHB_STAT 0 fb0).wb R.DIE_FLDHB_STAT 1 fb1
    let t := if t.railsOk then t.setPkg { t.pkg with railsSince := some t.dt } else t
    Runs (.bootFieldRelease vdd fb0 fb1) s (if vdd then t else t.fieldDieSafe 3)) ∧
  (∀ (bad : List (BitVec 24)) (newest : Bool) (s : State), s.atStep 7 = true →
    let t := ((if newest then s else s.changeLost).loadStore (bad.map (·.toNat))).pwmSettle
    Runs (.bootConfigLoad bad newest) s (t.setPkg { t.pkg with bootStep := 8, cfgBad := !bad.isEmpty })) ∧
  (∀ (torn : List Nat) (s : State), s.atStep 8 = true →
    let t := s.markTorn torn
    let t := if t.b R.RESET_CAUSE 0 = true ∨ t.b R.RESET_CAUSE 1 = true then t.restoreOp else t
    let t := if t.b R.RESET_CAUSE 0 then t.lifeReload.restoreTotals else t
    let t := (t.evNamed 0x00 (t.r R.RESET_CAUSE) (t.r R.RESET_BOOT_STAT)).toStep 9
    Runs (.bootAtticOpen torn) s (if t.pkg.cfgBad then t.safeCause cCfgStore else t)) ∧
  (∀ (ms : BitVec 16) (s : State), s.atStep 9 = true →
    let t := (s.wf R.RESET_BOOT_STAT 31 16 ms.toNat).toStep 10
    let t := if t.variant = .g then t.wb R.CLOCK_REF_STAT 11 true else t
    let t := if t.r R.SAFE_CAUSE = 0 then t.setMode 1 else t.safeAtBoot
    Runs (.bootComplete ms) s t.afterBoot)

/-- Where the job commands and events complete (05 R104 to R106): JOB_START creates a job in QUEUED and writes its ACCEPTED record;
the others act on the job their handle names; the next job is dispatched, reaches a safe point, ends its work, fails. -/
def Obligations.JobsComplete : Prop :=
  (∀ (c : Cmd) (s : State) (j : Nat),
    let t := s.touchCmd c
    let k := t.startSpec c
    Accepts s c k → s.freeJob = some j →
      let h := ((t.job j).gen % 15 + 1) * 16 + j
      let r0 : Word := if c.byte 8 = 1 then nw (t.freeCtx.getD 0) else 0
      let u := (if k.aud = 0 then t else t.audit (t.cmdAudit c 0x0110 1 h r0 0)).createJob c j
      Runs (.jobStart c) s
        ((u.putRec { ring := c.ring.val, tag := c.tag.toNat, status := 0x01, handle := h, idx := c.idx.toNat,
                     final := false, job := true, detail := 0, r0 := r0, r1 := 0, irq := c.flags.getLsbD 0 }).leave c)) ∧
  (∀ (c : Cmd) (s : State) (j : Nat), s.findJob c.handle.toNat = some j →
    let k := s.handleSpec c 0x0111 (s.handleRole c) (c.badArg [] []) (fun j => !s.canSuspend j)
    let t := s.acceptedBy c k
    Accepts s c k →
      (s.jobSt j = 1 → Runs (.jobSuspend c) s (((t.setJobSt j 4).notifyJob j).reply c 0 c.handle.toNat 0 0 0)) ∧
      (s.jobSt j = 2 → Runs (.jobSuspend c) s ((t.setJob j { t.job j with suspend := some c }).setJobSt j 3))) ∧
  (∀ (c : Cmd) (s : State) (j : Nat), s.findJob c.handle.toNat = some j →
    let k := s.handleSpec c 0x0112 (s.handleRole c) (c.badArg [] [])
      (fun j => s.jobSt j != 4 || !(kindsIn s.mode).contains (s.jobKind j))
    Accepts s c k →
      Runs (.jobResume c) s ((((s.acceptedBy c k).setJobSt j 1).notifyJob j).reply c 0 c.handle.toNat 0 0 0)) ∧
  (∀ (c : Cmd) (s : State) (j : Nat), s.findJob c.handle.toNat = some j →
    let k := s.handleSpec c 0x0113 (s.handleRole c) (c.badArg [] []) (fun j => !s.canCancel j)
    let t := s.acceptedBy c k
    Accepts s c k → Runs (.jobCancel c) s ((t.setJob j { t.job j with cancel := some c }).cancelJob j 0)) ∧
  (∀ (c : Cmd) (s : State) (j : Nat), s.findJob c.handle.toNat = some j →
    let k := s.handleSpec c 0x0114 1 (c.badArg [(8, 8)] (need 8 (decide (c.byte 8 ≤ 1)))) (fun _ => false)
    let t := s.acceptedBy c k
    Accepts s c k →
      Runs (.jobQuery c) s
        ((if c.byte 8 = 1 ∧ liveJob (t.jobSt j) = false then t.freeSlotOf j else t).reply c 0 c.handle.toNat 0
          (t.r (R.JOBS_JOB_STAT j)) (t.jobMs j))) ∧
  (∀ (s : State) (j : Nat), s.nextJob = some j → s.runSlots < 8 → Runs .jobDispatch s (s.enterRun j)) ∧
  (∀ (slot : Fin 16) (s : State), s.b (R.JOBS_JOB_STAT slot.val) 7 = false →
    (s.jobSt slot.val = 3 →
      Runs (.jobSafePoint slot) s
        ((((s.suspendKind slot.val).setJobSt slot.val 4).notifyJob slot.val).endSuspend slot.val 0)) ∧
    (s.jobSt slot.val = 5 →
      Runs (.jobSafePoint slot) s (s.endCancelled slot.val (s.job slot.val).cancelDetail))) ∧
  (∀ (slot : Fin 16) (s : State), (s.jobSt slot.val = 2 ∨ s.jobSt slot.val = 3) → (s.job slot.val).step = doneStep →
    Runs (.jobWorkComplete slot) s (s.jobDone slot.val (s.job slot.val).res0 (s.job slot.val).res1)) ∧
  (∀ (slot : Fin 16) (d : BitVec 8) (s : State), s.jobActive slot.val = true →
    Runs (.jobError slot d) s (s.failJob slot.val d.toNat) ∧
    Runs (.jobDmaFaultTimeout slot) s (s.failJob slot.val 0x10))

/-- Where the memory events complete (06 R113 to R116, R123, R124, R130). -/
def Obligations.MemoryEventsComplete : Prop :=
  (∀ (n : Nat) (ue : Option (BitVec 40)) (s : State), s.pkg.cellar = false →
    Runs (.sramPatrolScrub n ue) s (s.scrubFound 0 n ue) ∧
    (s.b R.LPDDR_CFG 4 = true → s.dramSize ≠ 0 → Runs (.lpddrPatrolScrub n ue) s (s.scrubFound 2 n ue))) ∧
  (∀ (s : State), Runs .xspiTimeout s (s.fltEv (R.XSPI 0) 0)) ∧
  (∀ (bad : List (Fin 576)) (s : State) (i : Nat), s.mu.fillNow = some i → (s.slot i).discard = false →
    (s.slot i).st = .filling →
      Runs (.pantryFillComplete bad) s (({ s with mu := { s.mu with fillNow := none } }.fillSlot i bad).pump)) ∧
  (∀ (slot : Fin 112) (s : State), (s.slot slot.val).st = .dirty → (s.slot slot.val).dirtySince + sDT 1 ≤ s.dt →
    Runs (.dirtyAgeExpire slot) s (s.beginWb slot.val)) ∧
  (∀ (ue : Bool) (s : State) (i : Nat) (q : List Nat), s.mu.wbQ = i :: q →
    let t := { s with mu := { s.mu with wbQ := q } }
    Runs (.pantryWritebackComplete ue) s (if ue then t.eccBad 0 (slotAddr i) else t.wbEnd i).pump) ∧
  (∀ (ch : Fin 16) (ue : Bool) (s : State), Runs (.dmaBurst ch ue) s (s.dmaBurst ch.val ue))

/-! ## Host interfaces and buses (05, 18) -/

/-- Where the PCIe events complete (05 R91, R92, R95, R121; 21 R456): resets and link changes of a port that answers, a
poisoned and a malformed request, and the BAR2 accesses that cross no 4 KB boundary. -/
def Obligations.PcieCommandsComplete : Prop :=
  (∀ (s : State), s.answers = true →
    Runs .pcieFlr s (s.pcieReset.w R.PCIE_LINK_STAT (s.r R.PCIE_LINK_STAT)) ∧
    Runs .pciePoisonedRequest s (s.flt (R.PCIE 0) 1)) ∧
  (∀ (s : State), s.answers = true → s.b R.PCIE_LINK_STAT 8 = true →
    let t := s.pcieReset.flt (R.PCIE 0) 0
    Runs .pcieLinkDown s (t.setHost { t.host with linkLost := true })) ∧
  (∀ (n : BitVec 4) (s : State), s.answers = true → 1 ≤ n.toNat → n.toNat ≤ 3 →
    let t := s.w R.PCIE_LINK_STAT (nw (0x110 + n.toNat))
    Runs (.pcieLinkUp n) s
      (if s.host.linkLost then (t.setHost { t.host with linkLost := false }).irq (R.PCIE 0) 0 else t)) ∧
  (∀ (s : State), Runs .pcieMalformedTlp s s) ∧
  (∀ (ofs : BitVec 20) (data : List Byte) (be : List Bool) (ue : Bool) (s : State), s.answers = true →
    crosses4K ofs.toNat data.length = false →
      Runs (.bar2SramAccess ofs true data be ue) s (s.bar2Write ofs.toNat data be) ∧
      Runs (.bar2SramAccess ofs false data be false) s
        ((s.returns (paddedWords (s.rdBytes (sharedBase + ofs.toNat) data.length))).bar2Done 0)) ∧
  (∀ (ofs : BitVec 31) (n : Nat) (s : State), s.answers = true → crosses4K ofs.toNat n = false →
    Runs (.bar2FieldStoreAccess ofs true n) s (s.viewWrite ofs.toNat n) ∧
    Runs (.bar2FieldStoreAccess ofs false n) s (s.viewRead ofs.toNat n)) ∧
  (∀ (s : State), s.answers = true →
    Runs (.bar2ReservedAccess true) s (s.flt (R.PCIE 0) 2) ∧
    Runs (.bar2ReservedAccess false) s ((s.flt (R.PCIE 0) 2).bar2Done 1))

/-- Where the quad-SPI frames complete (05 R93): a well-formed frame of each opcode with its checks right acts, and its result
is 0x0; a status read returns the result before it. -/
def Obligations.HspiFramesComplete : Prop :=
  (∀ (hdr : BitVec 40) (hcrc dcrc : BitVec 16) (data : List Word) (s : State),
    s.hspiFine 0x02 hdr hcrc = true → crc16 0xFFFF#16 (data.flatMap wordBytes) = dcrc → data.length = hdrCount hdr →
      Runs (.hspiRegWriteFrame hdr hcrc data dcrc) s ((s.frame.regWrites .hspi (hdrAddr hdr) data).frameRes 0)) ∧
  (∀ (hdr : BitVec 40) (hcrc : BitVec 16) (s : State), s.hspiFine 0x0B hdr hcrc = true →
    let x := s.frame.regReads .hspi (hdrAddr hdr) (hdrCount hdr)
    Runs (.hspiRegReadFrame hdr hcrc) s ((x.2.returns x.1).frameRes 0)) ∧
  (∀ (hdr : BitVec 40) (hcrc dcrc : BitVec 16) (data : List Word) (s : State),
    s.hspiFine 0x12 hdr hcrc = true → crc16 0xFFFF#16 (data.flatMap wordBytes) = dcrc → data.length = hdrCount hdr →
      Runs (.hspiSramWriteFrame hdr hcrc data dcrc) s ((s.frame.wrWords (sharedBase + hdrAddr hdr) data).frameRes 0)) ∧
  (∀ (hdr : BitVec 40) (hcrc : BitVec 16) (s : State), s.hspiFine 0x1B hdr hcrc = true →
    Runs (.hspiSramReadFrame hdr hcrc) s
      ((s.frame.returns (s.frame.rdWords (sharedBase + hdrAddr hdr) (hdrCount hdr))).frameRes 0)) ∧
  (∀ (s : State), s.hspiUp = true → Runs .hspiStatusRead s (s.frame.returns [nw s.host.hspiRes]))

/-- Where the Ethernet service's commands complete (05 R96; 19 R410 to R412): a connection on a port that listens with a place
free, messages of an open connection, the key exchange, the role signature, the end of a connection. -/
def Obligations.EthernetServiceCompletes : Prop :=
  (∀ (port : Fin 2) (s : State) (k : Nat), s.ethListens port.val = true →
    [2 * port.val, 2 * port.val + 1].find? (fun k => !(s.conn k).up) = some k →
      Runs (.ethConnect port) s ((s.setupRing (2 + port.val)).setConn k ⟨true, none, false, none⟩)) ∧
  (∀ (k : Fin 4) (desc : List Byte) (s : State), (s.conn k.val).up = true → s.connOpen k.val = true → desc.length = 64 →
    let r := 2 + k.val / 2
    let t := s.f (R.PORCH_CMD_TAIL r) 9 0
    s.ringEn r = true → (t + 1) % s.cmdSize r ≠ s.f (R.PORCH_CMD_HEAD r) 9 0 →
      Runs (.ethCommandMessage k false desc) s
        ((s.wrBytes (sharedBase + s.f (R.PORCH_CMD_BASE r) 19 6 * 64 + 64 * t) desc).wf (R.PORCH_CMD_TAIL r) 9 0
          ((t + 1) % s.cmdSize r))) ∧
  (∀ (k : Fin 4) (hdr : BitVec 40) (data : List Word) (s : State), (s.conn k.val).up = true → s.connOpen k.val = true →
    hdrCount hdr ≤ 16 →
      (hdrByte hdr 0 = 0x02 → data.length = hdrCount hdr →
        Runs (.ethRegisterFrame k false hdr data) s ((s.regWrites (.eth k) (hdrAddr hdr) data).ethSend k.val 4 [0])) ∧
      (hdrByte hdr 0 = 0x0B →
        let x := s.regReads (.eth k) (hdrAddr hdr) (hdrCount hdr)
        Runs (.ethRegisterFrame k false hdr data) s ((x.2.returns x.1).ethSend k.val 4 (0 :: x.1)))) ∧
  (∀ (k : Fin 4) (role : BitVec 8) (s : State), (s.conn k.val).up = true → (s.conn k.val).estab = false →
    1 ≤ role.toNat → role.toNat ≤ 4 → s.ifLocked (2 + k.val) = false → (role.toNat = 4 → s.osardOk = true) →
      let eph := (List.range 49).map (fun i => (Config.freeWord (s.freeCtr + i)).setWidth 32)
      let x := { s with freeCtr := s.freeCtr + 49 }.issue (connSlot k) role.toNat
      Runs (.ethKeyExchange k role) s
        ((x.2.2.setConn k.val ⟨true, some role.toNat, false, none⟩).ethSend k.val 0x11
          (eph.take 25 ++ x.2.1 ++ eph.drop 25))) ∧
  (∀ (k : Fin 4) (key : Option (Fin 17)) (s : State) (x : Challenge), (s.conn k.val).up = true → (s.conn k.val).estab = false →
    s.sec.chals.reverse.find? (fun y => y.slot == connSlot k && s.fresh y) = some x →
      let t := s.setSec { s.sec with chals := s.sec.chals.erase x }
      let y := t.attempt (connSlot k) x.role (t.keyFits x.role key && (x.role != 4 || t.osardOk))
      y.1 = 0 →
        Runs (.ethRoleSignature k key) s
          ((y.2.setConn k.val ⟨true, some x.role, true, none⟩).ethSend k.val 0x13
            [nw (y.2.slotNum (connSlot k).val * 65536)])) ∧
  (∀ (k : Fin 4) (ctr : Nat) (s : State), (s.conn k.val).up = true → s.connOpen k.val = true →
    (∀ c, (s.conn k.val).rxCtr = some c → c < ctr) →
      let t := s.setConn k.val { s.conn k.val with rxCtr := some ctr }
      (∀ desc, Runs (.ethProtectedMessage k ctr true (.command desc)) s (t.ethCommand k.val desc)) ∧
      (∀ hdr data, Runs (.ethProtectedMessage k ctr true (.regFrame hdr data)) s (t.ethRegFrame k hdr data)) ∧
      Runs (.ethProtectedMessage k ctr true .other) s t) ∧
  (∀ (k : Fin 4) (s : State), (s.conn k.val).up = true → Runs (.ethConnectionLoss k) s (s.dropConn k.val))

/-- Where the Porch completes (05 R98, R100, R103, R104): the fetch of a descriptor with room for its records and no fence
to wait for runs the command the descriptor holds, at the ring's next head; a damaged descriptor completes with FAULT; NOP
completes with OK. -/
def Obligations.PorchCompletes : Prop :=
  (∀ (ring : Fin 4) (ecc : Bool) (key : Option (Fin 17)) (s : State), s.answers = true → s.ringEn ring.val = true →
    let r := ring.val
    let h := s.f (R.PORCH_CMD_HEAD r) 9 0
    h ≠ s.f (R.PORCH_CMD_TAIL r) 9 0 → s.heldBack r = false → s.busyCmds r < 8 →
      let d := s.rdBytes (sharedBase + s.f (R.PORCH_CMD_BASE r) 19 6 * 64 + 64 * h) 64
      let c := descCmd ring h d
      let t := s.wf (R.PORCH_CMD_HEAD r) 9 0 ((h + 1) % s.cmdSize r)
      (ecc = true → Runs (.porchDescriptorFetch ring ecc key) s (t.damagedDesc r h)) ∧
      (ecc = false → (c.flags.getLsbD 1 = false ∨ s.busyCmds r = 0) →
        exec (.porchDescriptorFetch ring ecc key) s = t.runDesc (leNat (d.take 2)) c key ∧
        ∃ u, Runs (.porchDescriptorFetch ring ecc key) s u)) ∧
  (∀ (c : Cmd) (s : State),
    let k := { CmdSpec.mk' 0x0100 0 0 (c.badArg [] []) false with inBoot := true }
    Accepts s c k → Runs (.nop c) s ((s.acceptedBy c k).ok c 0 0))

/-- Where the CAN events, CAN_TX and the events of the Ethernet ports complete (18 R373 to R376, R381, R382). -/
def Obligations.BusEventsComplete : Prop :=
  (∀ (bus : Fin 6) (id : Word) (dlc : BitVec 4) (data : List Byte) (sof : BitVec 64) (tec rec_ : Byte) (s : State),
    s.canUp bus.val = true → s.pkg.cellar = false →
      let t := s.canErr bus.val tec rec_
      let t := if t.tcBus = some bus.val ∧ isTcStatus id data = true then t.setComm { t.comm with tcUp := true } else t
      Runs (.canFrameRx bus id dlc data sof tec rec_) s
        (if 2 ≤ bus.val ∧ t.b (R.CAN_CAN_CFG bus.val) 29 = true then t.rawRx bus.val (rawRecord id dlc.toNat data sof.toNat)
         else t)) ∧
  (∀ (c : Cmd) (s : State),
    let b := c.byte 8
    let o := c.num 20 4
    let n := canLen (c.word 3) (c.byte 16)
    let wrong := (if b < 6 then [] else [8]) ++ (if c.byte 16 < 16 then [] else [16]) ++
      (if o + n ≤ 0x100000 then [] else [20])
    let k := CmdSpec.mk' 0x0B01 1 0 (c.badArg [(8, 8), (12, 16), (20, 23)] wrong)
      (decide (b < 2) || !s.b (R.CAN_CAN_CFG b) 31)
    let t := s.acceptedBy c k
    Accepts s c k → t.f (R.CAN_CAN_STAT b) 1 0 ≠ 2 →
      let d := (t.rdBytes (sharedBase + o) n ++ List.replicate 64 0).take ((n + 3) / 4 * 4)
      Runs (.canTx c) s
        (t.setComm { t.comm with
          tx := t.comm.tx ++ [CanTx.mk b c ([c.word 3, nw (c.byte 16)] ++ bytesWords ((n + 3) / 4) d)] })) ∧
  (∀ (bus : Fin 6) (tec rec_ : Byte) (s : State) (e : CanTx), s.canUp bus.val = true →
    s.b (R.CAN_CAN_CFG bus.val) 30 = false → s.comm.tx.find? (fun e => e.bus == bus.val) = some e →
      let t := s.canErr bus.val tec rec_
      let t := t.setComm { t.comm with tx := t.comm.tx.erase e }
      Runs (.canFrameSent bus tec rec_) s
        ({ t with host := { t.host with out := t.host.out ++ [OutMsg.mk bus.val 0 e.words] } }.ok e.cmd 0 0)) ∧
  (∀ (bus : Fin 6) (tec rec_ : Byte) (s : State), s.canUp bus.val = true →
    let t := ((s.canErr bus.val tec rec_).wf (R.CAN_CAN_STAT bus.val) 1 0 2).fltEv (R.CAN bus.val 0) 0
    Runs (.canBusOff bus tec rec_) s
      ((t.comm.tx.filter (fun e => e.bus == bus.val)).foldl (fun u e => u.reply e.cmd 0x20 0 0x70 0 0)
        (t.setComm { t.comm with tx := t.comm.tx.filter (fun e => e.bus != bus.val) }))) ∧
  (∀ (bus : Fin 6) (s : State), s.b (R.CAN_CAN_CFG bus.val) 31 = true → s.f (R.CAN_CAN_STAT bus.val) 1 0 = 2 →
    Runs (.canBusOffRecovery bus) s (s.canErr bus.val 0 0)) ∧
  (∀ (bus : Fin 2) (addr : Byte) (s : State), s.canUp bus.val = true → s.b (R.CAN_CAN_CFG bus.val) 30 = false →
    s.f (R.CAN_CAN_ADDR bus.val) 15 8 ≤ addr.toNat → addr.toNat < 0xFE →
      Runs (.addressClaim bus addr) s
        ((s.wf (R.CAN_CAN_ADDR bus.val) 7 0 addr.toNat).wb (R.CAN_CAN_ADDR bus.val) 16 true)) ∧
  (∀ (bus : Fin 2) (s : State), s.b (R.CAN_CAN_ADDR bus.val) 16 = true →
    Runs (.addressLost bus) s
      (((s.wb (R.CAN_CAN_ADDR bus.val) 16 false).wf (R.CAN_CAN_ADDR bus.val) 7 0 0xFE).fltEv (R.CAN bus.val 0) 1)) ∧
  (∀ (port : Fin 2) (s : State), s.b (R.ETH_ETH_CFG port.val) 31 = true → s.f (R.ETH_ETH_STAT port.val) 1 0 ≠ 0 →
    s.pkg.cellar = false →
      (∀ (sender : Word), Runs (.ethFrameRx port (.arp (s.r (R.ETH_IP port.val)) sender)) s
        (s.ethOut port.val 4 [sender, s.r (R.ETH_IP port.val), s.r (R.ETH_MAC_LO port.val), s.r (R.ETH_MAC_HI port.val)])) ∧
      (∀ (ip sender : Word), ip ≠ s.r (R.ETH_IP port.val) → Runs (.ethFrameRx port (.arp ip sender)) s s) ∧
      (∀ (src : Word) (data : List Word), Runs (.ethFrameRx port (.echo src data)) s (s.ethOut port.val 5 (src :: data))) ∧
      Runs (.ethFrameRx port .udp) s s ∧ Runs (.ethFrameRx port .tcp) s s ∧
      Runs (.ethFrameRx port .other) s (s.satInc (R.ETH_ETH_STAT port.val) 31 16 1)) ∧
  (∀ (port : Fin 2) (speed : BitVec 2) (s : State),
    let t := s.wf (R.ETH_ETH_STAT port.val) 1 0 speed.toNat
    Runs (.ethLinkChange port speed) s
      (if s.f (R.ETH_ETH_STAT port.val) 1 0 ≠ 0 ∧ speed = 0 then t.fltEv (R.ETH port.val 0) 0 else t)) ∧
  (∀ (port : Fin 2) (ns : BitVec 64) (us : Word) (s : State), s.b (R.ETH_ETH_CFG port.val) 31 = true →
    s.f (R.ETH_ETH_STAT port.val) 1 0 ≠ 0 → s.b (R.ETH_PTP_CFG port.val) 0 = true →
      Runs (.ptpSync port ns us) s
        ((s.setComm { s.comm with ptp := s.comm.ptp.set port.val (some (s.dt, (ns.toNat : Int), usDT us.toNat)) }).wb
          (R.ETH_PTP_STAT port.val) 0 true)) ∧
  (∀ (port : Fin 2) (s : State) (t : DT) (ns : Int) (i : DT), s.comm.ptp.getD port.val none = some (t, ns, i) →
    s.b (R.ETH_PTP_STAT port.val) 0 = true → t + 3 * i ≤ s.dt →
      Runs (.ptpSyncLoss port) s ((s.wb (R.ETH_PTP_STAT port.val) 0 false).fltEv (R.ETH port.val 0) 1))

/-- Where the events of the Hexyon ring complete (18 R385 to R391). -/
def Obligations.HexyonEventsComplete : Prop :=
  (∀ (s : State), s.pkg.bootStep = 10 → s.pkg.cellar = false →
    let t := if s.b R.HXL_HX_CFG 0 then
        let u := if s.comm.masterAt.isNone then s.setComm { s.comm with masterAt := some s.dt } else s
        let u := (u.wb R.SYSNET_MEMBER_STAT u.nodeId true).countMask
        ((u.sendBeacon 0 (u.hxSeq 1)).sendBeacon 1 (u.hxSeq 1)).hxCount 1
      else s
    Runs .beaconSend s (if t.hbGood then t.hbNote else t.sysHb)) ∧
  (∀ (port : Fin 2) (hdr : Word) (pay : List Word) (crc : Word) (t : BitVec 64) (s : State), s.b R.HXL_HX_CFG 0 = true →
    s.pkg.cellar = false →
      (crc = crc32 ((hdr :: pay).flatMap wordBytes) → pay.length = fld hdr 11 8 + 1 →
        Runs (.hxFrameRx port hdr pay crc t) s (s.hxGood port.val hdr pay t.toNat)) ∧
      (crc ≠ crc32 ((hdr :: pay).flatMap wordBytes) →
        Runs (.hxFrameRx port hdr pay crc t) s (s.satInc (R.HXL_HX_PORT port.val) 15 0 1))) ∧
  (∀ (node : Fin 4) (s : State), node.val ≠ s.nodeId → s.b R.SYSNET_MEMBER_STAT node.val = true →
    (∀ t, (s.node node.val).seen = some t → t + s.hbDT ≤ s.dt) →
      let t := ((s.setNode node.val ⟨none, none, [[], [], []]⟩).wb R.SYSNET_MEMBER_STAT node.val false).wb
        R.SYSNET_MEMBER_STAT (4 + node.val) false
      let t := if t.b R.SYSNET_MEMBER_STAT 10 = true ∧ t.f R.SYSNET_MEMBER_STAT 9 8 = node.val then
        t.wb R.SYSNET_MEMBER_STAT 10 false else t
      let t := t.countMask
      Runs (.nodeAbsent node) s (if t.hbGood then t else t.sysHb)) ∧
  (∀ (s : State) (t : DT), s.b R.SYSNET_CFG 10 = true → s.b R.HXL_HX_CFG 0 = true → s.pkg.bootStep = 10 →
    s.pkg.cellar = false → s.isMaster = false → s.comm.masterAt = some t →
    t + s.hbDT + msDT (2 * s.nodeId) ≤ s.dt →
      let u := s.setMaster s.nodeId
      let u := if u.r R.SYSNET_MAP_SEQ = 0 then u.setSyst u.dt u.dt 0 else u
      Runs .masterClaim s ((u.wb R.SYSNET_MEMBER_STAT 11 true).wb R.SYSNET_MEMBER_STAT u.nodeId true).countMask) ∧
  (∀ (s : State), s.isMaster = false → s.synced = true → s.r64 R.SYSNET_S_ADT_LO + publishDT ≤ s.dt →
    Runs .systPublish s s.publishSyst)

/-! ## Outlet drive, motion, PWM and field inputs (11, 12, 14, 15) -/

/-- Where the events of outlet channels complete (11 R241 to R246, R249, R254, R255): for a pair, at the even channel. -/
def Obligations.ChannelEventsComplete : Prop :=
  (∀ (ch : Fin 192) (s : State),
    let n := s.leadChan ch.val
    s.chSt n = cPull →
    let t := s.setChan n { s.chan n with peaked := true }
    Runs (.pullinPeakReached ch) s
      (if s.dt < (s.chan n).since + usDT (100 * s.f (R.OUTC_CH_TIME n) 23 16) then t.endEpisode n 6 else t)) ∧
  (∀ (ch : Fin 192) (s : State),
    let n := s.leadChan ch.val
    s.chSt n = cPull →
    (((s.chan n).peaked = true ∧ (s.chan n).since + usDT (100 * s.f (R.OUTC_CH_TIME n) 31 24) ≤ s.dt) ∨
      (s.chan n).since + msDT 20 ≤ s.dt) →
      Runs (.pullinEnd ch) s (((s.setChSt n cHold).setTrim n).admitPull (regionOf n) 48)) ∧
  (∀ (ch : Fin 192) (s : State),
    let n := s.leadChan ch.val
    s.chSt n = cPull → (s.chan n).peaked = false →
    (s.chan n).since + usDT (100 * s.f (R.OUTC_CH_TIME n) 23 16) ≤ s.dt →
      Runs (.weakPullin ch) s (s.chFault n 6)) ∧
  (∀ (ch : Fin 192) (s : State) (r : Req),
    let n := s.leadChan ch.val
    s.drive.waits.find? (fun r => r.ch == n) = some r → r.src ≤ 2 →
    r.dt + usDT (s.f R.DRVCTL_CFG 31 16) ≤ s.dt →
      Runs (.staggerMaxExpire ch) s ((s.countForced (regionOf n)).startPull n)) ∧
  (∀ (ch : Fin 192) (s : State),
    let n := s.leadChan ch.val
    s.chSt n = cDecay →
    ((s.chan n).closing = none → Runs (.decayCurrentLow ch) s (s.goOff n)) ∧
    (∀ k, (s.chan n).closing = some k → s.b (R.OUTC_CH_CFG n) 27 = true →
      let t := s.setChSt n cSense
      Runs (.decayCurrentLow ch) s (t.setChan n { t.chan n with closing := some { k with sense := some t.dt } })) ∧
    (∀ k, (s.chan n).closing = some k → s.b (R.OUTC_CH_CFG n) 27 = false →
      Runs (.decayCurrentLow ch) s ((s.missClosing n).goOff n))) ∧
  (∀ (ch : Fin 192) (s : State),
    let n := s.leadChan ch.val
    (s.chSt n = cPull ∨ s.chSt n = cHold) →
    Runs (.outletOvercurrent ch) s (s.overcurrent n)) ∧
  (∀ (ch : Fin 192) (s : State),
    let n := s.leadChan ch.val
    s.chSt n = cFault → s.b (R.OUTC_CH_STAT n) 24 = false →
    (s.chan n).since + msDT (10 * s.f (R.OUTC_CH_CFG n) 23 16) ≤ s.dt →
      Runs (.outletRetryExpire ch) s ((s.goOff n).repull n 1)) ∧
  (∀ (ch : Fin 192) (s : State),
    let n := s.leadChan ch.val
    s.chSt n = cHold → (s.chan n).since + sDT 1 ≤ s.dt →
    Runs (.retryCountReset ch) s
      (((s.wf (R.OUTC_CH_STAT n) 27 25 0).endEpisode n 0).endEpisode n 1)) ∧
  (∀ (ch : Fin 192) (s : State) (t : Train) (o : Owner),
    let n := s.leadChan ch.val
    (s.chan n).train = some t → (s.chan n).own = some o →
    t.next ≤ s.dt → Runs (.pwmNozzlePulseStart ch) s (s.pulseStart n t o)) ∧
  (∀ (ch : Fin 192) (s : State) (t : Train),
    let n := s.leadChan ch.val
    (s.chan n).train = some t → (s.chSt n = cPull ∨ s.chSt n = cHold) →
    t.start + usDT t.tOn ≤ s.dt → usDT (t.tOn + 500) < s.pwmPeriod n →
      Runs (.pwmNozzlePulseDecay ch) s (s.enterDecay n none))

/-- Where the events of regions complete (11 R247, R250 to R252): each takes its measurement, and acts where its condition
holds. -/
def Obligations.RegionEventsComplete : Prop :=
  (∀ (reg : Fin 4) (v : BitVec 16) (s : State),
    let t := s.setField reg.val v.toNat
    (t.regSt reg.val = 1 → t.liveAbove reg.val < v.toNat → Runs (.regionFieldLive reg v) s (t.goLive reg.val)) ∧
    (t.regSt reg.val = 0 → t.b (R.REGION_CFG reg.val) 31 = true → 300 < v.toNat →
      (t.region reg.val).since + msDT 10 ≤ t.dt →
        Runs (.regionSwitchStuck reg v) s (t.fltEv (R.REGION reg.val 0) 1)) ∧
    (t.regSt reg.val = 2 → v.toNat < t.f (R.REGION_SAG reg.val) 15 8 * 10 →
      Runs (.regionLockoutEntry reg v) s (t.lockout reg.val)) ∧
    (t.regSt reg.val = 3 → t.liveAbove reg.val < v.toNat →
      Runs (.regionRecover reg v) s
        (((t.setRegSt reg.val 2).irq (R.REGION reg.val 0) 3).repullAll (chansOf reg.val))) ∧
    ((t.regSt reg.val = 2 ∨ t.regSt reg.val = 3) → Runs (.regionSagThreshold reg v) s (t.sagFlags reg.val))) ∧
  (∀ (reg : Fin 4) (s : State), s.regSt reg.val = 1 → (s.region reg.val).since + msDT 10 ≤ s.dt →
    let t := (chansOf reg.val).foldl (fun (u : State) n =>
      if (u.chan n).force.isSome then (u.setWant n false).dropForce n 0x20 0x50 else u) s
    let t := (t.openRegion reg.val).fltEv (R.REGION reg.val 0) 0
    Runs (.regionCloseTimeout reg) s
      (match (t.region reg.val).cmd with
       | some c => (t.setRegion reg.val { t.region reg.val with cmd := none }).reply c 0x20 0 0x50 0 0
       | none => t)) ∧
  (∀ (reg : Fin 4) (v : BitVec 16) (cur : List (BitVec 12)) (s : State),
    let g := reg.val
    let t := (s.setField g v.toNat).bandUpdate g v.toNat
    let t := (chansOf g).foldl (fun u n => u.wf (R.OUTC_CH_STAT n) 23 12 ((cur.getD (n - 48 * g) 0).toNat)) t
    Runs (.regionThermalEstimate reg v cur) s ((t.thermalStep g).thermalFlag g))

/-- Where the protection events of outlet channels and clusters and the events of boost channels complete (11 R254 to R259). -/
def Obligations.ProtectionAndBoostComplete : Prop :=
  (∀ (ch : Fin 192) (cur : BitVec 12) (s : State) (t : DT),
    let n := s.leadChan ch.val
    (s.chSt n = cPull ∨ s.chSt n = cHold) → (s.chan n).lastPull = some t → t + msDT 1 ≤ s.dt →
      Runs (.openOnCheck ch cur) s (if cur.toNat < 50 then s.chFault n 2 else s.endEpisode n 2)) ∧
  (∀ (ch : Fin 192) (up down : BitVec 16) (s : State), s.chSt ch.val = cOff →
    let n := ch.val
    let t := s.wf (R.OUTC_CH_MEAS n) 31 16 down.toNat
    let short : Bool :=
      decide (t.f (R.REGION_SAG (regionOf n)) 15 8 * 10 < t.field (regionOf n)) && t.f (R.OUTC_CH_DIAG n) 31 24 == 0xFF
    let k := if short then (t.chan n).sgRun + 1 else 0
    (250 < up.toNat → down.toNat < 100 →
      Runs (.offstateTest ch up down) s ((t.setChan n { t.chan n with sgRun := 0, crossOk := 0 }).chFault n 3)) ∧
    (up.toNat < 100 → down.toNat < 100 →
      let u := t.setChan n { t.chan n with sgRun := k, crossOk := 0 }
      Runs (.offstateTest ch up down) s (if 2 ≤ k then (u.chFault n 4).sgOpen (regionOf n) else u)) ∧
    (¬(250 < up.toNat ∧ down.toNat < 100) → ¬(up.toNat < 100 ∧ down.toNat < 100) →
      Runs (.offstateTest ch up down) s (t.offstatePass n))) ∧
  (∀ (ch : Fin 192) (s : State) (m : Nat), s.chSt ch.val = cOff →
    (chansOf (regionOf ch.val)).find? (fun m =>
      m != ch.val && (match (s.chan m).lastPull with | some t => decide (s.dt ≤ t + usDT 100) | none => false)) = some m →
      Runs (.crossSuspect ch) s
        (((s.setChan ch.val { s.chan ch.val with crossOk := 0 }).wf (R.OUTC_CH_DIAG ch.val) 31 24 m).chFault ch.val 5)) ∧
  (∀ (cl : Fin 24) (t : BitVec 16) (s : State),
    (160 * 16 ≤ t.toInt → s.drive.clHot.getD cl.val false = false →
      Runs (.clusterOvertemp cl t) s
        ((((s.setClTemp cl.val t true).cutAll (clusterChans cl.val)).irqEv (R.OUTC cl.val 0) 0).flt (R.OUTC cl.val 0) 0)) ∧
    (t.toInt < 140 * 16 → s.drive.clHot.getD cl.val false = true →
      Runs (.clusterTempRecover cl t) s ((s.setClTemp cl.val t false).repullAll (clusterChans cl.val)))) ∧
  (∀ (b : Fin 8) (s : State), s.bstSt b.val = bPeak →
    Runs (.boostPeakReached b) s (s.peakDone b.val) ∧
    ((s.bst b.val).since + usDT (s.f (R.BANK_BST_TIME b.val) 15 0) ≤ s.dt →
      Runs (.boostTpkMax b) s ((s.bstFault b.val 1).peakDone b.val))) ∧
  (∀ (b : Fin 8) (s : State) (t : DT), (s.bst b.val).shotEnd = some t → t ≤ s.dt →
    (s.bstSt b.val = bPeak ∨ s.bstSt b.val = bHold) → Runs (.boostShotEnd b) s (s.bstDecay b.val)) ∧
  (∀ (b : Fin 8) (s : State), s.bstSt b.val = bDecay → Runs (.boostCurrentLow b) s (s.setBstSt b.val bOff)) ∧
  (∀ (b : Fin 8) (v : BitVec 16) (s : State),
    let t := s.setVbst v
    (t.bstWaits (b.val / 4)).head? = some b.val → t.canPeak b.val = true →
      Runs (.boostWaitStart b v) s (t.startPeak b.val)) ∧
  (∀ (b : Fin 8) (s : State) (t : DT), (s.bst b.val).waitSince = some t → s.bstSt b.val = bWait →
    t + usDT (100 * s.f (R.BANK_BK_CFG (b.val / 4)) 31 24) ≤ s.dt → Runs (.boostDeferExpire b) s (s.bstRefuse b.val)) ∧
  (∀ (b : Fin 8) (s : State), (s.bstSt b.val = bPeak ∨ s.bstSt b.val = bHold) →
    Runs (.boostOvercurrent b) s
      (((s.bstStop b.val bFault).bstFault b.val 0).flt (R.BANK (b.val / 4) 0) 0)) ∧
  (∀ (v : BitVec 16) (s : State),
    let t := s.setVbst v
    (6600 < v.toNat → t.drive.vbstOff = false →
      Runs (.vbstOvervoltage v) s
        ((({ t with drive := { t.drive with vbstOff := true } }.banksOff bOff).fltEv (R.DRVCTL 0) 0).life 1172 4 1)) ∧
    (v.toNat < t.f R.DRVCTL_VBST_CFG 23 16 * 100 → (∃ b, b < 8 ∧ t.bstSt b = bWait) →
      Runs (.vbstLow v) s (t.flt (R.DRVCTL 0) 1)) ∧
    (v.toNat < t.f R.DRVCTL_VBST_CFG 31 24 * 100 →
      Runs (.vbstRecover v) s { t with drive := { t.drive with vbstOff := false } }))

/-- Where the drive's commands complete (11 R260): OUT_FORCE, REGION_CTRL, CH_UNLATCH, and the end of a forced pulse. -/
def Obligations.DriveCommandsComplete : Prop :=
  (∀ (c : Cmd) (s : State),
    let u := c.byte 8
    let act := c.byte 9
    let pulse := if act = 2 then c.num 12 4 else 0
    let k := CmdSpec.mk' 0x0601 3 0 (c.badArg [(8, 9), (12, 15)] (forceWrong c)) (s.forceConflict u act)
    Accepts s c k →
      let t := (s.acceptedBy c k).evGeneric (if u < 192 then R.OUTC_CH_STAT u else R.BANK_BST_STAT (u - 192))
      Runs (.outForce c) s
        (if u < 192 then (if act = 0 then (t.forceOff u).ok c 0 0 else t.forceOn c u pulse)
         else if act = 0 then (t.bstForceOff (u - 192)).ok c 0 0 else t.bstForceOn c (u - 192) pulse)) ∧
  (∀ (u : Fin 200) (s : State) (t : DT), t ≤ s.dt →
    (u.val < 192 → (s.chan u.val).forceEnd = some t → Runs (.outForcePulseEnd u) s (s.forceOff u.val)) ∧
    (192 ≤ u.val → (s.bst (u.val - 192)).forceEnd = some t → Runs (.outForcePulseEnd u) s (s.bstForceOff (u.val - 192)))) ∧
  (∀ (c : Cmd) (s : State),
    let g := c.byte 8
    let close := c.byte 9 == 1
    let wrong := (if g < 4 then [] else [8]) ++ (if c.byte 9 ≤ 1 then [] else [9])
    let k := CmdSpec.mk' 0x0602 2 1 (c.badArg [(8, 9)] wrong)
      (!(s.mode == 3 || s.mode == 4) || (close && (!s.b (R.REGION_CFG g) 31 || (s.region g).cmd.isSome || s.fieldSafe)))
    Accepts s c k →
      Runs (.regionCtrl c) s (if close then (s.acceptedBy c k).ctrlClose c g else (s.acceptedBy c k).ctrlOpen c g)) ∧
  (∀ (c : Cmd) (s : State),
    let bst := c.byte 8 == 1
    let n := if bst then c.byte 9 else s.leadChan (c.byte 9)
    let wrong := (if c.byte 8 ≤ 1 then [] else [8]) ++ (if c.byte 9 < (if bst then 8 else 192) then [] else [9])
    let latched := if bst then s.bstSt n == bFault else s.b (R.OUTC_CH_STAT n) 24
    let k := CmdSpec.mk' 0x0603 2 1 (c.badArg [(8, 9)] wrong) (!(s.mode == 3 || s.mode == 4 || s.mode == 5) || !latched)
    Accepts s c k →
      Runs (.chUnlatch c) s
        ((if bst then (s.acceptedBy c k).setBstSt n bOff else (s.acceptedBy c k).unlatch n).ok c 0 0))

/-- Where the events of motion detection and of executed edges, and LEARN_RESET, complete (12 R265 to R275; 11 R246, R257). -/
def Obligations.MotionEventsComplete : Prop :=
  (∀ (ch : Fin 192) (t : BitVec 64) (chop : Bool) (fall : BitVec 16) (s : State) (t0 : DT) (band d : Nat),
    (s.chan ch.val).opening = some (t0, band, d) → t0 ≤ t.toNat → t.toNat ≤ s.dt →
    (s.chSt ch.val = cPull ∨ s.chSt ch.val = cHold) →
      let c := s.chan ch.val
      let m := s.motRes ch.val false false chop band ((t.toNat - t0) / 25600) t.toNat fall.toNat c.own c.opens
      Runs (.openingResult ch t chop fall) s
        ((s.setChan ch.val (if c.opens then c.opened else { c with opening := none })).issueResult m (t0 + usDT d))) ∧
  (∀ (ch : Fin 192) (s : State) (t0 : DT) (band d : Nat), (s.chan ch.val).opening = some (t0, band, d) →
    let hi := match (s.chan ch.val).own with | some o => (oBounds (s.genTbl o.gen) o.id true).2 + 5000 | none => 200000
    t0 + usDT (min hi 200000) ≤ s.dt → Runs (.openingWindowTimeout ch) s (s.missOpening ch.val true)) ∧
  (∀ (ch : Fin 192) (s : State) (k : Closing) (ts : DT), (s.chan ch.val).closing = some k → k.sense = some ts →
    k.span = none → s.chSt ch.val = cSense → s.spanStart ch.val k ts ≤ s.dt →
      Runs (.closingSpanStart ch) s
        ((s.setChan ch.val { s.chan ch.val with closing := some { k with span := some s.dt } }).rateSpans (ch.val / 8))) ∧
  (∀ (ch : Fin 192) (t : BitVec 64) (peak : BitVec 16) (s : State) (k : Closing) (a : DT),
    (s.chan ch.val).closing = some k → k.span = some a → s.chSt ch.val = cSense → a ≤ t.toNat → t.toNat ≤ s.dt →
      Runs (.closingKinkResult ch t peak) s (s.kinkResult ch.val k t.toNat peak.toNat)) ∧
  (∀ (ch : Fin 192) (s : State) (k : Closing) (a : DT), (s.chan ch.val).closing = some k → k.span = some a →
    s.chSt ch.val = cSense → a + s.winDT ch.val ≤ s.dt →
      let t := match (s.chan ch.val).own with | some o => s.noResult (s.genTbl o.gen) o.id false | none => s
      Runs (.closingSpanEnd ch) s ((t.missClosing ch.val).goOff ch.val)) ∧
  (∀ (b : Fin 2) (s : State) (m : MotRes) (q : List MotRes), s.motion.fifo.getD b.val [] = m :: q →
    Runs (.motionResultLanding b) s
      (({ s with motion := { s.motion with fifo := s.motion.fifo.set b.val q } }.landResult m).releaseOld)) ∧
  (∀ (c : Cmd) (s : State),
    let id := c.num 8 2
    let wrong := (if id < 1024 ∨ id = 0xFFFF then [] else [8]) ++ (if c.byte 10 < 16 then [] else [10])
    let k := CmdSpec.mk' 0x0610 2 2 (c.badArg [(8, 10)] wrong) (!(decide (1 ≤ s.mode) && decide (s.mode ≤ 4)))
    let t := s.acceptedBy c k
    Accepts s c k →
      Runs (.learnReset c) s
        ({ t with motion := { t.motion with resetReq := t.motion.resetReq ++ [c] } }.chg (R.MOTION 0))) ∧
  (∀ (id : Fin 1024) (s : State) (e : Edge),
    (s.q id.val).edges.find? (fun e => !e.landed && fieldKind e.kind) = some e →
      let q := s.q id.val
      let l := { e with landed := true }
      let t := s.setQ id.val { q with edges := q.edges.map (fun g => if g = e then l else g) }
      (s.dt ≤ e.exec → Runs (.edgeLanding id) s t) ∧
      (e.exec < s.dt →
        Runs (.edgeLanding id) s
          (if q.edges.head? = some e ∧ e.kind ≤ 1 then (t.execLate e).runLocal id.val l else t.execLate e))) ∧
  (∀ (id : Fin 1024) (s : State) (e : Edge) (q : List Edge), (s.q id.val).edges = e :: q → e.landed = true →
    e.exec ≤ s.dt →
      (e.kind ≤ 1 → Runs (.localEdgeExecute id) s (s.runLocal id.val e)) ∧
      (e.kind = 2 → ∀ v, Runs (.boostEdgeExecute id v) s ((s.setVbst v).runBoost id.val e)) ∧
      (e.kind = 4 → Runs (.dioEdgeExecute id) s (s.runDio id.val e))) ∧
  (∀ (id : Fin 1024) (s : State) (e : Edge) (q : List Edge), (s.q id.val).edges = e :: q → e.exec ≤ s.dt →
    (e.kind = 3 → Runs (.motorEdgeExecute id) s (s.runMotor id.val e)) ∧
    (e.kind = 5 → Runs (.remoteDispatch id) s (s.dispatch id.val e)))

/-- Where the events of the PWM generator and the trip inputs complete (14 R302 to R319). -/
def Obligations.PwmEventsComplete : Prop :=
  (∀ (cl : Fin 6) (s : State), s.pwm.held = none →
    (s.nextZero cl.val ≤ s.dt → Runs (.pwmZero cl) s (s.pwmZero cl.val)) ∧
    ((s.pcl cl.val).perDone = false → (s.pcl cl.val).zero + countDT (s.perCounts cl.val - 1) ≤ s.dt →
      Runs (.pwmPeriodEvent cl) s
        ((pwmUnits cl.val).foldl (fun t u => t.pwmCount u 1) (s.setPcl cl.val { s.pcl cl.val with perDone := true }))) ∧
    (let x := s.pcl cl.val
     let n := fld (s.pw (R.PWMC_CL_SYNC cl.val)) 23 0
     let z := x.zero + countDT n
     let t := s.setPcl cl.val { x with syncSent := true }
     x.syncSent = false → n < s.perCounts cl.val → z ≤ s.dt →
      Runs (.pwmSyncPulse cl) s
        (if cl.val < 5 then t.takeSync (cl.val + 1) z
         else if t.b R.PWMCTL_SYNC_CFG 1 then { t with pwm := { t.pwm with synco := z + nsDT 20 } } else t)) ∧
    (let x := s.pcl cl.val
     let t := ((s.setPcl cl.val { x with syncSeen := s.dt }).flt (R.PWMC cl.val 0) 1).wb (R.PWMC_CL_STAT cl.val) 30 false
     s.b (R.PWMC_CL_CFG cl.val) 31 = true → x.syncSeen + countDT (2 * s.perCounts cl.val) ≤ s.dt →
      Runs (.pwmSyncLoss cl) s
        (if cl.val = 0 ∧ t.b R.PWMCTL_SYNC_CFG 0 = true ∧ t.b R.SYSNET_CFG 12 = true then t.sysHb else t))) ∧
  (∀ (ch : Fin 48) (s : State) (e : PwmEdge) (q : List PwmEdge), (s.pch ch.val).edges = e :: q → s.pwm.held = none →
    s.edgeDT ch.val e.pos ≤ s.dt → Runs (.pwmCompare ch) s (s.pwmEdge ch.val e)) ∧
  (∀ (ch : Fin 48) (s : State),
    let c := s.pch ch.val
    Runs (.deadTimeEnd ch) s (s.setPch ch.val { c with a := c.a.arrive s.dt, b := c.b.arrive s.dt })) ∧
  (∀ (s : State), s.pwm.held = none →
    (∀ n, Runs (.delayLineCalibrate (some n)) s
      ((({ s with pwm := { s.pwm with coarse := false } }.wf R.PWMCTL_CAL_STAT 31 24 n.toNat).wb R.PWMCTL_CAL_STAT 0 true))) ∧
    Runs (.delayLineCalibrate none) s
      ((({ s with pwm := { s.pwm with coarse := true } }.wb R.PWMCTL_CAL_STAT 0 false).fltEv (R.PWMCTL 0) 0).irq
        (R.PWMCTL 0) 0)) ∧
  (∀ (t : BitVec 64) (s : State), s.b R.PWMCTL_SYNC_CFG 0 = true → s.pwm.held = none → t.toNat ≤ s.dt →
    Runs (.pwmSynciEdge t) s (s.takeSync 0 (t.toNat + countDT (s.f R.PWMCTL_SYNC_CFG 23 8)))) ∧
  (∀ (t : Fin 8) (dt : BitVec 64) (s : State) (x : PwmTrip), s.pwm.trips.getD t.val ⟨none, false⟩ = x →
    (x.captured = false →
      Runs (.tripPinEdge t dt true) s
        ({ s with pwm := { s.pwm with trips := s.pwm.trips.set t.val { x with captured := true } } }.w64
          (R.TRIP_TRIP_DT_LO t.val) dt.toNat)) ∧
    (s.tripOn t.val = false → s.b (R.TRIP_TRIP_STAT t.val) 30 = false →
      Runs (.tripPinEdge t dt false) s (s.tripRearm t.val)) ∧
    (∀ e, x.blank = some e → e ≤ s.dt →
      Runs (.tripBlankEnd t) s
        ({ s with pwm := { s.pwm with trips := s.pwm.trips.set t.val { x with blank := none } } }.tripCheck t.val))) ∧
  (∀ (t : Fin 8) (s : State),
    Runs (.tripActivate t) s ((s.wb (R.TRIP_TRIP_STAT t.val) 30 true).tripCheck t.val) ∧
    Runs (.tripBlankEdge t) s (s.openBlank t.val) ∧
    (let u := s.wb (R.TRIP_TRIP_STAT t.val) 30 false
     Runs (.tripInputInactive t) s
      (if u.tripOn t.val = true then
        (if u.b (R.TRIP_TRIP_CFG t.val) 29 = true ∧ u.b (R.TRIP_TRIP_STAT t.val) 29 = true then u.tripClear t.val else u)
       else u.tripRearm t.val)))

/-- Where the events of digital inputs and outputs and DIO_UNLATCH complete (15 R325 to R329). -/
def Obligations.DioEventsComplete : Prop :=
  (∀ (pin : Fin 32) (level : Bool) (t : BitVec 64) (s : State), s.b (R.DIOG_IO_STAT pin.val) 31 ≠ level →
    let n := pin.val
    let u := (s.wb (R.DIOG_IO_STAT n) 31 level).wb (R.DIOG_G_STAT (n / 8)) (16 + n % 8) level
    let u := (u.w64 (R.DIOG_IO_EDGE_LO n) t.toNat).inc (R.DIOG_IO_CNT n) 31 16 1
    let u := if level then u else u.setDioEpisode n 4 false
    Runs (.dioInputChange pin level t) s (u.uirq (R.DIOG_U n 0) (if level then 0 else 1))) ∧
  (∀ (pin : Fin 32) (s : State), Runs (.dioConductionChange pin) s (s.dioFollow pin.val)) ∧
  (∀ (pin : Fin 32) (s : State), s.dioSt pin.val = 2 →
    Runs (.dioShort pin) s (s.dioShort pin.val) ∧
    ((s.dioPin pin.val).since + sDT 1 ≤ s.dt →
      Runs (.dioRetryCountReset pin) s (s.wf (R.DIOG_IO_STAT pin.val) 28 26 0)) ∧
    (∀ ma : BitVec 12, s.b (R.DIOG_IO_CFG pin.val) 30 = true → ma.toNat < 2 → (s.dioPin pin.val).since + msDT 10 ≤ s.dt →
      Runs (.dioOpen pin ma) s
        (((s.wf (R.DIOG_IO_STAT pin.val) 11 0 ma.toNat).uflt (R.DIOG_U pin.val 0) 5).uirq (R.DIOG_U pin.val 0) 5))) ∧
  (∀ (pin : Fin 32) (s : State), s.dioSt pin.val = 3 → s.b (R.DIOG_IO_STAT pin.val) 29 = false →
    (s.dioPin pin.val).since + msDT (10 * s.f (R.DIOG_IO_CFG pin.val) 7 0) ≤ s.dt →
      Runs (.dioRetryExpire pin) s (s.dioRetry pin.val)) ∧
  (∀ (c : Cmd) (s : State),
    let n := c.byte 8
    let k := CmdSpec.mk' 0x0901 2 1 (c.badArg [(8, 8)] (if n < 32 then [] else [8]))
      (!(s.mode == 3 || s.mode == 4 || s.mode == 5) || !s.b (R.DIOG_IO_STAT n) 29)
    Accepts s c k → Runs (.dioUnlatch c) s (((s.acceptedBy c k).dioUnlatch n).ok c 0 0)) ∧
  (∀ (pin : Fin 32) (s : State), s.dioSt pin.val = 1 → s.b (R.DIOG_IO_STAT pin.val) 31 = true →
    (s.dioPin pin.val).since + msDT 6 ≤ s.dt →
      let n := pin.val
      let t := (s.uflt (R.DIOG_U n 0) 4).uirq (R.DIOG_U n 0) 4
      Runs (.dioExtVoltage pin) s
        (if s.dioEpisode n 4 then t else (t.setDioEpisode n 4 true).evUnit (R.DIOG (n / 8) 0) 4 n)) ∧
  (∀ (g : Fin 4) (v : BitVec 16) (s : State),
    let t := s.setVio g.val v
    (t.b (R.DIOG_G_STAT g.val) 31 = false → v.toNat < 10 * t.f (R.DIOG_G_CFG g.val) 15 8 →
      Runs (.vioLow g v) s (t.vioLow g.val)) ∧
    (t.b (R.DIOG_G_STAT g.val) 31 = true → 10 * t.f (R.DIOG_G_CFG g.val) 15 8 + 100 < v.toNat →
      Runs (.vioOk g v) s (t.vioOk g.val))) ∧
  (∀ (g : Fin 4) (s : State), Runs (.vioStaggerOn g) s (s.staggerOn g.val))

/-- Where the events of analog, frequency and quadrature inputs complete (15 R331 to R335). -/
def Obligations.InputEventsComplete : Prop :=
  (∀ (n : Fin 16) (code : BitVec 16) (s : State),
    Runs (.ainConversion n code) s ((s.ainConvert n.val code.toNat).publish (4096 + n.val))) ∧
  (∀ (n : Fin 16) (s : State), s.f (R.AING_AIN_CFG n.val) 31 30 = 2 → (s.ain n.val).cut = none →
    Runs (.ainOverload n) s ((s.setAin n.val { s.ain n.val with cut := some s.dt }).ainFault n.val 2)) ∧
  (∀ (n : Fin 16) (s : State) (t : DT), (s.ain n.val).cut = some t → t + sDT 1 ≤ s.dt →
    Runs (.ainBurdenReconnect n) s (s.setAin n.val { s.ain n.val with cut := none })) ∧
  (∀ (n : Fin 12) (t : BitVec 64) (s : State), Runs (.finRisingEdge n t) s (s.finEdge n.val t.toNat)) ∧
  (∀ (n : Fin 12) (s : State), (s.fin n.val).gate + msDT (s.f (R.FING_F_CFG n.val) 15 8) ≤ s.dt →
    Runs (.finGateEnd n) s ((s.finGate n.val).publish (8192 + n.val))) ∧
  (∀ (n : Fin 12) (s : State) (t : DT), (s.fin n.val).newest = some t →
    t + msDT (s.f (R.FING_F_TIMEOUT n.val) 15 0) ≤ s.dt → s.b (R.FING_F_STAT n.val) 30 = false →
      Runs (.finTimeout n) s ((s.finTimeout n.val).publish (8192 + n.val))) ∧
  (∀ (p : Fin 6) (s : State), s.b R.FING_QUAD_CFG p.val = true →
    (∀ up, Runs (.quadCount p (some up)) s (s.quadStep p.val up)) ∧ Runs (.quadCount p none) s (s.quadError p.val)) ∧
  (∀ (p : Fin 6) (s : State) (t : DT), s.fio.quadBad.getD p.val none = some t → t ≤ s.dt →
    Runs (.quadInvalidExpire p) s { s with fio := { s.fio with quadBad := s.fio.quadBad.set p.val none } }) ∧
  (∀ (id : Fin 1024) (s : State) (a : Awaiting),
    s.look.awaiting.find? (fun a => a.id == id.val && decide (a.kind ≠ 6)) = some a → a.due ≤ s.dt →
      Runs (.delayedConfirmation id) s
        (({ s with look := { s.look with awaiting := s.look.awaiting.erase a } }.confirmDue a).releaseOld))

/-! ## Pose, raster, look-ahead and metering (07 to 10) -/

/-- Where the pose events complete (07 R138 to R146; 18 R379, R380). -/
def Obligations.PoseEventsComplete : Prop :=
  (∀ (s : State) (l : List Word) (q : List (List Word)), s.pose.hostQ = l :: q → recDT l ≤ s.dt →
    Runs .hostPoseFuse s ({ s with pose := { s.pose with hostQ := q } }.measure 2 l)) ∧
  (∀ (src : Fin 4) (l : List Word) (s : State), Runs (.poseMeasurementFuse src l) s (s.measure src.val (padWords 10 l))) ∧
  (∀ (s : State), Runs .poseStale s (Sys2Proof.Machine.poseStale s)) ∧
  (∀ (s : State), s.poseSt = 1 →
    msDT (s.f R.POSEIN_TIMING 31 16) ≤ (match s.pose.lastQual with | some t => s.dt - t | none => s.dt) →
      Runs .drMaxExpire s (s.setPoseSt 0)) ∧
  (∀ (bus : Fin 6) (sof : BitVec 64) (s : State), s.n2kBus = some bus.val →
    let t := sof.toNat
    (∀ e n, Runs (.n2kPoseMeasurement bus sof (.position e n)) s
      ({ s with pose := { s.pose with n2kPos := some (t, sword e, sword n) } }.n2kForm bus.val t)) ∧
    (∀ v c, Runs (.n2kPoseMeasurement bus sof (.cogSog v c)) s
      ({ s with pose := { s.pose with n2kSpd := some (t, sword v, c.toNat) } }.n2kForm bus.val t)) ∧
    (∀ m h u, Runs (.n2kPoseMeasurement bus sof (.gnss m h u)) s
      { s with pose := { s.pose with n2kGnss := some (t, m, h, sword u) } }) ∧
    (∀ h, Runs (.n2kPoseMeasurement bus sof (.heading h)) s
      { s with pose := { s.pose with n2kHdg := some (t, h.toNat) } })) ∧
  (∀ (s : State) (d : DT) (m h : Nat) (u : Int), s.pose.n2kGnss = some (d, m, h, u) → d + sDT 2 ≤ s.dt →
    Runs .n2kGnssDataTimeout s { s with pose := { s.pose with n2kGnss := none } }) ∧
  (∀ (edge : BitVec 64) (data : List Byte) (s : State), s.b R.IMU_CFG 31 = true →
    Runs (.imuDrdySample edge data) s (((s.imuTake edge.toNat data).imuBias).imuPropagate edge.toNat)) ∧
  (∀ (s : State), s.b R.IMU_CFG 31 = true → (∀ t, s.pose.imuLast = some t → t + msDT 20 ≤ s.dt) →
    let t := ((s.flt (R.IMU 0) 0).wb R.IMU_STAT 0 false).irq (R.IMU 0) 0
    let t := { t with pose := { t.pose with imuRun := 0 } }
    Runs .imuLost s (if t.poseSt = 1 then t.setPoseSt 0 else t)) ∧
  (∀ (s : State) (t : DT), s.pose.stillSince = some t → t + sDT 2 ≤ s.dt →
    Runs .imuStationaryDetect s (s.wb R.IMU_STAT 1 true))

/-- Where the events of the hitch angles, of the pose history and of the rotary index complete (07 R148, R155, R158). -/
def Obligations.HitchAndHistoryComplete : Prop :=
  (∀ (s : State),
    let t := if s.poseSt = 0 then s
      else
        let g := s.heun s.speed (sword (s.r (R.POSEIN_LAST_POSE 7))) s.pose.est1 s.pose.est2 1000
        { s with pose := { s.pose with est1 := g.1, est2 := g.2 } }
    Runs .hitchEstimateTick s ((((t.useHitch 0).useHitch 1).watchHitch 0).watchHitch 1)) ∧
  (∀ (s : State) (a b : Nat), s.isSensed 0 = true → s.isSensed 1 = true → s.sensed 0 = some a → s.sensed 1 = some b →
    Runs .hitchSensedRestart s { s with pose := { s.pose with est1 := a, est2 := b } }) ∧
  (∀ (h : Fin 2) (s : State) (t : DT), s.pose.hitchDiff.getD h.val none = some t → t + msDT 500 ≤ s.dt →
    Runs (.hitchDisagree h) s ((s.fltEv (R.GEOM 0) 0).forceEpoch 4)) ∧
  (∀ (s : State) (a b : List Word), s.histCap ≠ 0 → s.mode ≠ 0 → s.poseSt ≠ 0 →
    s.bracketAt s.pose.histNext = some (a, b) →
      let e := s.histForm s.pose.histNext a b
      let t := e.2.histPush e.1
      Runs .poseHistoryEntry s
        { t with pose := { t.pose with fusedLog := trimLog s.pose.histNext t.pose.fusedLog } }) ∧
  (∀ (s : State), s.histCap ≠ 0 → s.mode ≠ 0 → s.pose.histNext + s.staleDT ≤ s.dt →
    let t := s.histPush (s.histInvalid s.pose.histNext)
    Runs .historyInvalidEntry s
      (if 0 < s.pose.histN ∧ entryValid (s.histEntry 0) = true then t.irq (R.HIST 0) 0 else t)) ∧
  (∀ (s : State), s.axis = 2 →
    let off := ((s.pose.idxCount.natAbs : Int) - s.f R.GEOM_COUNTS_PER_TURN 23 0).natAbs
    let good : Bool := !s.pose.idxSeen || decide (off ≤ 2)
    let t := { s with pose := { s.pose with theta := (s.r R.GEOM_ANGLE_OFS).toNat, idxCount := 0, idxSeen := true,
                                            idxOk := good, odoLast := some s.dt } }
    Runs .cyclicIndex s
      (if good = true then (if s.pose.idxSeen = true ∧ s.pose.idxOk = false then t.forceEpoch 6 else t)
       else (t.flt (R.GEOM 0) 2).setPoseSt 0))

/-- Where the stages of a planning frame complete (01 R10, R11; 07 R151 to R154; 08 R173; 09 R196 to R203). -/
def Obligations.FrameStagesComplete : Prop :=
  (∀ (s : State), Runs .frameBoundary s (frameBegin s)) ∧
  (∀ (s : State), s.stagesRun = true →
    (s.look.stage = 1 → Runs .probeStageStart s (probeStage s)) ∧
    (s.look.stage = 2 → Runs .probeWindowEnd s s.probeEnd) ∧
    (s.look.stage = 3 →
      let us := s.meterForm.freeBits 16
      let t := us.2.wf R.PLAN_STAT 31 16 us.1
      Runs .planStageStart s
        { t with look := { t.look with newPlan := t.candidatesOf t.look.frame, stage := 4 } }) ∧
    (s.look.stage ≠ 5 → s.look.frame = frameOf s.dt → Runs .commitPoint s (Sys2Proof.Machine.commitPoint s)) ∧
    (1 ≤ s.look.stage → s.look.stage ≤ 4 →
      let t := if s.look.stage = 1 then (s.satInc R.PRED_OVERRUN 15 0 1).irq (R.PRED 0) 1 else s
      let t := { t with
        look := { t.look with stage := 9, goodFrames := 0, newPlan := [] }
        pose := { t.pose with newTraj := [] } }
      let t := ((t.unpinProbe.satInc R.PLAN_OVERRUN 15 0 1).satInc R.PLAN_OVERRUN 31 16 1).irq (R.PLAN 0) 0
      let n := t.f R.PLAN_OVERRUN 31 16
      Runs .frameOverrun s
        (if t.f R.PLAN_CFG 27 24 = n then
          (((t.flt (R.PLAN 0) 0).evNow 0x0C (nw n)).irq (R.PLAN 0) 1).wf R.PLAN_STAT 3 0 4
         else t)))

/-- Where the look-ahead commands and events complete (09 R192, R207 to R213; 10 R225; 18 R376 to R378). -/
def Obligations.LookCommandsComplete : Prop :=
  (∀ (c : Cmd) (s : State), s.tableFault s.look.staged = none →
    let k := { CmdSpec.mk' 0x0501 2 2 (c.badArg [] []) (!(decide (1 ≤ s.mode) && decide (s.mode ≤ 4))) with
      busy := s.b R.OUTLETWIN_SW_STAT 1 || s.look.captured.isSome }
    let t := s.acceptedBy c k
    Accepts s c k →
      Runs (.outletSwitch c) s ({ t with look := { t.look with captured := some (t.look.staged, c) } }.chg (R.OUTLETWIN 0))) ∧
  (∀ (c : Cmd) (s : State),
    let k := CmdSpec.mk' 0x0502 2 2 (c.badArg [] []) (!(decide (1 ≤ s.mode) && decide (s.mode ≤ 4)))
    let t := s.acceptedBy c k
    Accepts s c k →
      Runs (.outletRevert c) s
        ((({ t with look := { t.look with staged := t.look.active } }.noteStaged).chg (R.OUTLETWIN 0)).ok c 0 0)) ∧
  (∀ (path : Fin 4) (addr : Byte) (sof : BitVec 64) (data : List Byte) (s : State) (a : Awaiting),
    data.getD 0 0 = 0xC8#8 → s.pathOn path.val = true → s.reported path.val addr.toNat data = some a →
      Runs (.remoteReport path addr sof data) s
        ((({ s with look := { s.look with awaiting := s.look.awaiting.erase a } }).confirm a.id a.gen a.on
          (s.reportTime path.val sof.toNat data) false true).releaseOld)) ∧
  (∀ (id : Fin 1024) (s : State) (a : Awaiting), s.look.awaiting.find? (fun a => a.id == id.val && a.kind == 6) = some a →
    a.due ≤ s.dt →
      let t := { s with look := { s.look with awaiting := s.look.awaiting.erase a } }
      let t := (t.inc R.REMOTE_TIMEOUTS 31 0 1).irq (R.REMOTE 0) 0
      Runs (.reportTimeout id) s
        ((t.confirm a.id a.gen a.on (a.exec + usDT (oDelay (t.genTbl a.gen) a.id a.on)) true true).releaseOld)) ∧
  (∀ (id : Fin 1024) (s : State), oAct s.tbl id.val = true → s.doneOn id.val = true →
    SMap.get (fun _ => (0 : DT)) s.comm.remAt id.val + msDT (s.f R.METER_CFG 23 16) ≤ s.dt →
    s.pathSends (remPath s.tbl (oTarget s.tbl id.val)) = true →
      Runs (.remoteSpeedPeriod id) s (s.sendSpeed s.tbl id.val)) ∧
  (∀ (bus : Fin 2) (sof : BitVec 64) (cmds : List (Fin 64 × Bool)) (s : State), s.tcBus = some bus.val →
    let t := s.setComm { s.comm with tcUp := true }
    Runs (.tcSectionCommand bus sof cmds) s
      (if t.b R.PLAN_CFG 31 then cmds.foldl (fun u x => u.wishChange sof.toNat x.1.val x.2) t else t)) ∧
  (∀ (s : State),
    let t := s.setComm { s.comm with tcUp := false }
    Runs .tcServerLost s
      (if t.b R.PLAN_CFG 31 then
        (((List.range 64).foldl (fun u k => u.wishChange u.dt k false) t).fltOnce (R.PLAN 0) 1).irq (R.PLAN 0) 2
       else t)) ∧
  (∀ (id : Fin 1024) (s : State) (o : OnPeriod), s.look.opens.find? (fun o => o.id == id.val && !o.dropped) = some o →
    Runs (.retireSegmentForm id) s (s.formSeg o)) ∧
  (∀ (s : State) (g : Seg), s.look.segs.find? (fun g => s.recHere g.fieldGen && s.sweepReady g.words) = some g →
    Runs .retireWrite s
      (({ s with look := { s.look with segs := s.look.segs.erase g } }.noteBacklog).writeSweep g.words))

/-- Where the field-store commands and events complete (08 R168 to R172, R187): the steps of FIELD_LOAD, FIELD_UNLOAD, a row of
RASTER_BUILD and a tile of COVERAGE_EXPORT. -/
def Obligations.FieldCommandsComplete : Prop :=
  (∀ (sig : Bool) (s : State) (j : Nat), s.worker 2 = some j → s.b (R.JOBS_JOB_STAT j) 7 = false →
    ((s.job j).step = 0 → s.jobSt j = 2 → Runs (.fieldLoadTileCopy sig) s (s.loadBegin j sig)) ∧
    ((s.job j).step ≠ 0 → Runs (.fieldLoadTileCopy sig) s (s.loadTile j))) ∧
  (∀ (s : State) (j : Nat) (h : List Byte), s.activeJob 2 = some j → s.stagedFile j = some h →
    ((s.job j).step = hTiles h + 2 → (s.backlogGens.filter (· != 0)) = [] →
      Runs .fieldLoadDrainEnd s ((s.discardOther (hIds h)).jobStep j (hTiles h + 3))) ∧
    ((s.job j).step = hTiles h + 3 → s.look.stage ≠ 1 → s.look.stage ≠ 2 → Runs .fieldSwap s (s.fieldSwap j))) ∧
  (∀ (c : Cmd) (s : State),
    let k := CmdSpec.mk' 0x0401 2 1 (c.badArg [] []) (!(s.mode == 1 || s.mode == 2))
    let t := s.acceptedBy c k
    Accepts s c k →
      Runs (.fieldUnload c) s
        ((if t.fieldLoaded then
           (((t.flushPantry.freePantry).discardBacklog (fun _ => true)).clearField.cancelExports).irq (R.TILEDIR 0) 0
          else t).ok c 0 0)) ∧
  (∀ (s : State) (j : Nat), s.worker 3 = some j → (s.job j).step ≠ doneStep → Runs .rasterBuildRow s (s.buildRow j)) ∧
  (∀ (slot : Fin 16) (s : State), s.b R.LPDDR_CFG 4 = true → s.jobKind slot.val = 4 → s.jobActive slot.val = true →
    (s.job slot.val).step ≠ doneStep → Runs (.coverageExportTile slot) s (s.exportTile slot.val))

/-- Where the metering commands and the calibration, self-test and sweep events complete (10 R220, R235 to R237; 11 R261;
12 R277). -/
def Obligations.MeterCommandsComplete : Prop :=
  (∀ (c : Cmd) (s : State),
    let k := CmdSpec.mk' 0x0510 2 2 (c.badArg [] []) false
    let t := s.acceptedBy c k
    Accepts s c k →
      Runs (.rateSwitch c) s ({ t with meter := { t.meter with rateReq := t.meter.rateReq ++ [c] } }.chg (R.METER 0))) ∧
  (∀ (c : Cmd) (s : State),
    let k := CmdSpec.mk' 0x0511 1 1 (c.badArg [(8, 9)] (need 8 (decide (c.byte 8 < 16)) ++ need 9 (decide (c.byte 9 < 4)))) false
    let t := s.acceptedBy c k
    Accepts s c k → Runs (.totalsReset c) s { t with meter := { t.meter with resetReq := t.meter.resetReq ++ [c] } }) ∧
  (∀ (s : State), s.pkg.cellar = false → Runs .totalsCheckpoint s s.checkpointTotals) ∧
  (∀ (p : Fin 4) (s : State) (t : DT), s.b (R.METER_PCFG p.val) 23 = true → s.meter.tgtSince.getD p.val none = some t →
    t + sDT 2 ≤ s.dt → (∀ u, s.meter.flowLast.getD p.val none = some u → u + sDT 2 ≤ s.dt) →
      Runs (.flowMeterLost p) s
        (((s.w (R.METER_FLOW_MEAS p.val) 0).wb (R.METER_PSTAT p.val) 2 true).fltEv (R.METER 0) 3)) ∧
  (∀ (m : BitVec 32) (un : Bool) (s : State) (j : Nat), s.activeJob 5 = some j →
    ((s.job j).step = 1 → Runs (.calStepEnd m un) s (s.runEnds j m.toNat)) ∧
    ((s.job j).step = 2 → (s.job j).since + sDT 2 ≤ s.dt →
      Runs (.calStepEnd m un) s
        (if un then s.failJob j 0x43
         else s.setJob j { s.job j with step := 4, vals := [s.dt, 0, 0, (m.toNat : Int)] })) ∧
    ((s.job j).step = 3 → (s.job j).since + sDT ((s.job j).num 36 4) ≤ s.dt →
      Runs .calWaitExpire s (s.failJob j 0x42)) ∧
    ((s.job j).step = 4 → s.jobSt j = 2 → Runs .calApply s (s.calApply j))) ∧
  (∀ (c : Cmd) (s : State) (j : Nat), s.findJob c.handle.toNat = some j → s.calWaits j = true →
    let k := CmdSpec.mk' 0x0512 3 2 (c.badArg [(8, 11)] []) false
    let t := s.acceptedBy c k
    Accepts s c k → t.findJob c.handle.toNat = some j →
      Runs (.calMeasure c) s
        (((t.setJob j { t.job j with step := 4, vals := (t.job j).vals ++ [(c.num 8 4 : Int)] }).chg (R.METER 0)).ok c 0 0)) ∧
  (∀ (closes : Bool) (v : BitVec 16) (flt : Byte) (res ind : BitVec 32) (s : State) (j n : Nat) (rest : List Nat),
    s.activeJob 9 = some j → (s.job j).step ≠ doneStep →
    ((s.job j).testChans (s.job j).step = [] → s.jobSt j = 2 →
      Runs (.selftestChannelDone closes v flt res ind) s
        ((s.reopenRegions j).jobFinish j (nw (s.job j).vals.length) (nth (s.job j).buf 1))) ∧
    ((s.job j).testChans (s.job j).step = n :: rest → 16 * ((s.job j).vals.length + 1) ≤ (s.job j).num 48 4 →
      s.listed ((s.job j).num 40 8 + 16 * (s.job j).vals.length) 16 = true →
        let r := s.jobClose j (regionOf n) v.toNat closes
        let tests := (s.job j).num 36 1
        r.2 = true →
          Runs (.selftestChannelDone closes v flt res ind) s
            (r.1.testResult j n (if tests = 0 then 0 else flt.toNat) (if 2 ≤ tests then res.toNat else 0)
              (if 2 ≤ tests then ind.toNat else 0)))) ∧
  (∀ (closes : Bool) (v : BitVec 16) (fault : Bool) (on off : List (BitVec 24)) (s : State) (j : Nat),
    s.activeJob 6 = some j → (s.job j).step ≠ doneStep →
      let b := s.job j
      let id := b.num 12 2 + b.step
      let n := nth b.buf 1
      (b.num 14 2 ≤ b.step → s.jobSt j = 2 →
        Runs (.sweepOutletDone closes v fault on off) s
          ((s.reopenRegions j).jobFinish j n (nw (b.num 14 2 - n.toNat)))) ∧
      (b.step < b.num 14 2 → 16 * (b.step + 1) ≤ b.num 32 4 → s.listed (b.num 24 8 + 16 * b.step) 16 = true →
        ((oEn s.tbl id && oLocal s.tbl id) = false →
          Runs (.sweepOutletDone closes v fault on off) s (s.sweepLine j id 3 0 [] [])) ∧
        (let r := s.jobClose j (regionOf (oTarget s.tbl id)) v.toNat closes
         let band := (r.1.region (regionOf (oTarget s.tbl id))).band
         let l := (on.map (·.toNat)).take (b.num 16 1)
         let m := (off.map (·.toNat)).take (b.num 16 1)
         (oEn s.tbl id && oLocal s.tbl id) = true → r.2 = true → r.1.sweepCode id (b.num 16 1) fault l m = 0 →
         r.1.audCfg 1 = true →
          Runs (.sweepOutletDone closes v fault on off) s
            ((r.1.seed id band (lowerMedian l) (lowerMedian m)).sweepLine j id 0 band l m))))

/-! ## Control loops, GNSS, positioning, security, Attic (13, 16, 17, 19, 20) -/

/-- Where the control engine's events and commands complete (13 R280 to R296). -/
def Obligations.ControlCommandsComplete : Prop :=
  (∀ (loop : Fin 24) (s : State) (t : DT), s.sampleDT loop.val = some t → s.ctlRuns = true → s.lpSt loop.val ≠ 0 →
    (s.lp loop.val).last < t →
      let l := loop.val
      let u := if s.ctl.queue.any (fun e => e.2 == l) then s.lpLate l else s
      let q := u.ctl.queue.filter (fun e => e.2 != l)
      let u := { u with ctl := { u.ctl with queue := sortKey (fun e => e.1 * 32 + e.2) (q ++ [(t, l)]) } }
      Runs (.loopSample loop) s ((u.setLp l { u.lp l with last := t }).w (R.LOOP_LAST_DT l) (nw (ticks t)))) ∧
  (∀ (ue : Bool) (s : State) (t : DT) (l : Nat) (q : List (DT × Nat)), s.ctl.queue = (t, l) :: q → s.ctlRuns = true →
    let u := s.wf R.CTLENG_STAT 15 0 (max (s.f R.CTLENG_STAT 15 0) (min ((s.dt - t) / 25600) 0xFFFF))
    let u := { u with ctl := { u.ctl with queue := q } }.evaluate l t ue
    let u := if u.f R.TRACE_CFG 28 24 = l then u.traceSample else u
    Runs (.loopEvaluation ue) s (if u.anyLoopSafe then u.safeCause cLoopSafe else u)) ∧
  (∀ (loop : Fin 24) (s : State) (t : DT), (s.lp loop.val).clear = some t → s.lpSt loop.val = 3 →
    s.b (R.LOOP_SUP_CFG loop.val) 25 = true → t + msDT (s.f (R.LOOP_SUP_CFG loop.val) 15 0) ≤ s.dt →
      let y := { s.lp loop.val with
        preset := true, autoAt := s.dt, feSince := [none, none], cnt := 0, cur := [none, none], subs := [[], []],
        cause := 0, clear := none }
      Runs (.loopHoldClear loop) s ((s.setLpSt loop.val 2).setLp loop.val y)) ∧
  (∀ (c : Cmd) (s : State),
    let l := c.byte 8
    let m := c.byte 9
    let wrong := (if l < 24 then [] else [8]) ++ (if m ≤ 2 then [] else [9])
    let k := CmdSpec.mk' 0x0701 1 0 (c.badArg [(8, 9)] wrong) (!s.modeFits l m (s.cmdRole c))
    let t := s.acceptedBy c k
    Accepts s c k → ¬(t.lpSt l = 0 ∧ m = 1 ∧ (t.lpFault l).isSome = true) →
      let u := t.evGeneric (R.LOOP l 0x044)
      let v := if u.lpSt l = 0 then u.lpStart l else u
      Runs (.loopMode c) s
        (if m = 0 then (u.lpOff l).ok c 0 0 else v.setLp l { v.lp l with cmds := (v.lp l).cmds ++ [(c, m)] })) ∧
  (∀ (c : Cmd) (s : State),
    let l := c.byte 8
    let o := c.num 12 4
    let wrong := (if l < 24 then [] else [8]) ++ (if o % 16 = 0 ∧ o + 1280 ≤ 0x100000 then [] else [12])
    let k := CmdSpec.mk' 0x0702 2 2 (c.badArg [(8, 8), (12, 15)] wrong)
      (s.lpSt l == 2 || s.lpSt l == 3 || (s.lp l).cmds.any (fun e => e.2 == 2))
    let t := s.acceptedBy c k
    let img := t.rdWords (sharedBase + o) 320
    Accepts s c k → (List.range 320).find? (fun k => coefBad (imgWord img) (0x100 + 4 * k)) = none → t.lpSt l = 0 →
      Runs (.loopCoefLoad c) s ((((t.loadCoefs l img).chg (R.LOOP l 0)).inc (R.LOOP l 0x058) 31 0 1).ok c 0 0))

/-- Where the GNSS baseband's events complete (01 R19; 16 R340 to R352). -/
def Obligations.GnssEventsComplete : Prop :=
  (∀ (s : State), s.gnss.link = true → Runs .rfLinkLoss s (s.linkLoss.irq (R.DIE 0) 3)) ∧
  (∀ (gap : Nat) (s : State), s.gnss.link = false → (gap ≠ 0 ∨ s.gnss.seen = false) → Runs (.rfLinkReturn gap) s s.linkReturn) ∧
  (∀ (a : Fin 2) (cur : BitVec 12) (s : State),
    let t := s.setBias a.val cur.toNat
    (t.antSt a.val = 1 → cur.toNat < 20 →
      Runs (.antOpen a cur) s ((t.setAnt a.val 2).fltEv (R.RFCTL 0) (2 + a.val))) ∧
    (t.antSt a.val = 2 → 20 ≤ cur.toNat → cur.toNat ≤ 800 → Runs (.antOpenClear a cur) s (t.setAnt a.val 1)) ∧
    ((t.antSt a.val = 1 ∨ t.antSt a.val = 2) → 800 < cur.toNat →
      let u := (t.setAnt a.val 3).fltEv (R.RFCTL 0) a.val
      Runs (.antShort a cur) s { u with gnss := { u.gnss with cut := u.gnss.cut.set a.val (some u.dt) } })) ∧
  (∀ (a : Fin 2) (s : State) (t : DT), s.gnss.cut.getD a.val none = some t → s.antSt a.val = 3 →
    s.b R.RFCTL_ANT_CFG (2 + 8 * a.val) = true → t + sDT 1 ≤ s.dt → s.gnss.retries.getD a.val 0 < 5 →
      Runs (.antBiasRetry a) s
        ({ s with gnss := { s.gnss with retries := s.gnss.retries.set a.val (s.gnss.retries.getD a.val 0 + 1),
                                        cut := s.gnss.cut.set a.val none } }.setAnt a.val 1)) ∧
  (∀ (ch : Fin 256) (s : State),
    (s.gchSt ch.val = 1 → (s.gch ch.val).startAt ≤ s.dt → s.gnss.seen = true →
      Runs (.gchStartDtReached ch) s (s.gchRun ch.val)) ∧
    (s.gchSt ch.val = 2 → s.sampleAt ((s.gch ch.val).n0 + (s.gch ch.val).coh * 61380) ≤ s.dt →
      ∀ acc, Runs (.gchIntervalEnd ch acc false) s (s.gchDump ch.val acc))) ∧
  (∀ (x : Fin 4) (s : State) (j : Nat), (s.gctx x.val).job = some j → s.jobSt j = 2 →
    (s.ctxPhase x.val = 1 → (s.gctx x.val).nsum ≤ s.f R.ACQ_STAT 6 0 →
      s.b R.RFCTL_CHAIN_STAT (s.gctx x.val).chain = true → s.mode ≠ 3 →
        let t := s.dt / msDT 1 * msDT 1
        Runs (.searchCaptureStart x) s
          (((s.setGctx x.val { s.gctx x.val with cap := t }).w64 (R.ACQ_CTX_CAP_DT_LO x.val) t).setPhase x.val 2)) ∧
    (s.ctxPhase x.val = 3 → ∀ found, Runs (.searchCellDone x found false) s (s.searchCell x.val j found)) ∧
    (∀ t, s.gnss.gone.getD (s.gctx x.val).chain none = some t → (s.ctxPhase x.val = 1 ∨ s.ctxPhase x.val = 2) →
      t + sDT 1 ≤ s.dt → Runs (.searchChainFail x) s (s.searchFail x.val j 0x12))) ∧
  (∀ (x : Fin 4) (s : State), s.ctxPhase x.val = 2 → (s.gctx x.val).cap + msDT (s.gctx x.val).nsum ≤ s.dt →
    Runs (.searchCaptureDone x) s (s.setPhase x.val 3))

/-- Where the positioning service's commands and events complete (17 R357 to R369; 18 R384). -/
def Obligations.PositioningCompletes : Prop :=
  (∀ (q : GnssSol) (s : State), s.posnOn = true → s.f R.CLOCK_ISL_STAT 9 8 = 0 → q.dt.toNat ≤ s.dt →
    Runs (.gnssEpochSolution q) s (s.gnssEpoch q)) ∧
  (∀ (c : Cmd) (s : State), s.variant = .g →
    let len := c.num 12 2
    let ofs := c.num 8 4
    let wrong := (if 0x100000 < ofs + len then [8] else []) ++ (if len = 0 ∨ 4096 < len then [12] else [])
    let k := CmdSpec.mk' 0x0A01 1 0 (c.badArg [(8, 13)] wrong) false
    let t := s.acceptedBy c k
    Accepts s c k →
      let r := t.rtcmFeed 0 (t.rdBytes (sharedBase + ofs) len)
      Runs (.rtcmFeed c) s (r.2.2.ok c (nw r.1) (nw r.2.1))) ∧
  (∀ (src : Fin 5) (data : List Byte) (s : State), s.posnOn = true → src.val ≠ 0 →
    Runs (.rtcmStreamData src data) s (s.rtcmFeed src.val data).2.2) ∧
  (∀ (s : State), s.posnOn = true → s.posn.corr.isSome = true → s.corrOk = false → s.posn.corrLost = false →
    Runs .corrAgeExpire s (((s.setPosn { s.posn with corrLost := true }).fltEv (R.GNSSCTL 0) 0).irq (R.GNSSCTL 0) 1)) ∧
  (∀ (adt : BitVec 64) (ans : Int) (rate : Word) (s : State), s.posnOn = true → adt.toNat ≤ s.dt →
    Runs (.gnssMapInstall adt ans rate) s (s.timeInstall adt.toNat ans rate)) ∧
  (∀ (pin : Fin 2) (s : State), Runs (.timePulse pin) s (s.tpPulse pin.val) ∧ Runs (.timePulseEnd pin) s (s.tpEnd pin.val) ∧
    Runs (.tpInfoPublish pin) s (s.tpPublish pin.val)) ∧
  (∀ (s : State), s.posnOn = true → s.timeLost = true → (s.tpSt 0 = 1 ∨ s.tpSt 0 = 2 ∨ s.tpSt 0 = 6) →
    Runs .timingLoss s s.timeLoss) ∧
  (∀ (s : State), s.posnOn = true → s.tpSt 0 = 3 → s.posn.holdAt + sDT (s.f R.TPULSE_HOLDOVER 15 0) ≤ s.dt →
    let st (n : Nat) := if s.b (R.TPULSE_TP_CFG n) 28 then 4 else 5
    Runs .holdoverExpire s (((s.setTpSt 0 (st 0)).setTpSt 1 (st 1)).wb R.TIME_DT_STAT 3 false)) ∧
  (∀ (s : State), s.posnOn = true → Runs .tpStep s s.tpStep)

/-- Where the session commands and events complete (19 R410, R412). -/
def Obligations.SessionCommandsComplete : Prop :=
  (∀ (c : Cmd) (s : State) (j : Fin 6),
    let role := c.byte 8
    let o := c.num 12 4
    let wrong := need 8 (decide (1 ≤ role) && decide (role ≤ 4)) ++ need 12 (decide (o + 64 ≤ 0x100000))
    let k := { CmdSpec.mk' 0x0C01 0 0 (c.badArg [(8, 8), (12, 15)] wrong) false with
      locked := s.ifLocked j.val || (role == 4 && !s.osardOk) }
    let t := s.acceptedBy c k
    s.openSlot c = some j.val → t.openSlot c = some j.val → Accepts s c k →
      Runs (.sessionChallenge c) s
        (((t.issue j role).2.2.wrWords (sharedBase + o) (t.issue j role).2.1).ok c (t.issue j role).1 0)) ∧
  (∀ (c : Cmd) (key : Option (Fin 17)) (s : State) (x : Challenge),
    let o := c.num 12 4
    let k := CmdSpec.mk' 0x0C02 0 0 (c.badArg [(8, 15)] (need 12 (decide (o + 96 ≤ 0x100000)))) false
    let t := s.acceptedBy c k
    s.sec.chals.find? (fun x => x.id == c.num 8 4 && s.openSlot c == some x.slot.val && s.fresh x) = some x →
    Accepts s c k →
      let u := t.setSec { t.sec with chals := t.sec.chals.erase x }
      let r := u.attempt x.slot x.role (u.keyFits x.role key && (x.role != 4 || u.osardOk))
      r.1 = 0 → Runs (.sessionOpen c key) s (r.2.ok c (nw (r.2.slotNum x.slot.val)) 0)) ∧
  (∀ (c : Cmd) (s : State) (j : Nat),
    let k := CmdSpec.mk' 0x0C03 1 0 (c.badArg [] []) false
    let t := s.acceptedBy c k
    Accepts s c k → t.cmdSlot c = some j → Runs (.sessionClose c) s ((t.closeSession j).ok c 0 0)) ∧
  (∀ (slot : Fin 6) (s : State), s.slotRole slot.val ≠ 0 →
    s.sec.lastAct.getD slot.val 0 + sDT (s.f R.SESSION_CFG 15 0) ≤ s.dt →
      Runs (.sessionIdleTimeout slot) s (s.closeSession slot.val)) ∧
  (∀ (id : Word) (s : State),
    Runs (.challengeExpire id) s
      (s.setSec { s.sec with chals := s.sec.chals.filter (fun x => x.id != id.toNat || s.fresh x) })) ∧
  (∀ (slot : Fin 6) (s : State) (t : DT), s.sec.lockUntil.getD slot.val none = some t → t ≤ s.dt →
    Runs (.interfaceLockoutExpire slot) s
      ((s.setSec { s.sec with lockUntil := s.sec.lockUntil.set slot.val none }).wb R.SECCTL_LOCKOUT slot.val false))

/-- Where the key, lock, update, audit and debug commands and events complete (19 R401 to R419). -/
def Obligations.SecurityCommandsComplete : Prop :=
  (∀ (c : Cmd) (s : State),
    let o := c.num 12 4
    let first := c.byte 9 == 2 && s.integratorKeys.isEmpty && decide (c.ring.val < 2) && s.mode == 1
    let wrong := need 8 (decide (c.byte 8 ≤ 14)) ++ need 9 (decide (1 ≤ c.byte 9) && decide (c.byte 9 ≤ 4)) ++
      need 12 (decide (o + 96 ≤ 0x100000))
    let k := CmdSpec.mk' 0x0C10 (if first then 0 else 2) 2 (c.badArg [(8, 9), (12, 15)] wrong) (!first && s.mode != 2)
    let t := s.acceptedBy c k
    Accepts s c k →
      Runs (.keyInstall c) s
        (((t.setKey (c.byte 8) ⟨c.byte 9, t.rdBytes (sharedBase + o) 96⟩).chg (R.KEYS 0)).ok c 0 0)) ∧
  (∀ (c : Cmd) (s : State),
    let k := CmdSpec.mk' 0x0C11 2 2 (c.badArg [(8, 8)] (need 8 (decide (c.byte 8 ≤ 14))))
      (s.mode != 2 || s.integratorKeys.all (fun i => i == c.byte 8))
    Accepts s c k → Runs (.keyRevoke c) s ((((s.acceptedBy c k).setKey (c.byte 8) ⟨0, []⟩).chg (R.KEYS 0)).ok c 0 0)) ∧
  (∀ (c : Cmd) (s : State),
    let o := c.num 12 4
    let k := CmdSpec.mk' 0x0C12 1 0 (c.badArg [(12, 15)] (need 12 (decide (o + 97 ≤ 0x100000)))) false
    let t := s.acceptedBy c k
    Accepts s c k → Runs (.keyExport c) s ((t.wrBytes (sharedBase + o) (0x04#8 :: (t.keyAt 15).key)).ok c 0 0)) ∧
  (∀ (c : Cmd) (s : State),
    let k := CmdSpec.mk' 0x0C20 2 2 (c.badArg [] []) (s.mode != 2)
    Accepts s c k → Runs (.cfgLockSet c) s (((s.acceptedBy c k).setLock true).ok c 0 0)) ∧
  (∀ (c : Cmd) (s : State),
    let k := { CmdSpec.mk' 0x0C21 3 2 (c.badArg [] []) (s.mode != 2) with locked := decide (2 ≤ c.ring.val) }
    Accepts s c k → Runs (.cfgLockClear c) s (((s.acceptedBy c k).setLock false).ok c 0 0)) ∧
  (∀ (i : ImageInfo) (v : Bool) (s : State) (j : Nat), s.worker 8 = some j → s.b (R.JOBS_JOB_STAT j) 7 = false →
    ((s.job j).step ≠ 0 ∨ (s.jobSt j = 2 ∧ s.stageRefused ((s.job j).num 20 4) i = none)) →
      Runs (.fwStageBlock i .written v) s (s.stageBlock j i v) ∧
      Runs (.fwStageBlock i .flashError v) s ((s.wb R.UPDATE_IMG_STAT (3 + s.otherSlot) false).failJob j 0x83)) ∧
  (∀ (c : Cmd) (s : State),
    let n := s.otherSlot
    let k := CmdSpec.mk' 0x0C30 3 2 (c.badArg [] []) (s.mode != 1 || !s.b R.UPDATE_IMG_STAT (3 + n))
    Accepts s c k →
      let t := (((s.acceptedBy c k).resetPackage .sec 0).wb R.UPDATE_IMG_STAT 1 (n == 1)).wb R.UPDATE_IMG_STAT 2 true
      Runs (.fwActivate c) s (t.setSec { t.sec with prevSlot := 1 - n })) ∧
  (∀ (c : Cmd) (s : State),
    let k := CmdSpec.mk' 0x0C31 2 2 (c.badArg [] []) (!s.onTrial)
    Accepts s c k →
      let t := (s.acceptedBy c k).wb R.UPDATE_IMG_STAT 2 false
      let t := t.setSec { t.sec with trialSince := none }
      let t := t.wf R.FUSE_SVN 6 0 (max (t.f R.FUSE_SVN 6 0) t.runSvn)
      Runs (.fwConfirm c) s (((t.fwAudit 0).chg (R.UPDATE 0)).ok c 0 0)) ∧
  (∀ (s : State) (t : DT), s.onTrial = true → s.sec.trialSince = some t → t + sDT (s.f R.UPDATE_CFG 15 0) ≤ s.dt →
    let u := s.endTrial
    Runs .trialTimeout s
      (if u.mode = 1 then (u.resetPackage .sec 0).irq (R.UPDATE 0) 1 else u.setSec { u.sec with revertDue := true })) ∧
  (∀ (c : Cmd) (s : State),
    let k := CmdSpec.mk' 0x0C40 3 0 (c.badArg [] []) (!([1, 2, 4, 5].contains s.mode) || !s.sec.audArchived)
    let t := s.acceptedBy c k
    Accepts s c k → t.audRun 1 = true →
      Runs (.auditClear c) s ((t.auditClear (c.ring.val + 1) (t.cmdRole c) c.sess.toNat).ok c 0 0)) ∧
  (∀ (c : Cmd) (s : State),
    let k := CmdSpec.mk' 0x0C41 2 2 (c.badArg [] []) (s.mode != 1)
    let t := s.acceptedBy c k
    Accepts s c k → Runs (.rmaPermit c) s ((t.setSec { t.sec with rmaPermit := true }).ok c 0 0)) ∧
  (∀ (c : Cmd) (s : State),
    let n := c.byte 8
    let k := { CmdSpec.mk' 0x0C50 (n + 2) 2 (c.badArg [(8, 8)] (need 8 (n == 1 || n == 2))) (s.mode != 1 && s.mode != 4) with
      locked := s.sec.cfgLock }
    let t := s.acceptedBy c k
    Accepts s c k →
      Runs (.debugOpen c) s ((((if n = 2 then t.wipeKeys else t).setDebug n).chg (R.DBGCTL 0)).ok c 0 0)) ∧
  (∀ (c : Cmd) (s : State),
    let k := CmdSpec.mk' 0x0C51 3 1 (c.badArg [] []) false
    Accepts s c k → Runs (.debugClose c) s (((s.acceptedBy c k).setDebug 0).ok c 0 0))
end

