-- ==== Sys2Proof/Laws/SMap.lean ====
section
/-!
SUPPORT. What sparse storage gives back after an update, and that every update keeps its canonical form.
-/
namespace Sys2Proof.SMap

variable {α : Type}

theorem get_erase_self (d : Nat → α) (m : SMap α) (k : Nat) : SMap.get d (SMap.erase m k) k = d k := by
  induction m with
  | nil => rfl
  | cons e t ih =>
    obtain ⟨j, w⟩ := e
    by_cases h : j = k
    · subst h; simpa [SMap.erase] using ih
    · simpa [SMap.erase, SMap.get, h] using ih

theorem get_erase_ne (d : Nat → α) (m : SMap α) {k k' : Nat} (h : k' ≠ k) :
    SMap.get d (SMap.erase m k) k' = SMap.get d m k' := by
  induction m with
  | nil => rfl
  | cons e t ih =>
    obtain ⟨j, w⟩ := e
    by_cases hj : j = k
    · subst hj; simpa [SMap.erase, SMap.get, Ne.symm h] using ih
    · by_cases hk : j = k'
      · subst hk; simp [SMap.erase, SMap.get, hj]
      · simpa [SMap.erase, SMap.get, hj, hk] using ih

theorem get_ins_self (d : Nat → α) (m : SMap α) (k : Nat) (v : α) : SMap.get d (SMap.ins k v m) k = v := by
  induction m with
  | nil => simp [SMap.ins, SMap.get]
  | cons e t ih =>
    obtain ⟨j, w⟩ := e
    by_cases h : j < k
    · simp [SMap.ins, SMap.get, h, Nat.ne_of_lt h, ih]
    · simp [SMap.ins, SMap.get, h]

theorem get_ins_ne (d : Nat → α) (m : SMap α) {k k' : Nat} (v : α) (h : k' ≠ k) :
    SMap.get d (SMap.ins k v m) k' = SMap.get d m k' := by
  induction m with
  | nil => simp [SMap.ins, SMap.get, Ne.symm h]
  | cons e t ih =>
    obtain ⟨j, w⟩ := e
    by_cases hj : j < k
    · rw [SMap.ins, if_pos hj, SMap.get, SMap.get, ih]
    · simp [SMap.ins, SMap.get, hj, Ne.symm h]

variable [DecidableEq α]

/-- The key that was stored reads back. -/
@[simp] theorem get_put_self (d : Nat → α) (m : SMap α) (k : Nat) (v : α) : SMap.get d (SMap.put d m k v) k = v := by
  unfold SMap.put
  split
  · next h => rw [h]; exact get_erase_self d m k
  · exact get_ins_self d _ k v

/-- Every other key reads as before. -/
theorem get_put_ne (d : Nat → α) (m : SMap α) {k k' : Nat} (v : α) (h : k' ≠ k) :
    SMap.get d (SMap.put d m k v) k' = SMap.get d m k' := by
  unfold SMap.put
  split
  · exact get_erase_ne d m h
  · rw [get_ins_ne d _ v h, get_erase_ne d m h]

/-- Keys outside a stored run read as before. -/
theorem get_putAll_ne (d : Nat → α) (l : List α) : ∀ (m : SMap α) (k a : Nat), (a < k ∨ k + l.length ≤ a) →
    SMap.get d (SMap.putAll d m k l) a = SMap.get d m a := by
  induction l with
  | nil => intro m k a _; rfl
  | cons v t ih =>
    intro m k a h
    simp only [List.length_cons] at h
    rw [SMap.putAll, ih _ _ _ (by omega), get_put_ne d m v (by omega)]

/-- Element `i` of a stored run reads back. -/
theorem get_putAll (d : Nat → α) (l : List α) : ∀ (m : SMap α) (k i : Nat) (h : i < l.length),
    SMap.get d (SMap.putAll d m k l) (k + i) = l[i] := by
  induction l with
  | nil => intro m k i h; simp at h
  | cons v t ih =>
    intro m k i h
    cases i with
    | zero => rw [SMap.putAll, get_putAll_ne d t _ _ _ (by omega)]; simp
    | succ i =>
      have := ih (SMap.put d m k v) (k + 1) i (by simpa using h)
      rw [SMap.putAll, show k + (i + 1) = k + 1 + i by omega, this]; rfl

theorem wfFrom_mono (d : Nat → α) : ∀ (m : SMap α) {a b : Nat}, a ≤ b → SMap.wfFrom d b m = true → SMap.wfFrom d a m = true := by
  intro m a b h hw
  cases m with
  | nil => rfl
  | cons e t =>
    obtain ⟨j, w⟩ := e
    simp only [SMap.wfFrom, Bool.and_eq_true, decide_eq_true_eq] at hw ⊢
    exact ⟨⟨by omega, hw.1.2⟩, hw.2⟩

theorem wfFrom_filter (d : Nat → α) (p : Nat × α → Bool) : ∀ (m : SMap α) (a : Nat), SMap.wfFrom d a m = true →
    SMap.wfFrom d a (m.filter p) = true := by
  intro m
  induction m with
  | nil => intro a _; rfl
  | cons e t ih =>
    intro a hw
    obtain ⟨j, w⟩ := e
    simp only [SMap.wfFrom, Bool.and_eq_true, decide_eq_true_eq] at hw
    by_cases h : p (j, w)
    · simp only [List.filter_cons, h, if_true, SMap.wfFrom, Bool.and_eq_true, decide_eq_true_eq]
      exact ⟨hw.1, ih _ hw.2⟩
    · rw [List.filter_cons, if_neg h]
      exact wfFrom_mono d _ (by omega) (ih _ hw.2)

/-- Dropping entries keeps the canonical form. -/
theorem wf_filter (d : Nat → α) (m : SMap α) (p : Nat × α → Bool) (h : SMap.wf d m = true) : SMap.wf d (m.filter p) = true :=
  wfFrom_filter d p m 0 h

theorem wfFrom_ins (d : Nat → α) (k : Nat) (v : α) (hv : v ≠ d k) : ∀ (m : SMap α) (a : Nat), a ≤ k →
    SMap.wfFrom d a (SMap.erase m k) = true → SMap.wfFrom d a (SMap.ins k v (SMap.erase m k)) = true := by
  intro m
  generalize hm : SMap.erase m k = n
  have hk : ∀ e ∈ n, e.1 ≠ k := by
    intro e he; rw [← hm] at he; have := (List.mem_filter.mp he).2; simpa using this
  clear hm
  induction n with
  | nil => intro a ha _; simp [SMap.ins, SMap.wfFrom, ha, hv]
  | cons e t ih =>
    intro a ha hw
    obtain ⟨j, w⟩ := e
    have hj : j ≠ k := hk (j, w) (by simp)
    simp only [SMap.wfFrom, Bool.and_eq_true, decide_eq_true_eq] at hw
    by_cases h : j < k
    · simp only [SMap.ins, h, if_true, SMap.wfFrom, Bool.and_eq_true, decide_eq_true_eq]
      exact ⟨hw.1, ih (fun e he => hk e (by simp [he])) (j + 1) (by omega) hw.2⟩
    · simp only [SMap.ins, h, if_false, SMap.wfFrom, Bool.and_eq_true, decide_eq_true_eq]
      exact ⟨⟨ha, hv⟩, ⟨by omega, hw.1.2⟩, hw.2⟩

/-- Storing keeps the canonical form. -/
theorem wf_put (d : Nat → α) (m : SMap α) (k : Nat) (v : α) (h : SMap.wf d m = true) : SMap.wf d (SMap.put d m k v) = true := by
  have he : SMap.wf d (SMap.erase m k) = true := wf_filter d m _ h
  unfold SMap.put
  split
  · exact he
  · next hv => exact wfFrom_ins d k v hv m 0 (Nat.zero_le k) he

/-- Storing a run keeps the canonical form. -/
theorem wf_putAll (d : Nat → α) (l : List α) : ∀ (m : SMap α) (k : Nat), SMap.wf d m = true →
    SMap.wf d (SMap.putAll d m k l) = true := by
  induction l with
  | nil => intro m k h; exact h
  | cons v t ih => intro m k h; exact ih _ _ (wf_put d m k v h)

end Sys2Proof.SMap
end

