-- ==== Sys2Proof/Laws/State.lean ====
section
/-!
SUPPORT. What the named operations over registers, memory and interrupts change, field by field, and what they leave.
-/
namespace Sys2Proof.Machine

/-! ## A register write changes `regs` alone -/

@[simp] theorem State.w_variant (s : State) (o : Nat) (v : Word) : (s.w o v).variant = s.variant := rfl
@[simp] theorem State.w_dt (s : State) (o : Nat) (v : Word) : (s.w o v).dt = s.dt := rfl
@[simp] theorem State.w_mem (s : State) (o : Nat) (v : Word) : (s.w o v).mem = s.mem := rfl
@[simp] theorem State.w_pkg (s : State) (o : Nat) (v : Word) : (s.w o v).pkg = s.pkg := rfl
@[simp] theorem State.w_host (s : State) (o : Nat) (v : Word) : (s.w o v).host = s.host := rfl
@[simp] theorem State.w_jobs (s : State) (o : Nat) (v : Word) : (s.w o v).jobs = s.jobs := rfl
@[simp] theorem State.w_mu (s : State) (o : Nat) (v : Word) : (s.w o v).mu = s.mu := rfl
@[simp] theorem State.w_sec (s : State) (o : Nat) (v : Word) : (s.w o v).sec = s.sec := rfl
@[simp] theorem State.w_attic (s : State) (o : Nat) (v : Word) : (s.w o v).attic = s.attic := rfl
@[simp] theorem State.w_pose (s : State) (o : Nat) (v : Word) : (s.w o v).pose = s.pose := rfl
@[simp] theorem State.w_rast (s : State) (o : Nat) (v : Word) : (s.w o v).rast = s.rast := rfl
@[simp] theorem State.w_look (s : State) (o : Nat) (v : Word) : (s.w o v).look = s.look := rfl
@[simp] theorem State.w_meter (s : State) (o : Nat) (v : Word) : (s.w o v).meter = s.meter := rfl
@[simp] theorem State.w_drive (s : State) (o : Nat) (v : Word) : (s.w o v).drive = s.drive := rfl
@[simp] theorem State.w_motion (s : State) (o : Nat) (v : Word) : (s.w o v).motion = s.motion := rfl
@[simp] theorem State.w_pwm (s : State) (o : Nat) (v : Word) : (s.w o v).pwm = s.pwm := rfl
@[simp] theorem State.w_fio (s : State) (o : Nat) (v : Word) : (s.w o v).fio = s.fio := rfl
@[simp] theorem State.w_ctl (s : State) (o : Nat) (v : Word) : (s.w o v).ctl = s.ctl := rfl
@[simp] theorem State.w_gnss (s : State) (o : Nat) (v : Word) : (s.w o v).gnss = s.gnss := rfl
@[simp] theorem State.w_posn (s : State) (o : Nat) (v : Word) : (s.w o v).posn = s.posn := rfl
@[simp] theorem State.w_comm (s : State) (o : Nat) (v : Word) : (s.w o v).comm = s.comm := rfl
@[simp] theorem State.w_freeCtr (s : State) (o : Nat) (v : Word) : (s.w o v).freeCtr = s.freeCtr := rfl
@[simp] theorem State.w_pending (s : State) (o : Nat) (v : Word) : (s.w o v).pending = s.pending := rfl

@[simp] theorem State.wf_variant (s : State) (o hi lo v : Nat) : (s.wf o hi lo v).variant = s.variant := rfl
@[simp] theorem State.wf_dt (s : State) (o hi lo v : Nat) : (s.wf o hi lo v).dt = s.dt := rfl
@[simp] theorem State.wf_mem (s : State) (o hi lo v : Nat) : (s.wf o hi lo v).mem = s.mem := rfl
@[simp] theorem State.wf_pkg (s : State) (o hi lo v : Nat) : (s.wf o hi lo v).pkg = s.pkg := rfl
@[simp] theorem State.wf_host (s : State) (o hi lo v : Nat) : (s.wf o hi lo v).host = s.host := rfl
@[simp] theorem State.wf_jobs (s : State) (o hi lo v : Nat) : (s.wf o hi lo v).jobs = s.jobs := rfl
@[simp] theorem State.wf_mu (s : State) (o hi lo v : Nat) : (s.wf o hi lo v).mu = s.mu := rfl
@[simp] theorem State.wf_sec (s : State) (o hi lo v : Nat) : (s.wf o hi lo v).sec = s.sec := rfl
@[simp] theorem State.wf_attic (s : State) (o hi lo v : Nat) : (s.wf o hi lo v).attic = s.attic := rfl
@[simp] theorem State.wf_pose (s : State) (o hi lo v : Nat) : (s.wf o hi lo v).pose = s.pose := rfl
@[simp] theorem State.wf_rast (s : State) (o hi lo v : Nat) : (s.wf o hi lo v).rast = s.rast := rfl
@[simp] theorem State.wf_look (s : State) (o hi lo v : Nat) : (s.wf o hi lo v).look = s.look := rfl
@[simp] theorem State.wf_meter (s : State) (o hi lo v : Nat) : (s.wf o hi lo v).meter = s.meter := rfl
@[simp] theorem State.wf_drive (s : State) (o hi lo v : Nat) : (s.wf o hi lo v).drive = s.drive := rfl
@[simp] theorem State.wf_motion (s : State) (o hi lo v : Nat) : (s.wf o hi lo v).motion = s.motion := rfl
@[simp] theorem State.wf_pwm (s : State) (o hi lo v : Nat) : (s.wf o hi lo v).pwm = s.pwm := rfl
@[simp] theorem State.wf_fio (s : State) (o hi lo v : Nat) : (s.wf o hi lo v).fio = s.fio := rfl
@[simp] theorem State.wf_ctl (s : State) (o hi lo v : Nat) : (s.wf o hi lo v).ctl = s.ctl := rfl
@[simp] theorem State.wf_gnss (s : State) (o hi lo v : Nat) : (s.wf o hi lo v).gnss = s.gnss := rfl
@[simp] theorem State.wf_posn (s : State) (o hi lo v : Nat) : (s.wf o hi lo v).posn = s.posn := rfl
@[simp] theorem State.wf_comm (s : State) (o hi lo v : Nat) : (s.wf o hi lo v).comm = s.comm := rfl
@[simp] theorem State.wf_freeCtr (s : State) (o hi lo v : Nat) : (s.wf o hi lo v).freeCtr = s.freeCtr := rfl
@[simp] theorem State.wf_pending (s : State) (o hi lo v : Nat) : (s.wf o hi lo v).pending = s.pending := rfl

@[simp] theorem State.wb_variant (s : State) (o i : Nat) (v : Bool) : (s.wb o i v).variant = s.variant := rfl
@[simp] theorem State.wb_dt (s : State) (o i : Nat) (v : Bool) : (s.wb o i v).dt = s.dt := rfl
@[simp] theorem State.wb_mem (s : State) (o i : Nat) (v : Bool) : (s.wb o i v).mem = s.mem := rfl
@[simp] theorem State.wb_pkg (s : State) (o i : Nat) (v : Bool) : (s.wb o i v).pkg = s.pkg := rfl
@[simp] theorem State.wb_host (s : State) (o i : Nat) (v : Bool) : (s.wb o i v).host = s.host := rfl
@[simp] theorem State.wb_jobs (s : State) (o i : Nat) (v : Bool) : (s.wb o i v).jobs = s.jobs := rfl
@[simp] theorem State.wb_mu (s : State) (o i : Nat) (v : Bool) : (s.wb o i v).mu = s.mu := rfl
@[simp] theorem State.wb_sec (s : State) (o i : Nat) (v : Bool) : (s.wb o i v).sec = s.sec := rfl
@[simp] theorem State.wb_attic (s : State) (o i : Nat) (v : Bool) : (s.wb o i v).attic = s.attic := rfl
@[simp] theorem State.wb_pose (s : State) (o i : Nat) (v : Bool) : (s.wb o i v).pose = s.pose := rfl
@[simp] theorem State.wb_rast (s : State) (o i : Nat) (v : Bool) : (s.wb o i v).rast = s.rast := rfl
@[simp] theorem State.wb_look (s : State) (o i : Nat) (v : Bool) : (s.wb o i v).look = s.look := rfl
@[simp] theorem State.wb_meter (s : State) (o i : Nat) (v : Bool) : (s.wb o i v).meter = s.meter := rfl
@[simp] theorem State.wb_drive (s : State) (o i : Nat) (v : Bool) : (s.wb o i v).drive = s.drive := rfl
@[simp] theorem State.wb_motion (s : State) (o i : Nat) (v : Bool) : (s.wb o i v).motion = s.motion := rfl
@[simp] theorem State.wb_pwm (s : State) (o i : Nat) (v : Bool) : (s.wb o i v).pwm = s.pwm := rfl
@[simp] theorem State.wb_fio (s : State) (o i : Nat) (v : Bool) : (s.wb o i v).fio = s.fio := rfl
@[simp] theorem State.wb_ctl (s : State) (o i : Nat) (v : Bool) : (s.wb o i v).ctl = s.ctl := rfl
@[simp] theorem State.wb_gnss (s : State) (o i : Nat) (v : Bool) : (s.wb o i v).gnss = s.gnss := rfl
@[simp] theorem State.wb_posn (s : State) (o i : Nat) (v : Bool) : (s.wb o i v).posn = s.posn := rfl
@[simp] theorem State.wb_comm (s : State) (o i : Nat) (v : Bool) : (s.wb o i v).comm = s.comm := rfl
@[simp] theorem State.wb_freeCtr (s : State) (o i : Nat) (v : Bool) : (s.wb o i v).freeCtr = s.freeCtr := rfl
@[simp] theorem State.wb_pending (s : State) (o i : Nat) (v : Bool) : (s.wb o i v).pending = s.pending := rfl

@[simp] theorem State.satInc_variant (s : State) (o hi lo n : Nat) : (s.satInc o hi lo n).variant = s.variant := rfl
@[simp] theorem State.satInc_dt (s : State) (o hi lo n : Nat) : (s.satInc o hi lo n).dt = s.dt := rfl
@[simp] theorem State.satInc_mem (s : State) (o hi lo n : Nat) : (s.satInc o hi lo n).mem = s.mem := rfl
@[simp] theorem State.satInc_pkg (s : State) (o hi lo n : Nat) : (s.satInc o hi lo n).pkg = s.pkg := rfl
@[simp] theorem State.satInc_host (s : State) (o hi lo n : Nat) : (s.satInc o hi lo n).host = s.host := rfl
@[simp] theorem State.satInc_jobs (s : State) (o hi lo n : Nat) : (s.satInc o hi lo n).jobs = s.jobs := rfl
@[simp] theorem State.satInc_mu (s : State) (o hi lo n : Nat) : (s.satInc o hi lo n).mu = s.mu := rfl
@[simp] theorem State.satInc_sec (s : State) (o hi lo n : Nat) : (s.satInc o hi lo n).sec = s.sec := rfl
@[simp] theorem State.satInc_attic (s : State) (o hi lo n : Nat) : (s.satInc o hi lo n).attic = s.attic := rfl
@[simp] theorem State.satInc_pose (s : State) (o hi lo n : Nat) : (s.satInc o hi lo n).pose = s.pose := rfl
@[simp] theorem State.satInc_rast (s : State) (o hi lo n : Nat) : (s.satInc o hi lo n).rast = s.rast := rfl
@[simp] theorem State.satInc_look (s : State) (o hi lo n : Nat) : (s.satInc o hi lo n).look = s.look := rfl
@[simp] theorem State.satInc_meter (s : State) (o hi lo n : Nat) : (s.satInc o hi lo n).meter = s.meter := rfl
@[simp] theorem State.satInc_drive (s : State) (o hi lo n : Nat) : (s.satInc o hi lo n).drive = s.drive := rfl
@[simp] theorem State.satInc_motion (s : State) (o hi lo n : Nat) : (s.satInc o hi lo n).motion = s.motion := rfl
@[simp] theorem State.satInc_pwm (s : State) (o hi lo n : Nat) : (s.satInc o hi lo n).pwm = s.pwm := rfl
@[simp] theorem State.satInc_fio (s : State) (o hi lo n : Nat) : (s.satInc o hi lo n).fio = s.fio := rfl
@[simp] theorem State.satInc_ctl (s : State) (o hi lo n : Nat) : (s.satInc o hi lo n).ctl = s.ctl := rfl
@[simp] theorem State.satInc_gnss (s : State) (o hi lo n : Nat) : (s.satInc o hi lo n).gnss = s.gnss := rfl
@[simp] theorem State.satInc_posn (s : State) (o hi lo n : Nat) : (s.satInc o hi lo n).posn = s.posn := rfl
@[simp] theorem State.satInc_comm (s : State) (o hi lo n : Nat) : (s.satInc o hi lo n).comm = s.comm := rfl
@[simp] theorem State.satInc_freeCtr (s : State) (o hi lo n : Nat) : (s.satInc o hi lo n).freeCtr = s.freeCtr := rfl
@[simp] theorem State.satInc_pending (s : State) (o hi lo n : Nat) : (s.satInc o hi lo n).pending = s.pending := rfl

@[simp] theorem State.inc_variant (s : State) (o hi lo n : Nat) : (s.inc o hi lo n).variant = s.variant := rfl
@[simp] theorem State.inc_dt (s : State) (o hi lo n : Nat) : (s.inc o hi lo n).dt = s.dt := rfl
@[simp] theorem State.inc_mem (s : State) (o hi lo n : Nat) : (s.inc o hi lo n).mem = s.mem := rfl
@[simp] theorem State.inc_pkg (s : State) (o hi lo n : Nat) : (s.inc o hi lo n).pkg = s.pkg := rfl
@[simp] theorem State.inc_host (s : State) (o hi lo n : Nat) : (s.inc o hi lo n).host = s.host := rfl
@[simp] theorem State.inc_jobs (s : State) (o hi lo n : Nat) : (s.inc o hi lo n).jobs = s.jobs := rfl
@[simp] theorem State.inc_mu (s : State) (o hi lo n : Nat) : (s.inc o hi lo n).mu = s.mu := rfl
@[simp] theorem State.inc_sec (s : State) (o hi lo n : Nat) : (s.inc o hi lo n).sec = s.sec := rfl
@[simp] theorem State.inc_attic (s : State) (o hi lo n : Nat) : (s.inc o hi lo n).attic = s.attic := rfl
@[simp] theorem State.inc_pose (s : State) (o hi lo n : Nat) : (s.inc o hi lo n).pose = s.pose := rfl
@[simp] theorem State.inc_rast (s : State) (o hi lo n : Nat) : (s.inc o hi lo n).rast = s.rast := rfl
@[simp] theorem State.inc_look (s : State) (o hi lo n : Nat) : (s.inc o hi lo n).look = s.look := rfl
@[simp] theorem State.inc_meter (s : State) (o hi lo n : Nat) : (s.inc o hi lo n).meter = s.meter := rfl
@[simp] theorem State.inc_drive (s : State) (o hi lo n : Nat) : (s.inc o hi lo n).drive = s.drive := rfl
@[simp] theorem State.inc_motion (s : State) (o hi lo n : Nat) : (s.inc o hi lo n).motion = s.motion := rfl
@[simp] theorem State.inc_pwm (s : State) (o hi lo n : Nat) : (s.inc o hi lo n).pwm = s.pwm := rfl
@[simp] theorem State.inc_fio (s : State) (o hi lo n : Nat) : (s.inc o hi lo n).fio = s.fio := rfl
@[simp] theorem State.inc_ctl (s : State) (o hi lo n : Nat) : (s.inc o hi lo n).ctl = s.ctl := rfl
@[simp] theorem State.inc_gnss (s : State) (o hi lo n : Nat) : (s.inc o hi lo n).gnss = s.gnss := rfl
@[simp] theorem State.inc_posn (s : State) (o hi lo n : Nat) : (s.inc o hi lo n).posn = s.posn := rfl
@[simp] theorem State.inc_comm (s : State) (o hi lo n : Nat) : (s.inc o hi lo n).comm = s.comm := rfl
@[simp] theorem State.inc_freeCtr (s : State) (o hi lo n : Nat) : (s.inc o hi lo n).freeCtr = s.freeCtr := rfl
@[simp] theorem State.inc_pending (s : State) (o hi lo n : Nat) : (s.inc o hi lo n).pending = s.pending := rfl

@[simp] theorem State.irq_variant (s : State) (b i : Nat) : (s.irq b i).variant = s.variant := rfl
@[simp] theorem State.irq_dt (s : State) (b i : Nat) : (s.irq b i).dt = s.dt := rfl
@[simp] theorem State.irq_mem (s : State) (b i : Nat) : (s.irq b i).mem = s.mem := rfl
@[simp] theorem State.irq_pkg (s : State) (b i : Nat) : (s.irq b i).pkg = s.pkg := rfl
@[simp] theorem State.irq_host (s : State) (b i : Nat) : (s.irq b i).host = s.host := rfl
@[simp] theorem State.irq_jobs (s : State) (b i : Nat) : (s.irq b i).jobs = s.jobs := rfl
@[simp] theorem State.irq_mu (s : State) (b i : Nat) : (s.irq b i).mu = s.mu := rfl
@[simp] theorem State.irq_sec (s : State) (b i : Nat) : (s.irq b i).sec = s.sec := rfl
@[simp] theorem State.irq_attic (s : State) (b i : Nat) : (s.irq b i).attic = s.attic := rfl
@[simp] theorem State.irq_pose (s : State) (b i : Nat) : (s.irq b i).pose = s.pose := rfl
@[simp] theorem State.irq_rast (s : State) (b i : Nat) : (s.irq b i).rast = s.rast := rfl
@[simp] theorem State.irq_look (s : State) (b i : Nat) : (s.irq b i).look = s.look := rfl
@[simp] theorem State.irq_meter (s : State) (b i : Nat) : (s.irq b i).meter = s.meter := rfl
@[simp] theorem State.irq_drive (s : State) (b i : Nat) : (s.irq b i).drive = s.drive := rfl
@[simp] theorem State.irq_motion (s : State) (b i : Nat) : (s.irq b i).motion = s.motion := rfl
@[simp] theorem State.irq_pwm (s : State) (b i : Nat) : (s.irq b i).pwm = s.pwm := rfl
@[simp] theorem State.irq_fio (s : State) (b i : Nat) : (s.irq b i).fio = s.fio := rfl
@[simp] theorem State.irq_ctl (s : State) (b i : Nat) : (s.irq b i).ctl = s.ctl := rfl
@[simp] theorem State.irq_gnss (s : State) (b i : Nat) : (s.irq b i).gnss = s.gnss := rfl
@[simp] theorem State.irq_posn (s : State) (b i : Nat) : (s.irq b i).posn = s.posn := rfl
@[simp] theorem State.irq_comm (s : State) (b i : Nat) : (s.irq b i).comm = s.comm := rfl
@[simp] theorem State.irq_freeCtr (s : State) (b i : Nat) : (s.irq b i).freeCtr = s.freeCtr := rfl
@[simp] theorem State.irq_pending (s : State) (b i : Nat) : (s.irq b i).pending = s.pending := rfl

@[simp] theorem State.flt_variant (s : State) (b i : Nat) : (s.flt b i).variant = s.variant := rfl
@[simp] theorem State.flt_dt (s : State) (b i : Nat) : (s.flt b i).dt = s.dt := rfl
@[simp] theorem State.flt_mem (s : State) (b i : Nat) : (s.flt b i).mem = s.mem := rfl
@[simp] theorem State.flt_pkg (s : State) (b i : Nat) : (s.flt b i).pkg = s.pkg := rfl
@[simp] theorem State.flt_host (s : State) (b i : Nat) : (s.flt b i).host = s.host := rfl
@[simp] theorem State.flt_jobs (s : State) (b i : Nat) : (s.flt b i).jobs = s.jobs := rfl
@[simp] theorem State.flt_mu (s : State) (b i : Nat) : (s.flt b i).mu = s.mu := rfl
@[simp] theorem State.flt_sec (s : State) (b i : Nat) : (s.flt b i).sec = s.sec := rfl
@[simp] theorem State.flt_attic (s : State) (b i : Nat) : (s.flt b i).attic = s.attic := rfl
@[simp] theorem State.flt_pose (s : State) (b i : Nat) : (s.flt b i).pose = s.pose := rfl
@[simp] theorem State.flt_rast (s : State) (b i : Nat) : (s.flt b i).rast = s.rast := rfl
@[simp] theorem State.flt_look (s : State) (b i : Nat) : (s.flt b i).look = s.look := rfl
@[simp] theorem State.flt_meter (s : State) (b i : Nat) : (s.flt b i).meter = s.meter := rfl
@[simp] theorem State.flt_drive (s : State) (b i : Nat) : (s.flt b i).drive = s.drive := rfl
@[simp] theorem State.flt_motion (s : State) (b i : Nat) : (s.flt b i).motion = s.motion := rfl
@[simp] theorem State.flt_pwm (s : State) (b i : Nat) : (s.flt b i).pwm = s.pwm := rfl
@[simp] theorem State.flt_fio (s : State) (b i : Nat) : (s.flt b i).fio = s.fio := rfl
@[simp] theorem State.flt_ctl (s : State) (b i : Nat) : (s.flt b i).ctl = s.ctl := rfl
@[simp] theorem State.flt_gnss (s : State) (b i : Nat) : (s.flt b i).gnss = s.gnss := rfl
@[simp] theorem State.flt_posn (s : State) (b i : Nat) : (s.flt b i).posn = s.posn := rfl
@[simp] theorem State.flt_comm (s : State) (b i : Nat) : (s.flt b i).comm = s.comm := rfl
@[simp] theorem State.flt_freeCtr (s : State) (b i : Nat) : (s.flt b i).freeCtr = s.freeCtr := rfl
@[simp] theorem State.flt_pending (s : State) (b i : Nat) : (s.flt b i).pending = s.pending := rfl

@[simp] theorem State.uirq_variant (s : State) (b i : Nat) : (s.uirq b i).variant = s.variant := rfl
@[simp] theorem State.uirq_dt (s : State) (b i : Nat) : (s.uirq b i).dt = s.dt := rfl
@[simp] theorem State.uirq_mem (s : State) (b i : Nat) : (s.uirq b i).mem = s.mem := rfl
@[simp] theorem State.uirq_pkg (s : State) (b i : Nat) : (s.uirq b i).pkg = s.pkg := rfl
@[simp] theorem State.uirq_host (s : State) (b i : Nat) : (s.uirq b i).host = s.host := rfl
@[simp] theorem State.uirq_jobs (s : State) (b i : Nat) : (s.uirq b i).jobs = s.jobs := rfl
@[simp] theorem State.uirq_mu (s : State) (b i : Nat) : (s.uirq b i).mu = s.mu := rfl
@[simp] theorem State.uirq_sec (s : State) (b i : Nat) : (s.uirq b i).sec = s.sec := rfl
@[simp] theorem State.uirq_attic (s : State) (b i : Nat) : (s.uirq b i).attic = s.attic := rfl
@[simp] theorem State.uirq_pose (s : State) (b i : Nat) : (s.uirq b i).pose = s.pose := rfl
@[simp] theorem State.uirq_rast (s : State) (b i : Nat) : (s.uirq b i).rast = s.rast := rfl
@[simp] theorem State.uirq_look (s : State) (b i : Nat) : (s.uirq b i).look = s.look := rfl
@[simp] theorem State.uirq_meter (s : State) (b i : Nat) : (s.uirq b i).meter = s.meter := rfl
@[simp] theorem State.uirq_drive (s : State) (b i : Nat) : (s.uirq b i).drive = s.drive := rfl
@[simp] theorem State.uirq_motion (s : State) (b i : Nat) : (s.uirq b i).motion = s.motion := rfl
@[simp] theorem State.uirq_pwm (s : State) (b i : Nat) : (s.uirq b i).pwm = s.pwm := rfl
@[simp] theorem State.uirq_fio (s : State) (b i : Nat) : (s.uirq b i).fio = s.fio := rfl
@[simp] theorem State.uirq_ctl (s : State) (b i : Nat) : (s.uirq b i).ctl = s.ctl := rfl
@[simp] theorem State.uirq_gnss (s : State) (b i : Nat) : (s.uirq b i).gnss = s.gnss := rfl
@[simp] theorem State.uirq_posn (s : State) (b i : Nat) : (s.uirq b i).posn = s.posn := rfl
@[simp] theorem State.uirq_comm (s : State) (b i : Nat) : (s.uirq b i).comm = s.comm := rfl
@[simp] theorem State.uirq_freeCtr (s : State) (b i : Nat) : (s.uirq b i).freeCtr = s.freeCtr := rfl
@[simp] theorem State.uirq_pending (s : State) (b i : Nat) : (s.uirq b i).pending = s.pending := rfl

@[simp] theorem State.uflt_variant (s : State) (b i : Nat) : (s.uflt b i).variant = s.variant := rfl
@[simp] theorem State.uflt_dt (s : State) (b i : Nat) : (s.uflt b i).dt = s.dt := rfl
@[simp] theorem State.uflt_mem (s : State) (b i : Nat) : (s.uflt b i).mem = s.mem := rfl
@[simp] theorem State.uflt_pkg (s : State) (b i : Nat) : (s.uflt b i).pkg = s.pkg := rfl
@[simp] theorem State.uflt_host (s : State) (b i : Nat) : (s.uflt b i).host = s.host := rfl
@[simp] theorem State.uflt_jobs (s : State) (b i : Nat) : (s.uflt b i).jobs = s.jobs := rfl
@[simp] theorem State.uflt_mu (s : State) (b i : Nat) : (s.uflt b i).mu = s.mu := rfl
@[simp] theorem State.uflt_sec (s : State) (b i : Nat) : (s.uflt b i).sec = s.sec := rfl
@[simp] theorem State.uflt_attic (s : State) (b i : Nat) : (s.uflt b i).attic = s.attic := rfl
@[simp] theorem State.uflt_pose (s : State) (b i : Nat) : (s.uflt b i).pose = s.pose := rfl
@[simp] theorem State.uflt_rast (s : State) (b i : Nat) : (s.uflt b i).rast = s.rast := rfl
@[simp] theorem State.uflt_look (s : State) (b i : Nat) : (s.uflt b i).look = s.look := rfl
@[simp] theorem State.uflt_meter (s : State) (b i : Nat) : (s.uflt b i).meter = s.meter := rfl
@[simp] theorem State.uflt_drive (s : State) (b i : Nat) : (s.uflt b i).drive = s.drive := rfl
@[simp] theorem State.uflt_motion (s : State) (b i : Nat) : (s.uflt b i).motion = s.motion := rfl
@[simp] theorem State.uflt_pwm (s : State) (b i : Nat) : (s.uflt b i).pwm = s.pwm := rfl
@[simp] theorem State.uflt_fio (s : State) (b i : Nat) : (s.uflt b i).fio = s.fio := rfl
@[simp] theorem State.uflt_ctl (s : State) (b i : Nat) : (s.uflt b i).ctl = s.ctl := rfl
@[simp] theorem State.uflt_gnss (s : State) (b i : Nat) : (s.uflt b i).gnss = s.gnss := rfl
@[simp] theorem State.uflt_posn (s : State) (b i : Nat) : (s.uflt b i).posn = s.posn := rfl
@[simp] theorem State.uflt_comm (s : State) (b i : Nat) : (s.uflt b i).comm = s.comm := rfl
@[simp] theorem State.uflt_freeCtr (s : State) (b i : Nat) : (s.uflt b i).freeCtr = s.freeCtr := rfl
@[simp] theorem State.uflt_pending (s : State) (b i : Nat) : (s.uflt b i).pending = s.pending := rfl

@[simp] theorem State.chg_variant (s : State) (b : Nat) : (s.chg b).variant = s.variant := rfl
@[simp] theorem State.chg_dt (s : State) (b : Nat) : (s.chg b).dt = s.dt := rfl
@[simp] theorem State.chg_mem (s : State) (b : Nat) : (s.chg b).mem = s.mem := rfl
@[simp] theorem State.chg_pkg (s : State) (b : Nat) : (s.chg b).pkg = s.pkg := rfl
@[simp] theorem State.chg_host (s : State) (b : Nat) : (s.chg b).host = s.host := rfl
@[simp] theorem State.chg_jobs (s : State) (b : Nat) : (s.chg b).jobs = s.jobs := rfl
@[simp] theorem State.chg_mu (s : State) (b : Nat) : (s.chg b).mu = s.mu := rfl
@[simp] theorem State.chg_sec (s : State) (b : Nat) : (s.chg b).sec = s.sec := rfl
@[simp] theorem State.chg_attic (s : State) (b : Nat) : (s.chg b).attic = s.attic := rfl
@[simp] theorem State.chg_pose (s : State) (b : Nat) : (s.chg b).pose = s.pose := rfl
@[simp] theorem State.chg_rast (s : State) (b : Nat) : (s.chg b).rast = s.rast := rfl
@[simp] theorem State.chg_look (s : State) (b : Nat) : (s.chg b).look = s.look := rfl
@[simp] theorem State.chg_meter (s : State) (b : Nat) : (s.chg b).meter = s.meter := rfl
@[simp] theorem State.chg_drive (s : State) (b : Nat) : (s.chg b).drive = s.drive := rfl
@[simp] theorem State.chg_motion (s : State) (b : Nat) : (s.chg b).motion = s.motion := rfl
@[simp] theorem State.chg_pwm (s : State) (b : Nat) : (s.chg b).pwm = s.pwm := rfl
@[simp] theorem State.chg_fio (s : State) (b : Nat) : (s.chg b).fio = s.fio := rfl
@[simp] theorem State.chg_ctl (s : State) (b : Nat) : (s.chg b).ctl = s.ctl := rfl
@[simp] theorem State.chg_gnss (s : State) (b : Nat) : (s.chg b).gnss = s.gnss := rfl
@[simp] theorem State.chg_posn (s : State) (b : Nat) : (s.chg b).posn = s.posn := rfl
@[simp] theorem State.chg_comm (s : State) (b : Nat) : (s.chg b).comm = s.comm := rfl
@[simp] theorem State.chg_freeCtr (s : State) (b : Nat) : (s.chg b).freeCtr = s.freeCtr := rfl
@[simp] theorem State.chg_pending (s : State) (b : Nat) : (s.chg b).pending = s.pending := rfl

/-! ## A memory write changes `mem` alone -/

@[simp] theorem State.wr8_variant (s : State) (a : Nat) (v : Byte) : (s.wr8 a v).variant = s.variant := rfl
@[simp] theorem State.wr8_dt (s : State) (a : Nat) (v : Byte) : (s.wr8 a v).dt = s.dt := rfl
@[simp] theorem State.wr8_regs (s : State) (a : Nat) (v : Byte) : (s.wr8 a v).regs = s.regs := rfl
@[simp] theorem State.wr8_pkg (s : State) (a : Nat) (v : Byte) : (s.wr8 a v).pkg = s.pkg := rfl
@[simp] theorem State.wr8_host (s : State) (a : Nat) (v : Byte) : (s.wr8 a v).host = s.host := rfl
@[simp] theorem State.wr8_jobs (s : State) (a : Nat) (v : Byte) : (s.wr8 a v).jobs = s.jobs := rfl
@[simp] theorem State.wr8_mu (s : State) (a : Nat) (v : Byte) : (s.wr8 a v).mu = s.mu := rfl
@[simp] theorem State.wr8_sec (s : State) (a : Nat) (v : Byte) : (s.wr8 a v).sec = s.sec := rfl
@[simp] theorem State.wr8_attic (s : State) (a : Nat) (v : Byte) : (s.wr8 a v).attic = s.attic := rfl
@[simp] theorem State.wr8_pose (s : State) (a : Nat) (v : Byte) : (s.wr8 a v).pose = s.pose := rfl
@[simp] theorem State.wr8_rast (s : State) (a : Nat) (v : Byte) : (s.wr8 a v).rast = s.rast := rfl
@[simp] theorem State.wr8_look (s : State) (a : Nat) (v : Byte) : (s.wr8 a v).look = s.look := rfl
@[simp] theorem State.wr8_meter (s : State) (a : Nat) (v : Byte) : (s.wr8 a v).meter = s.meter := rfl
@[simp] theorem State.wr8_drive (s : State) (a : Nat) (v : Byte) : (s.wr8 a v).drive = s.drive := rfl
@[simp] theorem State.wr8_motion (s : State) (a : Nat) (v : Byte) : (s.wr8 a v).motion = s.motion := rfl
@[simp] theorem State.wr8_pwm (s : State) (a : Nat) (v : Byte) : (s.wr8 a v).pwm = s.pwm := rfl
@[simp] theorem State.wr8_fio (s : State) (a : Nat) (v : Byte) : (s.wr8 a v).fio = s.fio := rfl
@[simp] theorem State.wr8_ctl (s : State) (a : Nat) (v : Byte) : (s.wr8 a v).ctl = s.ctl := rfl
@[simp] theorem State.wr8_gnss (s : State) (a : Nat) (v : Byte) : (s.wr8 a v).gnss = s.gnss := rfl
@[simp] theorem State.wr8_posn (s : State) (a : Nat) (v : Byte) : (s.wr8 a v).posn = s.posn := rfl
@[simp] theorem State.wr8_comm (s : State) (a : Nat) (v : Byte) : (s.wr8 a v).comm = s.comm := rfl
@[simp] theorem State.wr8_freeCtr (s : State) (a : Nat) (v : Byte) : (s.wr8 a v).freeCtr = s.freeCtr := rfl
@[simp] theorem State.wr8_pending (s : State) (a : Nat) (v : Byte) : (s.wr8 a v).pending = s.pending := rfl
@[simp] theorem State.wr8_r (s : State) (a : Nat) (v : Byte) (k : Nat) : (s.wr8 a v).r k = s.r k := rfl

@[simp] theorem State.wrBytes_variant (s : State) (a : Nat) (l : List Byte) : (s.wrBytes a l).variant = s.variant := rfl
@[simp] theorem State.wrBytes_dt (s : State) (a : Nat) (l : List Byte) : (s.wrBytes a l).dt = s.dt := rfl
@[simp] theorem State.wrBytes_regs (s : State) (a : Nat) (l : List Byte) : (s.wrBytes a l).regs = s.regs := rfl
@[simp] theorem State.wrBytes_pkg (s : State) (a : Nat) (l : List Byte) : (s.wrBytes a l).pkg = s.pkg := rfl
@[simp] theorem State.wrBytes_host (s : State) (a : Nat) (l : List Byte) : (s.wrBytes a l).host = s.host := rfl
@[simp] theorem State.wrBytes_jobs (s : State) (a : Nat) (l : List Byte) : (s.wrBytes a l).jobs = s.jobs := rfl
@[simp] theorem State.wrBytes_mu (s : State) (a : Nat) (l : List Byte) : (s.wrBytes a l).mu = s.mu := rfl
@[simp] theorem State.wrBytes_sec (s : State) (a : Nat) (l : List Byte) : (s.wrBytes a l).sec = s.sec := rfl
@[simp] theorem State.wrBytes_attic (s : State) (a : Nat) (l : List Byte) : (s.wrBytes a l).attic = s.attic := rfl
@[simp] theorem State.wrBytes_pose (s : State) (a : Nat) (l : List Byte) : (s.wrBytes a l).pose = s.pose := rfl
@[simp] theorem State.wrBytes_rast (s : State) (a : Nat) (l : List Byte) : (s.wrBytes a l).rast = s.rast := rfl
@[simp] theorem State.wrBytes_look (s : State) (a : Nat) (l : List Byte) : (s.wrBytes a l).look = s.look := rfl
@[simp] theorem State.wrBytes_meter (s : State) (a : Nat) (l : List Byte) : (s.wrBytes a l).meter = s.meter := rfl
@[simp] theorem State.wrBytes_drive (s : State) (a : Nat) (l : List Byte) : (s.wrBytes a l).drive = s.drive := rfl
@[simp] theorem State.wrBytes_motion (s : State) (a : Nat) (l : List Byte) : (s.wrBytes a l).motion = s.motion := rfl
@[simp] theorem State.wrBytes_pwm (s : State) (a : Nat) (l : List Byte) : (s.wrBytes a l).pwm = s.pwm := rfl
@[simp] theorem State.wrBytes_fio (s : State) (a : Nat) (l : List Byte) : (s.wrBytes a l).fio = s.fio := rfl
@[simp] theorem State.wrBytes_ctl (s : State) (a : Nat) (l : List Byte) : (s.wrBytes a l).ctl = s.ctl := rfl
@[simp] theorem State.wrBytes_gnss (s : State) (a : Nat) (l : List Byte) : (s.wrBytes a l).gnss = s.gnss := rfl
@[simp] theorem State.wrBytes_posn (s : State) (a : Nat) (l : List Byte) : (s.wrBytes a l).posn = s.posn := rfl
@[simp] theorem State.wrBytes_comm (s : State) (a : Nat) (l : List Byte) : (s.wrBytes a l).comm = s.comm := rfl
@[simp] theorem State.wrBytes_freeCtr (s : State) (a : Nat) (l : List Byte) : (s.wrBytes a l).freeCtr = s.freeCtr := rfl
@[simp] theorem State.wrBytes_pending (s : State) (a : Nat) (l : List Byte) : (s.wrBytes a l).pending = s.pending := rfl
@[simp] theorem State.wrBytes_r (s : State) (a : Nat) (l : List Byte) (k : Nat) : (s.wrBytes a l).r k = s.r k := rfl

@[simp] theorem State.wr32_variant (s : State) (a : Nat) (v : Word) : (s.wr32 a v).variant = s.variant := rfl
@[simp] theorem State.wr32_dt (s : State) (a : Nat) (v : Word) : (s.wr32 a v).dt = s.dt := rfl
@[simp] theorem State.wr32_regs (s : State) (a : Nat) (v : Word) : (s.wr32 a v).regs = s.regs := rfl
@[simp] theorem State.wr32_pkg (s : State) (a : Nat) (v : Word) : (s.wr32 a v).pkg = s.pkg := rfl
@[simp] theorem State.wr32_host (s : State) (a : Nat) (v : Word) : (s.wr32 a v).host = s.host := rfl
@[simp] theorem State.wr32_jobs (s : State) (a : Nat) (v : Word) : (s.wr32 a v).jobs = s.jobs := rfl
@[simp] theorem State.wr32_mu (s : State) (a : Nat) (v : Word) : (s.wr32 a v).mu = s.mu := rfl
@[simp] theorem State.wr32_sec (s : State) (a : Nat) (v : Word) : (s.wr32 a v).sec = s.sec := rfl
@[simp] theorem State.wr32_attic (s : State) (a : Nat) (v : Word) : (s.wr32 a v).attic = s.attic := rfl
@[simp] theorem State.wr32_pose (s : State) (a : Nat) (v : Word) : (s.wr32 a v).pose = s.pose := rfl
@[simp] theorem State.wr32_rast (s : State) (a : Nat) (v : Word) : (s.wr32 a v).rast = s.rast := rfl
@[simp] theorem State.wr32_look (s : State) (a : Nat) (v : Word) : (s.wr32 a v).look = s.look := rfl
@[simp] theorem State.wr32_meter (s : State) (a : Nat) (v : Word) : (s.wr32 a v).meter = s.meter := rfl
@[simp] theorem State.wr32_drive (s : State) (a : Nat) (v : Word) : (s.wr32 a v).drive = s.drive := rfl
@[simp] theorem State.wr32_motion (s : State) (a : Nat) (v : Word) : (s.wr32 a v).motion = s.motion := rfl
@[simp] theorem State.wr32_pwm (s : State) (a : Nat) (v : Word) : (s.wr32 a v).pwm = s.pwm := rfl
@[simp] theorem State.wr32_fio (s : State) (a : Nat) (v : Word) : (s.wr32 a v).fio = s.fio := rfl
@[simp] theorem State.wr32_ctl (s : State) (a : Nat) (v : Word) : (s.wr32 a v).ctl = s.ctl := rfl
@[simp] theorem State.wr32_gnss (s : State) (a : Nat) (v : Word) : (s.wr32 a v).gnss = s.gnss := rfl
@[simp] theorem State.wr32_posn (s : State) (a : Nat) (v : Word) : (s.wr32 a v).posn = s.posn := rfl
@[simp] theorem State.wr32_comm (s : State) (a : Nat) (v : Word) : (s.wr32 a v).comm = s.comm := rfl
@[simp] theorem State.wr32_freeCtr (s : State) (a : Nat) (v : Word) : (s.wr32 a v).freeCtr = s.freeCtr := rfl
@[simp] theorem State.wr32_pending (s : State) (a : Nat) (v : Word) : (s.wr32 a v).pending = s.pending := rfl
@[simp] theorem State.wr32_r (s : State) (a : Nat) (v : Word) (k : Nat) : (s.wr32 a v).r k = s.r k := rfl

@[simp] theorem State.wrWords_variant (s : State) (a : Nat) (l : List Word) : (s.wrWords a l).variant = s.variant := rfl
@[simp] theorem State.wrWords_dt (s : State) (a : Nat) (l : List Word) : (s.wrWords a l).dt = s.dt := rfl
@[simp] theorem State.wrWords_regs (s : State) (a : Nat) (l : List Word) : (s.wrWords a l).regs = s.regs := rfl
@[simp] theorem State.wrWords_pkg (s : State) (a : Nat) (l : List Word) : (s.wrWords a l).pkg = s.pkg := rfl
@[simp] theorem State.wrWords_host (s : State) (a : Nat) (l : List Word) : (s.wrWords a l).host = s.host := rfl
@[simp] theorem State.wrWords_jobs (s : State) (a : Nat) (l : List Word) : (s.wrWords a l).jobs = s.jobs := rfl
@[simp] theorem State.wrWords_mu (s : State) (a : Nat) (l : List Word) : (s.wrWords a l).mu = s.mu := rfl
@[simp] theorem State.wrWords_sec (s : State) (a : Nat) (l : List Word) : (s.wrWords a l).sec = s.sec := rfl
@[simp] theorem State.wrWords_attic (s : State) (a : Nat) (l : List Word) : (s.wrWords a l).attic = s.attic := rfl
@[simp] theorem State.wrWords_pose (s : State) (a : Nat) (l : List Word) : (s.wrWords a l).pose = s.pose := rfl
@[simp] theorem State.wrWords_rast (s : State) (a : Nat) (l : List Word) : (s.wrWords a l).rast = s.rast := rfl
@[simp] theorem State.wrWords_look (s : State) (a : Nat) (l : List Word) : (s.wrWords a l).look = s.look := rfl
@[simp] theorem State.wrWords_meter (s : State) (a : Nat) (l : List Word) : (s.wrWords a l).meter = s.meter := rfl
@[simp] theorem State.wrWords_drive (s : State) (a : Nat) (l : List Word) : (s.wrWords a l).drive = s.drive := rfl
@[simp] theorem State.wrWords_motion (s : State) (a : Nat) (l : List Word) : (s.wrWords a l).motion = s.motion := rfl
@[simp] theorem State.wrWords_pwm (s : State) (a : Nat) (l : List Word) : (s.wrWords a l).pwm = s.pwm := rfl
@[simp] theorem State.wrWords_fio (s : State) (a : Nat) (l : List Word) : (s.wrWords a l).fio = s.fio := rfl
@[simp] theorem State.wrWords_ctl (s : State) (a : Nat) (l : List Word) : (s.wrWords a l).ctl = s.ctl := rfl
@[simp] theorem State.wrWords_gnss (s : State) (a : Nat) (l : List Word) : (s.wrWords a l).gnss = s.gnss := rfl
@[simp] theorem State.wrWords_posn (s : State) (a : Nat) (l : List Word) : (s.wrWords a l).posn = s.posn := rfl
@[simp] theorem State.wrWords_comm (s : State) (a : Nat) (l : List Word) : (s.wrWords a l).comm = s.comm := rfl
@[simp] theorem State.wrWords_freeCtr (s : State) (a : Nat) (l : List Word) : (s.wrWords a l).freeCtr = s.freeCtr := rfl
@[simp] theorem State.wrWords_pending (s : State) (a : Nat) (l : List Word) : (s.wrWords a l).pending = s.pending := rfl
@[simp] theorem State.wrWords_r (s : State) (a : Nat) (l : List Word) (k : Nat) : (s.wrWords a l).r k = s.r k := rfl

/-! ## Registers -/

/-- The register that was written reads back. -/
@[simp] theorem State.r_w_self (s : State) (o : Nat) (v : Word) : (s.w o v).r o = v := SMap.get_put_self _ _ _ _

/-- Every other register keeps its word. -/
theorem State.r_w_ne (s : State) {o k : Nat} (v : Word) (h : k ≠ o) : (s.w o v).r k = s.r k := SMap.get_put_ne _ _ _ h

theorem State.r_wf_self (s : State) (o hi lo v : Nat) : (s.wf o hi lo v).r o = setFld (s.r o) hi lo v := by simp [State.wf]

theorem State.r_wf_ne (s : State) {o k : Nat} (hi lo v : Nat) (h : k ≠ o) : (s.wf o hi lo v).r k = s.r k := State.r_w_ne _ _ h

theorem State.r_wb_self (s : State) (o i : Nat) (v : Bool) : (s.wb o i v).r o = putBit (s.r o) i v := by simp [State.wb]

theorem State.r_wb_ne (s : State) {o k : Nat} (i : Nat) (v : Bool) (h : k ≠ o) : (s.wb o i v).r k = s.r k := State.r_w_ne _ _ h

theorem State.r_irq_ne (s : State) {b k : Nat} (i : Nat) (h : k ≠ b + 0x010) : (s.irq b i).r k = s.r k := State.r_wb_ne _ _ _ h

theorem State.r_flt_ne (s : State) {b k : Nat} (i : Nat) (h : k ≠ b + 0x020) : (s.flt b i).r k = s.r k := State.r_wb_ne _ _ _ h

/-- A bit that was set or cleared reads so. -/
theorem bit_putBit_self (w : Word) (i : Nat) (v : Bool) (h : i < 32) : bit (putBit w i v) i = v := by
  cases v <;> simp [bit, putBit, setBit, clrBit, h]

theorem bit_putBit_ne (w : Word) {i k : Nat} (v : Bool) (h : k ≠ i) : bit (putBit w i v) k = bit w k := by
  by_cases hk : k < 32
  · cases v <;> simp [bit, putBit, setBit, clrBit, h, hk] <;> omega
  · simp [bit, BitVec.getLsbD_of_ge _ _ (Nat.le_of_not_lt hk)]

theorem State.b_wb_self (s : State) (o i : Nat) (v : Bool) (h : i < 32) : (s.wb o i v).b o i = v := by
  simp [State.b, State.r_wb_self, bit_putBit_self _ _ _ h]

/-- A latched event reads 1. -/
theorem State.irq_latched (s : State) (b i : Nat) (h : i < 32) : (s.irq b i).b (b + 0x010) i = true := State.b_wb_self _ _ _ _ h

/-- A latched fault reads 1. -/
theorem State.flt_latched (s : State) (b i : Nat) (h : i < 32) : (s.flt b i).fltB b i = true := State.b_wb_self _ _ _ _ h

/-! ## Memory -/

/-- Every memory operation keeps the canonical form. -/
theorem State.wr8_wf (s : State) (a : Nat) (v : Byte) (h : SMap.wf memDefault s.mem = true) :
    SMap.wf memDefault (s.wr8 a v).mem = true := SMap.wf_put _ _ _ _ h

theorem State.wrBytes_wf (s : State) (a : Nat) (l : List Byte) (h : SMap.wf memDefault s.mem = true) :
    SMap.wf memDefault (s.wrBytes a l).mem = true := SMap.wf_putAll _ _ _ _ h

theorem State.wr32_wf (s : State) (a : Nat) (v : Word) (h : SMap.wf memDefault s.mem = true) :
    SMap.wf memDefault (s.wr32 a v).mem = true := State.wrBytes_wf _ _ _ h

theorem State.wrWords_wf (s : State) (a : Nat) (l : List Word) (h : SMap.wf memDefault s.mem = true) :
    SMap.wf memDefault (s.wrWords a l).mem = true := State.wrBytes_wf _ _ _ h

/-- What a reset or a zero fill keeps of memory is in canonical form. -/
theorem mem_filter_wf (m : SMap Byte) (p : Nat × Byte → Bool) (h : SMap.wf memDefault m = true) :
    SMap.wf memDefault (m.filter p) = true := SMap.wf_filter _ _ _ h

/-- A register write keeps the canonical form of the registers. -/
theorem State.w_wf (s : State) (o : Nat) (v : Word) (h : SMap.wf (regDefault s.variant) s.regs = true) :
    SMap.wf (regDefault s.variant) (s.w o v).regs = true := SMap.wf_put _ _ _ _ h

/-- Bytes outside a stored run read as before. -/
theorem State.rd8_wrBytes_ne (s : State) (a k : Nat) (l : List Byte) (h : k < a ∨ a + l.length ≤ k) :
    (s.wrBytes a l).rd8 k = s.rd8 k := SMap.get_putAll_ne _ l _ _ _ h

/-- Byte `i` of a stored run reads back. -/
theorem State.rd8_wrBytes (s : State) (a i : Nat) (l : List Byte) (h : i < l.length) :
    (s.wrBytes a l).rd8 (a + i) = l[i] := SMap.get_putAll _ l _ _ _ h

@[simp] theorem State.rd8_w (s : State) (o a : Nat) (v : Word) : (s.w o v).rd8 a = s.rd8 a := rfl

/-! ## Serving the vectors -/

/-- Serving a vector changes VEC_ARMED, the pending-bit array and the messages sent, nothing else. -/
theorem State.serveVec_frame (s : State) (n : Nat) :
    ∃ g m, s.serveVec n = { s with regs := g, host := { s.host with msix := m } } ∧
      (∀ k, k ≠ R.IRQROUTE_VEC_ARMED 0 → k ≠ R.PCIE_MSIX_PBA → (s.serveVec n).r k = s.r k) := by
  unfold State.serveVec
  split
  · split
    · exact ⟨_, _, rfl, fun k _ h => State.r_wb_ne _ _ _ h⟩
    · refine ⟨_, _, rfl, fun k h1 h2 => ?_⟩
      show ((s.wb (R.IRQROUTE_VEC_ARMED 0) n false).wb R.PCIE_MSIX_PBA n false).r k = s.r k
      rw [State.r_wb_ne _ _ _ h2, State.r_wb_ne _ _ _ h1]
  · exact ⟨s.regs, s.host.msix, rfl, fun _ _ _ => rfl⟩

theorem serveAll_frame (l : List Nat) : ∀ (s : State),
    ∃ g m, l.foldl State.serveVec s = { s with regs := g, host := { s.host with msix := m } } ∧
      (∀ k, k ≠ R.IRQROUTE_VEC_ARMED 0 → k ≠ R.PCIE_MSIX_PBA → (l.foldl State.serveVec s).r k = s.r k) := by
  induction l with
  | nil => intro s; exact ⟨s.regs, s.host.msix, rfl, fun _ _ _ => rfl⟩
  | cons n t ih =>
    intro s
    obtain ⟨g, m, e, f⟩ := ih (s.serveVec n)
    obtain ⟨g', m', e', f'⟩ := s.serveVec_frame n
    refine ⟨g, m, ?_, fun k h1 h2 => ?_⟩
    · rw [List.foldl_cons, e, e']
    · rw [List.foldl_cons, f k h1 h2, f' k h1 h2]

/-- What `settle` may change: VEC_ARMED, the pending-bit array, and the messages sent. -/
theorem settle_frame (s : State) : ∃ g m, settle s = { s with regs := g, host := { s.host with msix := m } } := by
  obtain ⟨g, m, e, _⟩ := serveAll_frame (bitsSet 32 s.vecStat.toNat) s
  exact ⟨g, m, e⟩

/-- Registers but VEC_ARMED and the pending-bit array outlive `settle`. -/
theorem settle_r (s : State) {k : Nat} (h1 : k ≠ R.IRQROUTE_VEC_ARMED 0) (h2 : k ≠ R.PCIE_MSIX_PBA) :
    (settle s).r k = s.r k := by
  obtain ⟨_, _, _, f⟩ := serveAll_frame (bitsSet 32 s.vecStat.toNat) s
  exact f k h1 h2

@[simp] theorem settle_variant (s : State) : (settle s).variant = s.variant := by obtain ⟨_, _, e⟩ := settle_frame s; rw [e]
@[simp] theorem settle_dt (s : State) : (settle s).dt = s.dt := by obtain ⟨_, _, e⟩ := settle_frame s; rw [e]
@[simp] theorem settle_mem (s : State) : (settle s).mem = s.mem := by obtain ⟨_, _, e⟩ := settle_frame s; rw [e]
@[simp] theorem settle_pkg (s : State) : (settle s).pkg = s.pkg := by obtain ⟨_, _, e⟩ := settle_frame s; rw [e]
@[simp] theorem settle_jobs (s : State) : (settle s).jobs = s.jobs := by obtain ⟨_, _, e⟩ := settle_frame s; rw [e]
@[simp] theorem settle_mu (s : State) : (settle s).mu = s.mu := by obtain ⟨_, _, e⟩ := settle_frame s; rw [e]
@[simp] theorem settle_sec (s : State) : (settle s).sec = s.sec := by obtain ⟨_, _, e⟩ := settle_frame s; rw [e]
@[simp] theorem settle_attic (s : State) : (settle s).attic = s.attic := by obtain ⟨_, _, e⟩ := settle_frame s; rw [e]
@[simp] theorem settle_pose (s : State) : (settle s).pose = s.pose := by obtain ⟨_, _, e⟩ := settle_frame s; rw [e]
@[simp] theorem settle_rast (s : State) : (settle s).rast = s.rast := by obtain ⟨_, _, e⟩ := settle_frame s; rw [e]
@[simp] theorem settle_look (s : State) : (settle s).look = s.look := by obtain ⟨_, _, e⟩ := settle_frame s; rw [e]
@[simp] theorem settle_meter (s : State) : (settle s).meter = s.meter := by obtain ⟨_, _, e⟩ := settle_frame s; rw [e]
@[simp] theorem settle_drive (s : State) : (settle s).drive = s.drive := by obtain ⟨_, _, e⟩ := settle_frame s; rw [e]
@[simp] theorem settle_motion (s : State) : (settle s).motion = s.motion := by obtain ⟨_, _, e⟩ := settle_frame s; rw [e]
@[simp] theorem settle_pwm (s : State) : (settle s).pwm = s.pwm := by obtain ⟨_, _, e⟩ := settle_frame s; rw [e]
@[simp] theorem settle_fio (s : State) : (settle s).fio = s.fio := by obtain ⟨_, _, e⟩ := settle_frame s; rw [e]
@[simp] theorem settle_ctl (s : State) : (settle s).ctl = s.ctl := by obtain ⟨_, _, e⟩ := settle_frame s; rw [e]
@[simp] theorem settle_gnss (s : State) : (settle s).gnss = s.gnss := by obtain ⟨_, _, e⟩ := settle_frame s; rw [e]
@[simp] theorem settle_posn (s : State) : (settle s).posn = s.posn := by obtain ⟨_, _, e⟩ := settle_frame s; rw [e]
@[simp] theorem settle_comm (s : State) : (settle s).comm = s.comm := by obtain ⟨_, _, e⟩ := settle_frame s; rw [e]
@[simp] theorem settle_freeCtr (s : State) : (settle s).freeCtr = s.freeCtr := by obtain ⟨_, _, e⟩ := settle_frame s; rw [e]
@[simp] theorem settle_pending (s : State) : (settle s).pending = s.pending := by obtain ⟨_, _, e⟩ := settle_frame s; rw [e]

/-- Of the host part, `settle` may change the messages sent alone. -/
theorem settle_host (s : State) : (settle s).host = { s.host with msix := (settle s).host.msix } := by
  obtain ⟨_, _, e⟩ := settle_frame s; rw [e]

@[simp] theorem settle_rd8 (s : State) (a : Nat) : (settle s).rd8 a = s.rd8 a := by simp [State.rd8]

end Sys2Proof.Machine
end

