-- ==== Sys2Proof/Laws/Access.lean ====
section
/-!
SUPPORT. Laws of register accesses: where an access that reaches a register lands, and what the parts of an access leave
alone.
-/
namespace Sys2Proof.Machine

/-- An access that reaches a register: interfaces answer, the offset is a word's, and it names a register. -/
theorem State.reaches_spec {s : State} {a : Nat} (h : s.reaches a = true) :
    s.answers = true ∧ a % 4 = 0 ∧ ∃ i, s.target a = .reg i ∧ regInfo a = some i := by
  unfold State.reaches at h
  simp only [Bool.and_eq_true, decide_eq_true_eq] at h
  obtain ⟨⟨h1, h2⟩, h3⟩ := h
  refine ⟨h1, h2, ?_⟩
  cases ht : s.target a with
  | absent => simp [ht] at h3
  | gated => simp [ht] at h3
  | reg i =>
    refine ⟨i, rfl, ?_⟩
    unfold State.target at ht
    split at ht
    · simp at ht
    · split at ht
      · simp at ht
      · split at ht
        · simp at ht
        · split at ht
          · split at ht
            · simp at ht; simp_all
            · simp at ht
          · simp at ht

/-- A word with no bit of a mask keeps its bits outside the mask. -/
theorem and_not_of_and_eq_zero (v m : Word) (h : v &&& m = 0) : v &&& ~~~m = v := by
  ext i hi
  have := congrArg (fun w => w.getLsbD i) h
  simp at this
  simp
  by_cases hv : v[i] <;> simp_all [BitVec.getLsbD_eq_getElem]

/-- Keeping a session alive changes the security state alone. -/
theorem State.touchAcc_frame (s : State) (o : Origin) : ∃ x, s.touchAcc o = { s with sec := x } := by
  unfold State.touchAcc
  split
  · split
    · exact ⟨s.sec, rfl⟩
    · exact ⟨_, rfl⟩
  · exact ⟨s.sec, rfl⟩

@[simp] theorem State.touchAcc_r (s : State) (o : Origin) (k : Nat) : (s.touchAcc o).r k = s.r k := by
  obtain ⟨x, e⟩ := s.touchAcc_frame o; rw [e]; rfl

@[simp] theorem State.touchAcc_answers (s : State) (o : Origin) : (s.touchAcc o).answers = s.answers := by
  obtain ⟨x, e⟩ := s.touchAcc_frame o; rw [e]; rfl

@[simp] theorem State.touchAcc_target (s : State) (o : Origin) (a : Nat) : (s.touchAcc o).target a = s.target a := by
  obtain ⟨x, e⟩ := s.touchAcc_frame o; rw [e]; rfl

/-- A write that a register takes lands there whole. -/
theorem State.regWrite_lands {s : State} {o : Origin} {a : Nat} {v : Word} {i : RegInfo} (h : s.takes a v)
    (hi : regInfo a = some i) : s.regWrite o a 15 v = (s.touchAcc o).landWrite o i a v := by
  obtain ⟨h1, h2⟩ := h
  obtain ⟨ha, hm, j, ht, hj⟩ := State.reaches_spec h1
  rw [hi] at hj; cases hj
  have hr : (v &&& reservedBits i.fields) = 0#32 := by simpa [reservedAt, hi] using h2
  have hv := and_not_of_and_eq_zero _ _ hr
  unfold State.regWrite
  simp only [ha, touchAcc_target, hm]
  simp [ht, hr, hv]

/-- A read that reaches a register returns its word. -/
theorem State.readBy_lands {s : State} {o : Origin} {a : Nat} {i : RegInfo} (h : s.reaches a = true)
    (hi : regInfo a = some i) : s.readBy o a = (s.landRead o i a).2.returns [(s.landRead o i a).1] := by
  obtain ⟨ha, hm, j, ht, hj⟩ := State.reaches_spec h
  rw [hi] at hj; cases hj
  simp [State.readBy, State.regRead, ha, ht, hm]

/-- What `landWrite` needs to know of a register that is no window word, header or configuration register: its page's own
write is what happens. -/
theorem State.landWrite_plain {s : State} {o : Origin} {a : Nat} {v : Word} {i : RegInfo} (hw : i.win = none)
    (hd : ¬(i.page.kind = .dma ∧ dmaOwner o i.inst = false)) (h40 : 0x40 ≤ a % 0x1000)
    (hu : ¬(i.unit.isSome = true ∧ a - frameBase i.page i.base (i.unit.getD 0) < 0x20))
    (hc : i.fields.any (fun f => RegType.isCfg f.ty) = false) : s.landWrite o i a v = s.plainWrite o i a v := by
  unfold State.landWrite
  simp only [hw, hd, if_false, Nat.not_lt.mpr h40, hu, hc, Bool.false_eq_true]

/-- A register's facts that decide where a write of it goes, at a given offset. -/
theorem regInfo_spec {a : Nat} {i : RegInfo} (hi : regInfo a = some i) {p : RegInfo → Bool}
    (h : (match regInfo a with | some j => p j | none => true) = true) : p i = true := by simpa [hi] using h

end Sys2Proof.Machine
end

