-- ==== Sys2Proof/Laws/Porch.lean ====
section
/-!
SUPPORT. Laws of the Porch: what running a command does, whether it passes its checks or fails one (05 R103), and what a
completion record and an audit record change.
-/
namespace Sys2Proof.Machine

/-- A command that passes every check acts on the state with its session kept alive and its audit record committed. -/
theorem State.runCmdAs_accepts {s : State} {c : Cmd} {k : CmdSpec} (h : Accepts s c k) (st : Nat) (r0 r1 : Word)
    (act : State → State) : s.runCmdAs c k st r0 r1 act = act (s.audited c k st r0 r1) := by
  obtain ⟨h1, h2⟩ := h
  simp only [State.runCmdAs, h1, h2, State.audited, Bool.false_eq_true, if_false]

theorem State.runCmd_accepts {s : State} {c : Cmd} {k : CmdSpec} (h : Accepts s c k) (act : State → State) :
    s.runCmd c k act = act (s.acceptedBy c k) := State.runCmdAs_accepts h 0 0 0 act

/-- A command that fails a check completes with that check's status and DETAIL, and does nothing else. -/
theorem State.runCmdAs_fails {s : State} {c : Cmd} {k : CmdSpec} (h : s.pkg.cellar = false) {d : Nat × Nat}
    (hf : (s.touchCmd c).porchFails c k = some d) (st : Nat) (r0 r1 : Word) (act : State → State) :
    s.runCmdAs c k st r0 r1 act = (s.touchCmd c).refuse c k.opcode d.1 d.2 := by
  simp only [State.runCmdAs, h, hf, Bool.false_eq_true, if_false]

/-- In CELLAR no command does anything. -/
theorem State.runCmdAs_cellar {s : State} (c : Cmd) (k : CmdSpec) (h : s.pkg.cellar = true) (st : Nat) (r0 r1 : Word)
    (act : State → State) : s.runCmdAs c k st r0 r1 act = s := by simp only [State.runCmdAs, h, if_true]

/-- Keeping the session of a command alive changes the security state alone. -/
theorem State.touchCmd_frame (s : State) (c : Cmd) : ∃ x, s.touchCmd c = { s with sec := x } := by
  unfold State.touchCmd
  split
  · exact ⟨_, rfl⟩
  · exact ⟨s.sec, rfl⟩

@[simp] theorem State.touchCmd_r (s : State) (c : Cmd) (k : Nat) : (s.touchCmd c).r k = s.r k := by
  obtain ⟨x, e⟩ := s.touchCmd_frame c; rw [e]; rfl

@[simp] theorem State.touchCmd_mem (s : State) (c : Cmd) : (s.touchCmd c).mem = s.mem := by
  obtain ⟨x, e⟩ := s.touchCmd_frame c; rw [e]

/-- A disabled ring, or one with no free entry, gets no record (05 R95, R98). -/
theorem State.putRec_none (s : State) (c : CplRec) (h : s.ringEn c.ring = false ∨ s.cplFree c.ring = 0) : s.putRec c = s := by
  unfold State.putRec
  rcases h with h | h <;> simp [h]

/-- A command that left is no longer in progress; nothing else changed. -/
theorem State.leave_frame (s : State) (c : Cmd) : ∃ h, s.leave c = { s with host := h } := ⟨_, rfl⟩

end Sys2Proof.Machine
end

