-- ==== Sys2Proof/Laws/Raster.lean ====
section
/-!
SUPPORT. Laws of footprints and retire records: one of LENGTH 0 owns and writes no cell.
-/
namespace Sys2Proof.Machine

/-- A footprint of LENGTH 0 owns no cell centre (08 R174). -/
theorem Foot.owns_of_l_zero (f : Foot) (e n : Int) (h : f.l = 0) : f.owns e n = false := by
  simp only [Foot.owns, h]
  have hd : ∀ a b : Int, (decide (a - 128 * ((0 : Nat) : Int) ≤ b) && decide (b < a + 128 * ((0 : Nat) : Int))) = false := by
    intro a b
    rw [← Bool.decide_and, decide_eq_false_iff_not]
    omega
  rw [hd]; rfl

/-- A retire record of LENGTH 0 writes no cell (09 R212). -/
theorem State.sweep_of_l_zero (s : State) (w : List Word) (h : fld (nth w 6) 15 0 = 0) : s.sweep w = [] := by
  have hf : ∀ i m, ((s.candidates (s.recFoot w i m)).filter (fun c => let p := s.cellCentre c; (s.recFoot w i m).owns p.1 p.2)) = [] := by
    intro i m
    simp only [Foot.owns_of_l_zero (s.recFoot w i m) _ _ h, List.filter_eq_nil_iff]
    simp
  have he : ([] : List Cell).eraseDups = [] := rfl
  have hm : ∀ n, (List.range n).flatMap (fun _ => ([] : List Cell)) = [] := by intro n; simp
  simp only [State.sweep, hf, hm, he]; simp

/-- So it is ready to be written at once (09 R213). -/
theorem State.sweepReady_of_l_zero (s : State) (w : List Word) (h : fld (nth w 6) 15 0 = 0) : s.sweepReady w = true := by
  simp only [State.sweepReady, State.sweepTiles, State.sweep_of_l_zero s w h]; rfl

end Sys2Proof.Machine
end

