-- ==== Sys2Proof/WellFormed.lean ====
section
/-!
DEFINITION. Commands whose operands have the shape the spec gives them. Every command runs, well formed or not; a sender that
follows the spec sends well-formed ones.
-/
namespace Sys2Proof

/-- A descriptor's ARGS are 56 bytes (05 R100). -/
def Cmd.wf (c : Cmd) : Bool := c.args.length == 56

/-- The descriptor of a Porch command. -/
def Instr.cmd : Instr → Option Cmd
  | .wallSet c | .modeReq c | .safeEnter c | .safeExit c | .cellarEnter c | .reset c | .nop c | .jobStart c
  | .jobSuspend c | .jobResume c | .jobCancel c | .jobQuery c | .fieldUnload c | .outletSwitch c | .outletRevert c
  | .rateSwitch c | .totalsReset c | .calMeasure c | .outForce c | .regionCtrl c | .chUnlatch c | .learnReset c
  | .loopMode c | .loopCoefLoad c | .dioUnlatch c | .rtcmFeed c | .canTx c | .sessionChallenge c | .sessionOpen c _
  | .sessionClose c | .keyInstall c | .keyRevoke c | .keyExport c | .cfgLockSet c | .cfgLockClear c | .fwActivate c
  | .fwConfirm c | .auditClear c | .rmaPermit c | .debugOpen c | .debugClose c | .evrClear c => some c
  | _ => none

/-- Bytes a PCIe request carries: a write up to the maximum payload of 256, a read up to 512 (05 R91). -/
def requestOk (wr : Bool) (n : Nat) : Bool := decide (1 ≤ n) && decide (n ≤ if wr then 256 else 512)

/-- The inner message of a protected message holds a descriptor of 64 bytes, or at most 16 words (05 R93, R96, R100). -/
def EthInner.wf : EthInner → Bool
  | .command d => d.length == 64
  | .regFrame _ l => decide (l.length ≤ 16)
  | .other => true

/-- Is a command well formed? -/
def Instr.wf (i : Instr) : Bool :=
  match i with
  | .bar2SramAccess _ wr data be _ => requestOk wr data.length && (!wr || be.length == data.length)
  | .bar2FieldStoreAccess _ wr n => requestOk wr n
  | .pcieLinkUp v => decide (1 ≤ v.toNat) && decide (v.toNat ≤ 3)
  | .hspiRegWriteFrame _ _ l _ => decide (1 ≤ l.length) && decide (l.length ≤ 16)
  | .hspiSramWriteFrame _ _ l _ => decide (1 ≤ l.length) && decide (l.length ≤ 16)
  | .ethCommandMessage _ _ d => d.length == 64
  | .ethRegisterFrame _ _ _ l => decide (l.length ≤ 16)
  | .ethProtectedMessage _ _ _ m => m.wf
  | .poseMeasurementFuse _ l => l.length == 10
  | .canFrameRx _ _ _ d _ _ _ => decide (d.length ≤ 64)
  | i =>
    match i.cmd with
    | some c => c.wf
    | none => true

end Sys2Proof
end

