-- ==== Sys2Proof/Tests/Slice0.lean ====
section
/-!
SUPPORT. Tests of the model: operands each check of WellFormed refuses, single commands against numbers the spec gives, and
for every statement with hypotheses the values that meet them.
-/
namespace Sys2Proof.Tests
open Sys2Proof Sys2Proof.Machine

/-! One theorem at a time: each of them evaluates whole states. -/
set_option Elab.async false

/-- A package past its start-up in mode `m`, with a SERVICE session over PCIe and some registers set. -/
def live (m : Nat) (l : List (Nat × Word)) : State :=
  (((R.SESSION_SLOT 0, 0x00010003#32) :: l).foldl (fun (s : State) e => s.w e.1 e.2)
    { State.reset with dt := 25600000000000, pkg := { Pkg.reset with bootStep := 10, dtRun := true } }).wf R.SAFE_MODE_STAT 3 0 m

/-- A command of ring 0 under that session, with some argument bytes. -/
def cmd (l : List (Nat × Byte)) : Cmd :=
  { ring := 0, idx := 0, flags := 0, handle := 0x10, tag := 0x1234, sess := 1,
    args := (List.range 56).map (fun k => ((l.find? (fun e => e.1 == k + 8)).map (·.2)).getD 0) }

/-- An offset as an operand. -/
def at' (n : Nat) : BitVec 24 := BitVec.ofNat 24 n

/-- A job of a kind in a state, in slot 0. -/
def withJob (m kind st : Nat) (l : List (Nat × Word)) (j : Job) : State :=
  let s := live m (l ++ [(R.JOBS_JOB_STAT 0, BitVec.ofNat 32 (0x10 * 2 ^ 24 + kind * 65536 + st)), (R.LPDDR_CFG, 0x1F#32)])
  { s with jobs := s.jobs.set 0 j }

/-- A state with an active outlet table. -/
def withTable (l : List (Nat × Word)) (s : State) : State := { s with look := { s.look with active := l } }

/-- An image that passes every check. -/
def bootable : ImageInfo :=
  { headerOk := true, keyIdx := false, rootHashOk := true, sigOk := true, hashOk := true, svn := 127, certLine := true, len := 4096 }

/-- A committed edge of a kind, at an execution DT. -/
def edge (kind : Nat) (exec : DT) (landed : Bool) : Edge :=
  { on := true, src := 0, epoch := 0, gen := 0, exec := exec, te := exec, kind := kind, target := 0, landed := landed }

/-- An edge whose confirmation was due at DT 0. -/
def late (id kind : Nat) : Awaiting := { id := id, on := true, exec := 0, due := 0, gen := 0, kind := kind, seq := 0 }

/-- A digital output in a state since DT 0. -/
def setDio (n st : Nat) (s : State) : State := (s.setDioSt n st).setDioPin n ⟨0, 0⟩

/-- START arguments of a one-channel self-test and of a one-outlet sweep, with their buffers in shared SRAM. -/
def testArgs : List Byte := (cmd [(12, 1), (36, 1), (42, 0xB0), (48, 16)]).args
def sweepArgs : List Byte := (cmd [(14, 1), (16, 8), (26, 0xB0), (32, 16)]).args

/-- An outlet table with one LOCAL outlet. -/
def sweepTable : List (Nat × Word) := [(0, 0x10000000#32), (7, 5000#32), (8, 5000#32)]

/-- A retire record of LENGTH 0, waiting in a state that holds its field. -/
def retireSeg : Seg := ⟨List.replicate 16 0#32, 1⟩
def retireSt : State :=
  { live 3 [(R.TILEDIR_FIELD_STAT, 0x80010000#32)] with look := { Look.reset with segs := [retireSeg] } }

/-- The state a command answers, if it answers one. -/
def ans (x : Host.Outcome State Fault Refusal) : Option State :=
  match x with
  | .next t => some t
  | _ => none

/-! ## Operands that are not well formed -/

theorem test_wf_descriptor_args : (Instr.nop { (cmd []) with args := [] }).wf = false ∧ (Instr.nop (cmd [])).wf = true := by decide
theorem test_wf_request_empty : (Instr.bar2SramAccess 0 false [] [] false).wf = false := by decide
theorem test_wf_request_enables : (Instr.bar2SramAccess 0 true [1] [] false).wf = false := by decide
theorem test_wf_field_store_length : (Instr.bar2FieldStoreAccess 0 false 0).wf = false := by decide
theorem test_wf_link_speed : (Instr.pcieLinkUp 4).wf = false ∧ (Instr.pcieLinkUp 3).wf = true := by decide
theorem test_wf_frame_words : (Instr.hspiRegWriteFrame 0 0 [] 0).wf = false ∧
    (Instr.hspiSramWriteFrame 0 0 (List.replicate 17 0) 0).wf = false := by decide
theorem test_wf_eth_command : (Instr.ethCommandMessage 0 true []).wf = false := by decide
theorem test_wf_eth_frame : (Instr.ethRegisterFrame 0 true 0 (List.replicate 17 0)).wf = false := by decide
theorem test_wf_eth_protected : (Instr.ethProtectedMessage 0 0 true (.command [])).wf = false := by decide
theorem test_wf_pose_words : (Instr.poseMeasurementFuse 0 []).wf = false := by decide
theorem test_wf_can_data : (Instr.canFrameRx 0 0 0 (List.replicate 65 0) 0 0 0).wf = false := by decide

/-! ## Single commands, with the numbers the spec gives -/

theorem test_reset_queue_empty : State.reset.pending = [] := by decide

/-- 03, the text after R40: offset 0x200 of page OUTC7 lies at 0x0061_7200. -/
theorem test_page_address : (pageOf 0x617200).map (fun p => (p.domain, 0x17 - p.first)) = some (6, 7) := by decide

/-- 03 R58: an unimplemented offset reads 0 and sets ACCESS. -/
theorem test_unimplemented_read :
    (ans (exec (.unimplOffsetAccess .pcie (at' 0xF00000) false) (live 1 []))).map
      (fun t => (t.host.readData, t.r (R.PKG 0x020))) = some ([0], 1#32) := by decide +kernel

/-- 03 R44: a write of 0 leaves a locked page locked. -/
theorem test_lock_sticks :
    (ans (exec (.pgLockWrite .pcie (at' 0x28) 0) (live 1 [(0x28, 1#32)]))).map (fun t => t.r 0x28) = some 1#32 := by decide +kernel

/-- 03 R63: target codes above 0x27 are refused, and the entry keeps its value. -/
theorem test_route_bad_target :
    (ans (exec (.routeEntryWrite .pcie 5 0x28#32) (live 1 []))).map (fun t => t.r (routeOfs 5)) = some 0#32 := by decide +kernel

/-- 02 R28: DT counts 256 to a base tick of 10 ns. -/
theorem test_idle_tick : (ans (step (live 1 []))).map (fun t => t.dt) = some 25600000000256 := by decide +kernel

/-- 05 R101: a completion moves CPL_TAIL on; 16 entries, the second is next. -/
theorem test_nop_completes :
    (ans (exec (.nop (cmd [])) (live 1 [(R.PORCH_RING_CTRL 0, 0x80000404#32)]))).map (fun t => t.r (R.PORCH_CPL_TAIL 0)) =
      some 0x10001#32 := by decide +kernel

/-- 04 R72, R103: MODE_REQ of READY is refused in SAFE, and the mode stays 5. -/
theorem test_mode_req_in_safe :
    (ans (exec (.modeReq (cmd [(8, 2)])) (live 5 []))).map (fun t => t.mode) = some 5 := by decide +kernel

/-- 09: OUTLET_REVERT makes the staged table the active one. -/
theorem test_outlet_revert :
    (ans (exec (.outletRevert (cmd [])) (withTable sweepTable (live 2 [])))).map (fun t => t.look.staged) = some sweepTable := by
  decide +kernel


/-! ## Witnesses of the statements' hypotheses -/

/-- Values that meet the hypotheses of `StepRunsFront`, clause by clause. -/
theorem wit_StepRunsFront :
    (({ live 1 [] with pending := [.tdcRecalibrate] }).pending = .tdcRecalibrate :: []) := by decide +kernel

/-- Values that meet the hypotheses of `IdleTick`, clause by clause. -/
theorem wit_IdleTick :
    ((live 1 []).pending = []) := by decide +kernel

/-- Values that meet the hypotheses of `StepSettled`, clause by clause. -/
theorem wit_StepSettled :
    ((match step (live 1 []) with | .next t => t.dt != 0 | _ => false) = true) := by decide +kernel

/-- Values that meet the hypotheses of `MsixMessages`, clause by clause. -/
theorem wit_MsixMessages :
    ((live 1 []).takes (R.IRQROUTE_VEC_EOI 0) 1 ∧ bit (1 : Word) 0 = true) ∧
    (let s := live 1 [(routeOfs 20, 0x100#32), (R.DIE 0x014, 1#32), (R.DIE 0x010, 1#32), (R.PCIE_MSIX_CTRL 0, 0#32)]
     bit s.vecStat 0 = true ∧ s.vecMasked 0 = false ∧ s.b (R.IRQROUTE_VEC_ARMED 0) 0 = true ∧
     s.reaches (R.PCIE_MSIX_CTRL 0) = true ∧ s.host.fmask = false) ∧
    (let s := live 1 [(routeOfs 20, 0x100#32), (R.DIE 0x014, 1#32), (R.DIE 0x010, 1#32)]
     bit s.vecStat 0 = true ∧ s.vecMasked 0 = true ∧ s.b (R.IRQROUTE_VEC_ARMED 0) 0 = true) ∧
    (bit (live 1 []).vecStat 0 = false) := by decide +kernel

/-- Values that meet the hypotheses of `PageLock`, clause by clause. -/
theorem wit_PageLock :
    ((live 1 []).takes (at' (R.PKG 0x028)).toNat 1 ∧ (at' (R.PKG 0x028)).toNat % 0x1000 = 0x028 ∧
     (regInfo (at' (R.PKG 0x028)).toNat).any (fun i => i.page.kind != .dma) = true) ∧
    (let s := live 1 [(R.DMA 15 0x028, 1#32)]
     s.takes (at' (R.DMA 15 0x028)).toNat 0 ∧ (at' (R.DMA 15 0x028)).toNat % 0x1000 = 0x028 ∧
     (regInfo (at' (R.DMA 15 0x028)).toNat).any (fun i => i.page.kind == .dma && dmaOwner (.sp0) i.inst) = true) := by decide +kernel

/-- Values that meet the hypotheses of `UnimplementedAccess`, clause by clause. -/
theorem wit_UnimplementedAccess :
    ((live 1 []).answers = true ∧ (live 1 []).target ((at' 0x000062).toNat - (at' 0x000062).toNat % 4) = .absent) ∧
    (let s := live 1 [(R.CLOCK_ISL_STAT, 0x20#32)]
     s.answers = true ∧ s.target ((at' (R.CTLENG 0x040)).toNat - (at' (R.CTLENG 0x040)).toNat % 4) = .gated) ∧
    (({ live 1 [] with variant := .n }).variant = .n ∧ R.RFCTL 0 / 0x100000 = 0xA) := by decide +kernel

/-- Values that meet the hypotheses of `FaultCapture`, clause by clause. -/
theorem wit_FaultCapture :
    ((live 1 []).answers = true ∧ (live 1 []).target ((at' 0x000062).toNat - (at' 0x000062).toNat % 4) = .absent ∧
     (live 1 []).r (R.PKG 0x020) &&& 7#32 = 0 ∧ (live 1 [(R.PKG 0x020, 2#32)]).r (R.PKG 0x020) &&& 7#32 ≠ 0) ∧
    ((match (live 1 []).target ((at' (R.PKG 0x025)).toNat - (at' (R.PKG 0x025)).toNat % 4) with | .reg _ => true | _ => false) = true ∧
     (3#4 : BitVec 4) ≠ 15#4) := by decide +kernel

/-- Values that meet the hypotheses of `ConfigRefused`, clause by clause. -/
theorem wit_ConfigRefused :
    (let a := (at' R.PLAN_TIMING).toNat
     (live 1 []).takes a 0 ∧ isConfig a = true ∧ 0x40 ≤ a % 0x1000 ∧
     (regInfo a).any (fun i => i.page.kind != .dma && i.unit.isNone &&
       (live 1 [(R.PLAN 0x028, 1#32)]).cfgGate .pcie i a (i.fields.any (fun f => f.ty == .rws)) == some 4 &&
       ((live 0 []).cfgGate .pcie i a (i.fields.any (fun f => f.ty == .rws)) == some 2) &&
       ((live 2 []).cfgGate .hspi i a (i.fields.any (fun f => f.ty == .rws)) == some 1) &&
       ((live 2 []).cfgGate .pcie i a (i.fields.any (fun f => f.ty == .rws)) == none) &&
       (live 2 []).stateOk i a ((live 2 []).cfgValue i a 0) && !(live 2 []).valueOk i a ((live 2 []).cfgValue i a 0)) = true) ∧
    (let f (s : State) (v : Word) (r : Nat) : Bool := (regInfo (at' 0x502144).toNat).any (fun i => i.win.any (fun w =>
       let c := i.base + w.1.ofs
       let t := (s.touchAcc .pcie).winOpen Origin.pcie.master c w.1
       w.2 == 15 + 2 && w.1.cls != .ro && !t.winEnd Origin.pcie.master c w.1 && 15 + 1 == w.1.words &&
       (if r = 5 then t.cfgGate .pcie i (c + 4 * (w.1.words + 1)) (w.1.cls == .rws) == none &&
           !t.recordOk w.1.id ((t.win Origin.pcie.master c).offered w.1.words v)
         else t.cfgGate .pcie i (c + 4 * (w.1.words + 1)) (w.1.cls == .rws) == some r)))
     (live 1 []).takes (at' 0x502144).toNat 5 ∧ f (live 1 [(0x502028, 1#32)]) 5 4 = true ∧ f ((live 1 []).w (R.SESSION_SLOT 0) 0) 5 1 = true ∧
     f (live 2 []) 0xFFFFFFFF 5 = true) := by decide +kernel

/-- Values that meet the hypotheses of `DtHalves`, clause by clause. -/
theorem wit_DtHalves :
    ((live 1 []).reaches R.TIME_DT_LO = true ∧ (live 1 []).reaches R.TIME_DT_HI = true ∧
     (live 1 [(R.HSPI_CFG, 1#32)]).hspiFine 0x0B 0x000400300B#40 (crc16 0xFFFF#16 (hdrBytes 0x000400300B#40)) = true) := by decide +kernel

/-- Values that meet the hypotheses of `ReadsChangeHostOnly`, clause by clause. -/
theorem wit_ReadsChangeHostOnly :
    (((live 1 []).reaches (at' (R.PKG 0x00C)).toNat && (live 1 []).reaches R.TIME_DT_LO &&
     (live 1 []).reaches (at' R.RESET_OPT_S).toNat && (live 1 []).reaches (R.POSEIN_LAST_POSE 0) &&
     (live 1 []).reaches (R.GCH_DMP_DT_LO 255) && (live 1 []).reaches (infoOfs 1)) = true ∧
     ∀ a ∈ [R.PKG 0x00C, R.TIME_DT_LO, R.RESET_OPT_S, R.POSEIN_LAST_POSE 0, R.GCH_DMP_DT_LO 255, infoOfs 1],
       (regInfo a).all (fun i => i.win.isNone) = true) := by decide +kernel

/-- Values that meet the hypotheses of `ResetReturnsRegisters`, clause by clause. -/
theorem wit_ResetReturnsRegisters :
    ((live 3 []).pkg.cellar = false ∧ (live 3 []).up 5 = true) := by decide +kernel

/-- Values that meet the hypotheses of `CompletionRecord`, clause by clause. -/
theorem wit_CompletionRecord :
    (let s := live 1 [(R.PORCH_RING_CTRL 0, 0x80000404#32)]
     Accepts s (cmd []) { CmdSpec.mk' 0x0100 0 0 ((cmd []).badArg [] []) false with inBoot := true } ∧ s.ringEn 0 = true ∧
     0 < s.cplFree 0 ∧ s.f (R.PORCH_RING_CTRL 0) 11 8 ≤ 10 ∧ s.f (R.PORCH_CPL_TAIL 0) 9 0 < s.cplSize 0) ∧
    (let s := live 1 [(R.PORCH_RING_CTRL 0, 0x80000404#32), (R.PORCH_CPL_TAIL 0, 15#32), (R.PORCH_CPL_HEAD 0, 3#32)]
     Accepts s (cmd []) { CmdSpec.mk' 0x0100 0 0 ((cmd []).badArg [] []) false with inBoot := true } ∧ s.ringEn 0 = true ∧
     0 < s.cplFree 0 ∧ s.f (R.PORCH_RING_CTRL 0) 11 8 ≤ 10 ∧ s.f (R.PORCH_CPL_TAIL 0) 9 0 < s.cplSize 0 ∧
     (s.f (R.PORCH_CPL_TAIL 0) 9 0 + 1) % s.cplSize 0 = 0) := by decide +kernel

/-- Values that meet the hypotheses of `RefusalsInOrder`, clause by clause. -/
theorem wit_RefusalsInOrder :
    (let c := cmd []
     (cmd [(8, 1)]).badArg [] [] ≠ none ∧ c.badArg [] [] = none ∧ (live 0 []).mode = 0 ∧ (live 1 []).pkg.cellar = false ∧
     (live 1 []).mode ≠ 0 ∧ ¬((c.sess ≠ 0 ∧ (live 1 []).cmdSlot c = none) ∨ (live 1 []).cmdRole c < 2) ∧
     ({ c with sess := 9 }).sess ≠ 0 ∧ (live 1 []).cmdSlot { c with sess := 9 } = none ∧
     ((live 1 []).mode != 2) = true ∧ ((live 2 []).mode != 2) = false) ∧
    (let s := { live 2 [(R.AUDIT_AUD_CFG, 0#32)] with sec := { Sec.reset with audit := List.replicate 16384 [] } }
     s.audCfg 1 = false ∧ s.audRun 1 = false ∧ (s.mode != 2) = false) := by decide +kernel

/-- Values that meet the hypotheses of `HspiFailedFrames`, clause by clause. -/
theorem wit_HspiFailedFrames :
    (let s := live 1 [(R.HSPI_CFG, 1#32)]
     s.hspiUp = true ∧ crc16 0xFFFF#16 (hdrBytes 0x0000400012#40) ≠ 0 ∧
     s.hspiFine 0x12 0x0000400012#40 (crc16 0xFFFF#16 (hdrBytes 0x0000400012#40)) = true ∧
     [5#32].length = hdrCount 0x0000400012#40 ∧ crc16 0xFFFF#16 ([5#32].flatMap wordBytes) ≠ 0) ∧
    (let s := live 1 [(R.HSPI_CFG, 1#32)]
     s.hspiFine 0x02 0x0040000002#40 (crc16 0xFFFF#16 (hdrBytes 0x0040000002#40)) = true ∧
     [5#32].length = hdrCount 0x0040000002#40 ∧ crc16 0xFFFF#16 ([5#32].flatMap wordBytes) ≠ 0) := by decide +kernel

/-- Values that meet the hypotheses of `SharedSramStores`, clause by clause. -/
theorem wit_SharedSramStores :
    (let s := live 1 [(R.HSPI_CFG, 1#32)]
     s.hspiFine 0x12 0x0000400012#40 (crc16 0xFFFF#16 (hdrBytes 0x0000400012#40)) = true ∧
     [5#32].length = hdrCount 0x0000400012#40) ∧
    ((live 1 []).answers = true ∧ crosses4K (BitVec.ofNat 20 0xFFC).toNat [1#8, 2#8, 3#8, 4#8].length = false) := by decide +kernel

/-- Values that meet the hypotheses of `RegisterAccessesComplete`, clause by clause. -/
theorem wit_RegisterAccessesComplete :
    ((live 1 []).takes (at' (R.PKG 0x024)).toNat 1 ∧ (regInfo (at' (R.PKG 0x024)).toNat).isSome = true) ∧
    ((live 1 []).answers = true ∧ (live 1 []).target ((at' 0x000062).toNat - (at' 0x000062).toNat % 4) = .absent) ∧
    (let s := live 1 [(R.CLOCK_ISL_STAT, 0x20#32)]
     s.answers = true ∧ s.target ((at' (R.CTLENG 0x040)).toNat - (at' (R.CTLENG 0x040)).toNat % 4) = .gated) := by decide +kernel

/-- Values that meet the hypotheses of `ConfigWriteCompletes`, clause by clause. -/
theorem wit_ConfigWriteCompletes :
    (let a := (at' R.TIME_WALL_SRC).toNat
     let s := live 2 []
     s.takes a 1 ∧ isConfig a = true ∧ 0x40 ≤ a % 0x1000 ∧
     (regInfo a).any (fun i => i.page.kind != .dma && i.unit.isNone &&
       ((s.touchAcc .pcie).cfgGate .pcie i a (i.fields.any (fun f => f.ty == .rws)) == none) &&
       (s.touchAcc .pcie).stateOk i a ((s.touchAcc .pcie).cfgValue i a 1) &&
       (s.touchAcc .pcie).valueOk i a ((s.touchAcc .pcie).cfgValue i a 1) &&
       (s.touchAcc .pcie).cfgValue i a 1 != (s.touchAcc .pcie).r a && (s.touchAcc .pcie).audCfg 1) = true) := by decide +kernel

/-- Values that meet the hypotheses of `HeaderAccessesComplete`, clause by clause. -/
theorem wit_HeaderAccessesComplete :
    ((live 1 []).reaches (at' (R.LOOP 23 0x00C)).toNat = true ∧ (at' (R.LOOP 23 0x00C)).toNat % 0x1000 = 0x00C) ∧
    ((live 1 []).takes (at' (R.DMA 15 0x028)).toNat 1 ∧ (at' (R.DMA 15 0x028)).toNat % 0x1000 = 0x028 ∧ bit (1 : Word) 0 = true ∧
     (regInfo (at' (R.DMA 15 0x028)).toNat).any (fun i => dmaOwner .sp0 i.inst) = true) ∧
    ((live 1 []).takes (R.PKG 0x020) 0xF) := by decide +kernel

/-- Values that meet the hypotheses of `WindowAccessesComplete`, clause by clause. -/
theorem wit_WindowAccessesComplete :
    ((live 1 []).takes (at' 0x502100).toNat 1023 ∧
     (regInfo (at' 0x502100).toNat).any (fun i => i.win.any (fun w => w.2 == 0)) = true) ∧
    ((live 1 []).reaches (at' 0x502108).toNat = true ∧ (live 1 []).reaches (at' 0x502144).toNat = true ∧
     (regInfo (at' 0x502108).toNat).any (fun i => i.win.any (fun w => w.2 == 0 + 2 && 0 + 1 != w.1.words)) = true ∧
     (regInfo (at' 0x502144).toNat).any (fun i => i.win.any (fun w => w.2 == 15 + 2 && 15 + 1 == w.1.words)) = true) ∧
    (let s := live 2 []
     s.takes (at' 0x502108).toNat 1 ∧ (regInfo (at' 0x502108).toNat).any (fun i => i.win.any (fun w =>
       w.2 == 0 + 2 && w.1.cls != .ro && decide (0 + 1 < w.1.words) &&
       !((s.touchAcc .pcie).winOpen Origin.pcie.master (i.base + w.1.ofs) w.1).winEnd Origin.pcie.master (i.base + w.1.ofs) w.1)) = true) ∧
    (let s := live 2 []
     s.takes (at' 0x504208).toNat 5 ∧ (regInfo (at' 0x504208).toNat).any (fun i => i.win.any (fun w =>
       let c := i.base + w.1.ofs
       let t := (s.touchAcc .pcie).winOpen Origin.pcie.master c w.1
       let x := t.win Origin.pcie.master c
       let l := x.offered w.1.words 5
       let old := t.winOld w.1.id x.cursor
       let ch := (List.range w.1.words).filter (fun k => nth old k != nth l k)
       w.2 == 0 + 2 && w.1.cls != .ro && !t.winEnd Origin.pcie.master c w.1 && 0 + 1 == w.1.words &&
       (t.cfgGate .pcie i (c + 4 * (w.1.words + 1)) (w.1.cls == .rws) == none) && t.recordOk w.1.id l && ch != [] &&
       t.audCfg (audParts ch.length))) = true) := by decide +kernel

/-- Values that meet the hypotheses of `InterruptWritesComplete`, clause by clause. -/
theorem wit_InterruptWritesComplete :
    ((live 1 []).takes (routeOfs (0x1FF#9).toNat) 0x127 ∧ fld 0x127#32 7 0 ≤ 0x27 ∧ (live 1 []).takes (routeOfs (0x1FF#9).toNat) 0x28 ∧
     0x27 < fld 0x28#32 7 0) ∧
    ((live 1 []).takes (R.IRQROUTE_VEC_EOI 0) 0xFFFFFFFF ∧ (live 1 []).reaches (R.PCIE_MSIX_CTRL 31) = true ∧ (live 1 []).answers = true) := by decide +kernel

/-- Values that meet the hypotheses of `CapturingReadsComplete`, clause by clause. -/
theorem wit_CapturingReadsComplete :
    ((live 1 []).reaches R.TIME_DT_LO = true ∧ (live 1 []).reaches (at' R.RESET_OPT_S).toNat = true ∧
     (regInfo (at' R.RESET_OPT_S).toNat).any (fun i => i.win.isNone && captureGroup (at' R.RESET_OPT_S).toNat i != []) = true) ∧
    ((live 1 []).reaches (R.POSEIN_LAST_POSE 0) = true ∧ (regInfo (R.POSEIN_LAST_POSE 0)).isSome = true ∧
     (live 1 []).reaches (R.GCH_DMP_DT_LO 255) = true ∧ (regInfo (R.GCH_DMP_DT_LO 255)).isSome = true ∧
     (live 1 []).reaches (infoOfs 1) = true ∧ (regInfo (infoOfs 1)).isSome = true) := by decide +kernel

/-- Values that meet the hypotheses of `RingWritesComplete`, clause by clause. -/
theorem wit_RingWritesComplete :
    (let s := live 1 []
     s.takes (R.PORCH_RING_CTRL 0) 0x80000404 ∧ 4 ≤ fld 0x80000404#32 3 0 ∧ fld 0x80000404#32 3 0 ≤ 10 ∧
     4 ≤ fld 0x80000404#32 11 8 ∧ fld 0x80000404#32 11 8 ≤ 10 ∧ s.ringEn 0 = false ∧ bit 0x80000404#32 31 = true ∧
     s.ringsFit 0 (fld 0x80000404#32 3 0) (fld 0x80000404#32 11 8) = true) ∧
    (let s := live 1 [(R.PORCH_RING_CTRL 1, 0x80000A0A#32)]
     s.takes (R.PORCH_RING_CTRL 1) 0xA0A ∧ bit 0xA0A#32 31 = false ∧ (live 1 []).ringEn 1 = false ∧ s.ringEn 1 = true ∧
     fld 0xA0A#32 3 0 = s.f (R.PORCH_RING_CTRL 1) 3 0 ∧ fld 0xA0A#32 11 8 = s.f (R.PORCH_RING_CTRL 1) 11 8) ∧
    (let s := live 1 [(R.PORCH_RING_CTRL 1, 0x80000A0A#32)]
     s.takes (R.PORCH_CMD_TAIL 1) 1023 ∧ fld 1023#32 9 0 < s.cmdSize 1 ∧ s.takes (R.PORCH_CPL_HEAD 1) 1023 ∧
     fld 1023#32 9 0 < s.cplSize 1 ∧ (Origin.hspi.isHost = true → (1 : Fin 4).val < 2)) := by decide +kernel

/-- Values that meet the hypotheses of `UnitWritesComplete`, clause by clause. -/
theorem wit_UnitWritesComplete :
    ((live 1 []).takes R.XLATE_INV 0 ∧ (live 1 []).reaches (R.DMA_CTRL 0) = true ∧ dmaOwner .pcie (0 : Fin 16).val = true ∧
     (live 1 []).dmaSt (0 : Fin 16).val = 0 ∧ (live 1 []).takes (R.DMA_DESC_PTR 0) 0x20 ∧ (live 1 []).reaches R.XFAULT_LOG_CTRL = true) ∧
    ((live 1 []).takes (R.POSEIN_HOST_POSE 9) 1 ∧ (live 1 []).reaches R.COMMIT_CNT_CTRL = true ∧
     (live 1 []).reaches R.RETIRE_LOST_CTRL = true) := by decide +kernel

/-- Values that meet the hypotheses of `EngineWritesComplete`, clause by clause. -/
theorem wit_EngineWritesComplete :
    ((live 1 []).takes R.CLOCK_ISL_CTRL 0x15 ∧ (live 1 []).variant = .g ∧
     ∀ lo ∈ [0, 2, 4, 6, 8], fld 0x15#32 (lo + 1) lo ≠ 3 ∧ islandFits lo (live 1 []).mode (fld 0x15#32 (lo + 1) lo) = true) ∧
    ((live 1 []).reaches R.TRACE_CTRL = true ∧ (live 1 []).takes (R.PWMC_CL_CTRL 5) 1 ∧ (live 1 []).takes R.TRIP_TRIP_CLR 0xFF) ∧
    (let s := withTable [(0, 0x700BC000#32)] (live 1 [(R.LOOP 0 0x044, 2#32), (R.LOOP_LAW 0, 0x100#32), (R.LOOP_OUT_SEL 0 0, 0x10000000#32)])
     s.takes (R.PWMC_U 0 (0x28 + 4 * (2 : Fin 3).val)) 0 ∧ s.takes (R.PWMC_U 0 (0x28 + 4 * (0 : Fin 3).val)) 0 ∧
     s.loopOwned (0 : Fin 48).val = true ∧ s.takes (R.PWMC_U 47 0x38) 0 ∧ s.motorOwned (47 : Fin 48).val = true) ∧
    (let s := live 1 [(R.GCH_CL_OWN 31, 0xFF#32)]
     s.reaches (R.GCH_CH_CTRL 255) = true ∧ s.gchHost (255 : Fin 256).val = true ∧ Origin.pcie.isHost = true) ∧
    (let s := live 1 []
     s.takes (R.GCH_CL_OWN 31) 0xFF ∧ (regInfo (R.GCH_CL_OWN 31)).any (fun i =>
       let a := R.GCH_CL_OWN 31
       let t := s.touchAcc .pcie
       let new := t.cfgValue i a 0xFF
       (t.cfgGate .pcie i a false == none) && t.stateOk i a new && t.valueOk i a new && new != t.r a && t.audCfg 1) = true) := by decide +kernel

/-- Values that meet the hypotheses of `ModeCommandsComplete`, clause by clause. -/
theorem wit_ModeCommandsComplete :
    (let s := live 1 []
     let c := cmd [(8, 2)]
     Accepts s c (CmdSpec.mk' 0x0001 (modeRole 2) 1 (c.badArg [(8, 8)] (need 8 (decide ((2 : Nat) ≤ 5))))
       (!s.noPending || !modeRow s.mode 2 || !s.modeReady 2)) ∧ c.byte 8 = 2) ∧
    (Accepts (live 3 []) (cmd []) { CmdSpec.mk' 0x0002 0 0 ((cmd []).badArg [] []) false with anySess := true, inBoot := true }) ∧
    (let s := (live 5 [(R.SUPPLY_RAIL_STAT, 0x7F#32), (R.DIE_FLDHB_STAT, 3#32)])
     let s := s.setPkg { s.pkg with beatLast := [some s.dt, some s.dt], beatSince := [some 0, some 0], railsSince := some 0 }
     Accepts s (cmd []) (CmdSpec.mk' 0x0003 2 1 ((cmd []).badArg [] [])
       (!(s.mode == 5) || s.causesLive != 0 || !s.bridgesHeld || !s.noPending))) ∧
    (let s := live 1 []
     Accepts s (cmd []) (CmdSpec.mk' 0x0004 2 1 ((cmd []).badArg [] []) (!(s.mode == 1 || s.mode == 5) || !s.noPending)) ∧
     Accepts s (cmd []) (CmdSpec.mk' 0x0005 2 1 ((cmd []).badArg [] []) false) ∧
     Accepts s (cmd [(8, 1), (23, 1)]) (CmdSpec.mk' 0x0006 2 2 ((cmd [(8, 1), (23, 1)]).badArg [(8, 23)] []) false)) := by decide +kernel

/-- Values that meet the hypotheses of `DrainEventsComplete`, clause by clause. -/
theorem wit_DrainEventsComplete :
    (let s := live 1 [(R.TIME_WALL_SRC, 1#32)]
     s.f R.TIME_WALL_SRC 2 0 ≠ 0 ∧ s.pkg.cellar = false ∧ s.mode ≠ 0 ∧ s.b R.TIME_DT_STAT 2 = false ∧
     (live 1 [(R.TIME_WALL_SRC, 1#32), (R.TIME_DT_STAT, 4#32)]).b R.TIME_DT_STAT 2 = true ∧ (1000000 : Int).natAbs ≤ 1000000 ∧
     1000000 < (1000001 : Int).natAbs) ∧
    (let s := { live 3 [] with drive := { Drive.reset with closeSeq := [2, 3] } }
     s.drive.closeSeq = 2 :: [3] ∧ s.drive.closeAt ≤ s.dt ∧ (s.mode = 3 ∨ s.mode = 4)) ∧
    (let s := (live 3 []).setPkg { (live 3 []).pkg with drain := some ⟨0, false, none, false⟩ }
     s.pkg.drain = some ⟨0, false, none, false⟩ ∧ (⟨0, false, none, false⟩ : Drain).offDone = false ∧
     (∀ e ∈ s.look.queues, ∀ x ∈ e.2.edges, x.exec ≤ s.dt) ∧ 0 + msDT 100 ≤ s.dt) ∧
    (let s := (live 3 []).setPkg { (live 3 []).pkg with drain := some ⟨0, true, none, false⟩ }
     s.pkg.drain = some ⟨0, true, none, false⟩ ∧ s.queuesEmpty = true ∧ s.windowsOpen = false ∧ s.chansOff = true ∧
     s.offsDue = true) ∧
    (let s := (live 5 []).setPkg { (live 5 []).pkg with safeClosing := some 0 }
     s.pkg.safeClosing = some 0 ∧ (s.windowsOpen = false ∨ 0 + msDT 100 ≤ s.dt)) := by decide +kernel

/-- Values that meet the hypotheses of `SupervisionEventsComplete`, clause by clause. -/
theorem wit_SupervisionEventsComplete :
    ((live 3 []).up 5 = true ∧ (live 3 []).up 7 = true ∧ (live 3 [(R.DIE_FLDHB_STAT, 3#32)]).b R.DIE_FLDHB_STAT (1 : Fin 2).val = true ∧
     (5#64).toNat ≤ (live 3 []).dt ∧ (live 3 []).bridgeLost (1 : Fin 2).val = true ∧ (live 3 []).up 2 = true) ∧
    (let s := live 1 [(R.CLOCK_ISL_CTRL, 0x200#32)]
     s.up 2 = true ∧ s.f R.CLOCK_ISL_CTRL (islandLo .gnss + 1) (islandLo .gnss) ≠ s.f R.CLOCK_ISL_STAT (islandLo .gnss + 1) (islandLo .gnss)) := by decide +kernel

/-- Values that meet the hypotheses of `SupplyEventsComplete`, clause by clause. -/
theorem wit_SupplyEventsComplete :
    ((live 3 []).pkg.cellar = false ∧ (live 3 []).b R.SUPPLY_RAIL_STAT 8 = false ∧ (live 3 []).mode ≠ 0 ∧ (live 0 []).mode = 0 ∧
     (live 0 []).b R.SUPPLY_RAIL_STAT 8 = false) ∧
    (let s := (live 3 []).setPkg { (live 3 []).pkg with pfAt := some 0 }
     s.pkg.pfAt = some 0 ∧ 0 + msDT (s.f R.SUPPLY_PF_CFG 15 8) ≤ s.dt) ∧
    ((live 3 []).up 1 = true ∧ (live 3 []).up 2 = true ∧ ¬(dieNum .rf = 2 ∧ (live 3 []).variant = .n) ∧
     (live 3 []).pkg.hot.getD (dieNum .rf) false = false ∧ (live 3 []).up 5 = true) := by decide +kernel

/-- Values that meet the hypotheses of `CellarAndAtticComplete`, clause by clause. -/
theorem wit_CellarAndAtticComplete :
    (let s := (live 0 [(R.CELLAR_CFG, 4#32), (R.CELLAR_WAKE_TIMER, 2#32)])
     let s := s.setPkg { s.pkg with cellar := true, dramHoldEn := true }
     s.pkg.cellar = true ∧ s.pkg.dramHoldEn = true ∧ s.b R.CELLAR_CFG 2 = true ∧ 0 < (s.r R.CELLAR_WAKE_TIMER).toNat ∧
     (s.r R.CELLAR_WAKE_TIMER).toNat ≤ 65536 / 32768) ∧
    ((live 1 []).pkg.cellar = false ∧ (live 1 []).atticOpen = true) ∧
    (let s := { live 1 [] with attic := { Attic.reset with evArchived := true } }
     Accepts s (cmd []) (CmdSpec.mk' 0x0D01 3 2 ((cmd []).badArg [] []) (!([1, 2, 4, 5].contains s.mode) || !s.attic.evArchived))) ∧
    ((withJob 1 7 2 [] Job.reset).worker 7 = some 0) := by decide +kernel

/-- Values that meet the hypotheses of `BootStepsComplete`, clause by clause. -/
theorem wit_BootStepsComplete :
    (State.reset.atStep 0 = true ∧ ((State.reset.toStep 1).atStep 1) = true ∧ ((State.reset.toStep 2).atStep 2) = true ∧
     ((State.reset.toStep 5).atStep 5) = true ∧ (live 1 []).up 6 = true ∧ (live 1 []).b R.LPDDR_CFG 4 = false ∧
     ((State.reset.toStep 6).atStep 6) = true ∧ ((State.reset.toStep 7).atStep 7) = true ∧ ((State.reset.toStep 8).atStep 8) = true ∧
     ((State.reset.toStep 9).atStep 9) = true) ∧
    (let s := State.reset.toStep 4
     let i : ImageInfo := bootable
     s.atStep 4 = true ∧ s.f R.UPDATE_IMG_STAT 6 5 = 0 ∧ (if s.b R.UPDATE_IMG_STAT 1 then 1 else 0) = 0 ∧
     ((s.w R.XSPI_STAT (nw ((8#8).toNat * 256 + 2))).tryImage 0 i).imageOk i = true) := by decide +kernel

/-- Values that meet the hypotheses of `JobsComplete`, clause by clause. -/
theorem wit_JobsComplete :
    (let s := live 1 [(R.LPDDR_CFG, 0x1F#32)]
     let c := cmd [(8, 4), (9, 3)]
     Accepts s c ((s.touchCmd c).startSpec c) ∧ s.freeJob = some 0) ∧
    (let s := withJob 1 8 1 [] Job.reset
     let c := cmd []
     s.findJob c.handle.toNat = some 0 ∧ s.jobSt 0 = 1 ∧
     Accepts s c (s.handleSpec c 0x0111 (s.handleRole c) (c.badArg [] []) (fun j => !s.canSuspend j)) ∧
     Accepts s c (s.handleSpec c 0x0113 (s.handleRole c) (c.badArg [] []) (fun j => !s.canCancel j)) ∧
     Accepts s c (s.handleSpec c 0x0114 1 (c.badArg [(8, 8)] (need 8 (decide (c.byte 8 ≤ 1)))) (fun _ => false)) ∧
     s.nextJob = some 0 ∧ s.runSlots < 8) ∧
    (let s := withJob 1 8 2 [] Job.reset
     s.findJob (cmd []).handle.toNat = some 0 ∧ s.jobSt 0 = 2 ∧
     Accepts s (cmd []) (s.handleSpec (cmd []) 0x0111 (s.handleRole (cmd [])) ((cmd []).badArg [] []) (fun j => !s.canSuspend j)) ∧
     (withJob 1 8 2 [] { Job.reset with step := doneStep }).jobSt 0 = 2 ∧
     ((withJob 1 8 2 [] { Job.reset with step := doneStep }).job 0).step = doneStep ∧ s.jobActive 0 = true) ∧
    (let s := withJob 1 8 4 [] Job.reset
     s.findJob (cmd []).handle.toNat = some 0 ∧
     Accepts s (cmd []) (s.handleSpec (cmd []) 0x0112 (s.handleRole (cmd [])) ((cmd []).badArg [] [])
       (fun j => s.jobSt j != 4 || !(kindsIn s.mode).contains (s.jobKind j)))) ∧
    ((withJob 1 8 3 [] Job.reset).b (R.JOBS_JOB_STAT 0) 7 = false ∧ (withJob 1 8 3 [] Job.reset).jobSt 0 = 3 ∧
     (withJob 1 8 5 [] Job.reset).jobSt 0 = 5 ∧ (withJob 1 8 5 [] Job.reset).b (R.JOBS_JOB_STAT 0) 7 = false) := by decide +kernel

/-- Values that meet the hypotheses of `MemoryEventsComplete`, clause by clause. -/
theorem wit_MemoryEventsComplete :
    ((live 1 []).pkg.cellar = false ∧ (live 1 [(R.LPDDR_CFG, 0x1F#32)]).b R.LPDDR_CFG 4 = true ∧ (live 1 [(R.LPDDR_CFG, 0x14#32)]).dramSize ≠ 0) ∧
    (let s := { live 1 [] with mu := { MemUnit.reset with
       fillNow := some 3, slots := MemUnit.reset.slots.set 3 { PantrySlot.reset with st := .filling } } }
     s.mu.fillNow = some 3 ∧ (s.slot 3).discard = false ∧ (s.slot 3).st = .filling) ∧
    (let s := { live 1 [] with mu := { MemUnit.reset with
       wbQ := [111], slots := MemUnit.reset.slots.set 111 { PantrySlot.reset with st := .dirty } } }
     (s.slot (111 : Fin 112).val).st = .dirty ∧ (s.slot 111).dirtySince + sDT 1 ≤ s.dt ∧ s.mu.wbQ = 111 :: []) := by decide +kernel

/-- Values that meet the hypotheses of `PcieCommandsComplete`, clause by clause. -/
theorem wit_PcieCommandsComplete :
    ((live 1 []).answers = true ∧ (live 1 [(R.PCIE_LINK_STAT, 0x111#32)]).answers = true ∧
     (live 1 [(R.PCIE_LINK_STAT, 0x111#32)]).b R.PCIE_LINK_STAT 8 = true ∧ 1 ≤ (3#4).toNat ∧ (3#4).toNat ≤ 3 ∧
     crosses4K (0xFFFFF#20).toNat [1#8].length = false ∧ crosses4K (0x1000#31).toNat 4096 = false) := by decide +kernel

/-- Values that meet the hypotheses of `HspiFramesComplete`, clause by clause. -/
theorem wit_HspiFramesComplete :
    (let s := live 1 [(R.HSPI_CFG, 1#32)]
     let crc (h : BitVec 40) := crc16 0xFFFF#16 (hdrBytes h)
     s.hspiFine 0x02 0x0040000002#40 (crc 0x0040000002#40) = true ∧ [5#32].length = hdrCount 0x0040000002#40 ∧
     s.hspiFine 0x0B 0x0F4000000B#40 (crc 0x0F4000000B#40) = true ∧
     s.hspiFine 0x12 0x00FCFF0F12#40 (crc 0x00FCFF0F12#40) = true ∧ [5#32].length = hdrCount 0x00FCFF0F12#40 ∧
     s.hspiFine 0x1B 0x0FC0FF0F1B#40 (crc 0x0FC0FF0F1B#40) = true ∧ s.hspiUp = true) := by decide +kernel

/-- Values that meet the hypotheses of `EthernetServiceCompletes`, clause by clause. -/
theorem wit_EthernetServiceCompletes :
    (let s := live 1 [(R.PORCH_PORCH_CFG, 3#32), (R.ETH_ETH_CFG 1, 0x80000000#32), (R.ETH_ETH_STAT 1, 1#32)]
     s.ethListens (1 : Fin 2).val = true ∧ [2 * 1, 2 * 1 + 1].find? (fun k => !(s.conn k).up) = some 2) ∧
    (let s := live 1 [(R.SESSION_SLOT 3, 0x00010003#32), (R.PORCH_RING_CTRL 2, 0x80000404#32)]
     let s := s.setConn 1 ⟨true, some 3, true, some 4⟩
     (s.conn 1).up = true ∧ s.connOpen 1 = true ∧ (List.replicate 64 0#8).length = 64 ∧ s.ringEn (2 + 1 / 2) = true ∧
     (s.f (R.PORCH_CMD_TAIL 2) 9 0 + 1) % s.cmdSize 2 ≠ s.f (R.PORCH_CMD_HEAD 2) 9 0 ∧ hdrCount 0x0040000002#40 ≤ 16 ∧
     hdrByte 0x0040000002#40 0 = 0x02 ∧ [5#32].length = hdrCount 0x0040000002#40 ∧ hdrByte 0x004000000B#40 0 = 0x0B ∧
     (∀ c ∈ (s.conn 1).rxCtr, c < 5)) ∧
    (let s := (live 1 []).setConn 3 ⟨true, none, false, none⟩
     (s.conn 3).up = true ∧ (s.conn 3).estab = false ∧ 1 ≤ (2#8).toNat ∧ (2#8).toNat ≤ 4 ∧ s.ifLocked (2 + 3) = false ∧
     ((2#8).toNat ≠ 4)) ∧
    (let x : Challenge := ⟨7, connSlot 3, 2, 25600000000000⟩
     let s := { live 1 [] with sec := { Sec.reset with chals := [x], keys := Sec.reset.keys.set 0 ⟨2, []⟩ } }
     let s := s.setConn 3 ⟨true, some 2, false, none⟩
     let t := s.setSec { s.sec with chals := s.sec.chals.erase x }
     (s.conn 3).up = true ∧ (s.conn 3).estab = false ∧
     s.sec.chals.reverse.find? (fun y => y.slot == connSlot 3 && s.fresh y) = some x ∧
     (t.attempt (connSlot 3) x.role (t.keyFits x.role (some 0) && (x.role != 4 || t.osardOk))).1 = 0) := by decide +kernel

/-- Values that meet the hypotheses of `PorchCompletes`, clause by clause. -/
theorem wit_PorchCompletes :
    (let s := live 1 [(R.PORCH_RING_CTRL 0, 0x80000404#32), (R.PORCH_CMD_TAIL 0, 1#32)]
     s.answers = true ∧ s.ringEn 0 = true ∧ s.f (R.PORCH_CMD_HEAD 0) 9 0 ≠ s.f (R.PORCH_CMD_TAIL 0) 9 0 ∧ s.heldBack 0 = false ∧
     s.busyCmds 0 < 8 ∧ (descCmd 0 0 (s.rdBytes sharedBase 64)).flags.getLsbD 1 = false ∧ s.busyCmds 0 = 0 ∧
     Accepts s (cmd []) { CmdSpec.mk' 0x0100 0 0 ((cmd []).badArg [] []) false with inBoot := true }) := by decide +kernel

/-- Values that meet the hypotheses of `BusEventsComplete`, clause by clause. -/
theorem wit_BusEventsComplete :
    (let s := live 1 [(R.CAN_CAN_CFG 5, 0xA0000000#32), (R.CAN_CAN_CFG 0, 0x80000000#32), (R.CAN_CAN_ADDR 0, 0x8000#32)]
     s.canUp 5 = true ∧ s.pkg.cellar = false ∧ s.b (R.CAN_CAN_CFG 0) 30 = false ∧ s.canUp 0 = true ∧
     s.f (R.CAN_CAN_ADDR 0) 15 8 ≤ (0x80#8).toNat ∧ (0x80#8).toNat < 0xFE) ∧
    (let s := live 1 [(R.CAN_CAN_CFG 5, 0x80000000#32), (R.CAN_CAN_ADDR 1, 0x10000#32)]
     let c := cmd [(8, 5), (16, 15)]
     let o := c.num 20 4
     let n := canLen (c.word 3) (c.byte 16)
     Accepts s c (CmdSpec.mk' 0x0B01 1 0 (c.badArg [(8, 8), (12, 16), (20, 23)]
       ((if c.byte 8 < 6 then [] else [8]) ++ (if c.byte 16 < 16 then [] else [16]) ++ (if o + n ≤ 0x100000 then [] else [20])))
       (decide (c.byte 8 < 2) || !s.b (R.CAN_CAN_CFG (c.byte 8)) 31)) ∧
     (s.acceptedBy c (CmdSpec.mk' 0x0B01 1 0 none false)).f (R.CAN_CAN_STAT 5) 1 0 ≠ 2 ∧ s.b (R.CAN_CAN_ADDR 1) 16 = true) ∧
    (let s := live 1 [(R.CAN_CAN_CFG 2, 0x80000000#32)]
     let s := s.setComm { s.comm with tx := [⟨2, cmd [], [0, 0]⟩] }
     s.canUp 2 = true ∧ s.b (R.CAN_CAN_CFG 2) 30 = false ∧ s.comm.tx.find? (fun e => e.bus == 2) = some ⟨2, cmd [], [0, 0]⟩) ∧
    (let s := live 1 [(R.CAN_CAN_CFG 2, 0x80000000#32), (R.CAN_CAN_STAT 2, 2#32)]
     s.b (R.CAN_CAN_CFG 2) 31 = true ∧ s.f (R.CAN_CAN_STAT 2) 1 0 = 2) ∧
    (let s := live 1 [(R.ETH_ETH_CFG 1, 0x80000000#32), (R.ETH_ETH_STAT 1, 1#32), (R.ETH_PTP_CFG 1, 1#32)]
     s.b (R.ETH_ETH_CFG 1) 31 = true ∧ s.f (R.ETH_ETH_STAT 1) 1 0 ≠ 0 ∧ s.pkg.cellar = false ∧ (1#32) ≠ s.r (R.ETH_IP 1) ∧
     s.b (R.ETH_PTP_CFG 1) 0 = true) ∧
    (let s := live 1 [(R.ETH_PTP_STAT 1, 1#32)]
     let s := s.setComm { s.comm with ptp := [none, some (0, 0, 5)] }
     s.comm.ptp.getD 1 none = some (0, 0, 5) ∧ s.b (R.ETH_PTP_STAT 1) 0 = true ∧ 0 + 3 * 5 ≤ s.dt) := by decide +kernel

/-- Values that meet the hypotheses of `HexyonEventsComplete`, clause by clause. -/
theorem wit_HexyonEventsComplete :
    (let s := live 1 [(R.HXL_HX_CFG, 1#32)]
     s.pkg.bootStep = 10 ∧ s.pkg.cellar = false ∧ s.b R.HXL_HX_CFG 0 = true ∧
     crc32 ((0#32 :: [7#32]).flatMap wordBytes) = crc32 ((0#32 :: [7#32]).flatMap wordBytes) ∧ [7#32].length = fld 0#32 11 8 + 1 ∧
     0#32 ≠ crc32 ((0#32 :: [7#32]).flatMap wordBytes)) ∧
    (let s := live 1 [(R.SYSNET_MEMBER_STAT, 0x8#32)]
     (3 : Fin 4).val ≠ s.nodeId ∧ s.b R.SYSNET_MEMBER_STAT (3 : Fin 4).val = true ∧ (s.node (3 : Fin 4).val).seen = none) ∧
    (let s := live 1 [(R.SYSNET_CFG, 0x400#32), (R.HXL_HX_CFG, 1#32)]
     let s := s.setComm { s.comm with masterAt := some 0 }
     s.b R.SYSNET_CFG 10 = true ∧ s.b R.HXL_HX_CFG 0 = true ∧ s.pkg.bootStep = 10 ∧ s.pkg.cellar = false ∧ s.isMaster = false ∧
     s.comm.masterAt = some 0 ∧ 0 + s.hbDT + msDT (2 * s.nodeId) ≤ s.dt) ∧
    (let s := live 1 [(R.SYSNET_MEMBER_STAT, 0x800#32)]
     s.isMaster = false ∧ s.synced = true ∧ s.r64 R.SYSNET_S_ADT_LO + publishDT ≤ s.dt) := by decide +kernel

/-- Values that meet the hypotheses of `ChannelEventsComplete`, clause by clause. -/
theorem wit_ChannelEventsComplete :
    (let s := (live 3 []).setChSt 191 cPull
     s.chSt (s.leadChan (191 : Fin 192).val) = cPull) ∧
    (let s := (live 3 [(R.OUTC_CL_CFG 23, 8#32)]).setChSt 190 cPull
     s.leadChan (191 : Fin 192).val = 190 ∧ s.chSt (s.leadChan (191 : Fin 192).val) = cPull) ∧
    (let s := (live 3 []).setChSt 191 cPull
     let s := s.setChan 191 { s.chan 191 with peaked := true, since := 0 }
     s.chSt (s.leadChan (191 : Fin 192).val) = cPull ∧ (s.chan 191).peaked = true ∧
     (s.chan 191).since + usDT (100 * s.f (R.OUTC_CH_TIME 191) 31 24) ≤ s.dt) ∧
    (let s := (live 3 []).setChSt 191 cPull
     let s := s.setChan 191 { s.chan 191 with peaked := false, since := 0 }
     s.chSt (s.leadChan (191 : Fin 192).val) = cPull ∧ (s.chan 191).peaked = false ∧
     (s.chan 191).since + usDT (100 * s.f (R.OUTC_CH_TIME 191) 23 16) ≤ s.dt ∧ (s.chan 191).since + msDT 20 ≤ s.dt) ∧
    (let s := { live 3 [] with drive := { Drive.reset with waits := [⟨0, 5, 2⟩] } }
     s.drive.waits.find? (fun r => r.ch == (s.leadChan (5 : Fin 192).val)) = some ⟨0, 5, 2⟩ ∧ (⟨0, 5, 2⟩ : Req).src ≤ 2 ∧
     0 + usDT (s.f R.DRVCTL_CFG 31 16) ≤ s.dt) ∧
    (let s := (live 3 []).setChSt 0 cDecay
     s.chSt (s.leadChan (0 : Fin 192).val) = cDecay ∧ (s.chan 0).closing = none) ∧
    (let k : Closing := ⟨0, 5000, 0, 5000, none, none, false⟩
     let s := (live 3 [(R.OUTC_CH_CFG 0, 0x08000000#32)]).setChSt 0 cDecay
     let s := s.setChan 0 { s.chan 0 with closing := some k }
     let u := (live 3 [(R.OUTC_CH_CFG 0, 0#32)]).setChSt 0 cDecay
     let u := u.setChan 0 { u.chan 0 with closing := some k }
     s.chSt (s.leadChan (0 : Fin 192).val) = cDecay ∧ (s.chan 0).closing = some k ∧ s.b (R.OUTC_CH_CFG 0) 27 = true ∧
     u.chSt (u.leadChan 0) = cDecay ∧ (u.chan 0).closing = some k ∧ u.b (R.OUTC_CH_CFG 0) 27 = false) ∧
    (let s := (live 3 []).setChSt 7 cHold
     let s := s.setChan 7 { s.chan 7 with since := 0 }
     s.chSt (s.leadChan (7 : Fin 192).val) = cHold ∧ (s.chan 7).since + sDT 1 ≤ s.dt) ∧
    (let s := (live 3 []).setChSt 7 cFault
     let s := s.setChan 7 { s.chan 7 with since := 0 }
     s.chSt (s.leadChan (7 : Fin 192).val) = cFault ∧ s.b (R.OUTC_CH_STAT 7) 24 = false ∧
     (s.chan 7).since + msDT (10 * s.f (R.OUTC_CH_CFG 7) 23 16) ≤ s.dt) ∧
    (let t : Train := ⟨0, 5000, 0, false, true, none⟩
     let s := (live 3 []).setChSt 7 cHold
     let s := s.setChan 7 { s.chan 7 with train := some t, own := some ⟨3, 0, true⟩ }
     (s.chan (s.leadChan (7 : Fin 192).val)).train = some t ∧ (s.chan 7).own = some ⟨3, 0, true⟩ ∧ t.next ≤ s.dt ∧ s.chSt 7 = cHold ∧
     t.start + usDT t.tOn ≤ s.dt ∧ usDT (t.tOn + 500) < s.pwmPeriod 7) := by decide +kernel

/-- Values that meet the hypotheses of `RegionEventsComplete`, clause by clause. -/
theorem wit_RegionEventsComplete :
    (let t := ((live 3 []).setRegSt 3 1).setField 3 (12000#16).toNat
     t.regSt (3 : Fin 4).val = 1 ∧ t.liveAbove 3 < (12000#16).toNat) ∧
    (let t := ((live 3 [(R.REGION_CFG 3, 0x80000000#32)]).setRegSt 3 0)
     let t := (t.setRegion 3 { t.region 3 with since := 0 }).setField 3 (301#16).toNat
     t.regSt (3 : Fin 4).val = 0 ∧ t.b (R.REGION_CFG 3) 31 = true ∧ 300 < (301#16).toNat ∧ (t.region 3).since + msDT 10 ≤ t.dt) ∧
    (let t := ((live 3 []).setRegSt 3 2).setField 3 (1#16).toNat
     t.regSt (3 : Fin 4).val = 2 ∧ (1#16).toNat < t.f (R.REGION_SAG 3) 15 8 * 10) ∧
    (let t := ((live 3 []).setRegSt 3 3).setField 3 (12000#16).toNat
     t.regSt (3 : Fin 4).val = 3 ∧ t.liveAbove 3 < (12000#16).toNat ∧ (t.regSt 3 = 2 ∨ t.regSt 3 = 3)) ∧
    (let s := (live 3 []).setRegSt 3 1
     let s := s.setRegion 3 { s.region 3 with since := 0 }
     s.regSt (3 : Fin 4).val = 1 ∧ (s.region 3).since + msDT 10 ≤ s.dt) := by decide +kernel

/-- Values that meet the hypotheses of `ProtectionAndBoostComplete`, clause by clause. -/
theorem wit_ProtectionAndBoostComplete :
    (let s := (live 3 []).setChSt 7 cHold
     let s := s.setChan 7 { s.chan 7 with lastPull := some 0 }
     s.chSt (s.leadChan (7 : Fin 192).val) = cHold ∧ (s.chan 7).lastPull = some 0 ∧ 0 + msDT 1 ≤ s.dt) ∧
    ((live 3 []).chSt (7 : Fin 192).val = cOff ∧ 250 < (251#16).toNat ∧ (99#16).toNat < 100 ∧
     ¬(250 < (250#16).toNat ∧ (99#16).toNat < 100) ∧ decide ((250#16).toNat < 100) = false) ∧
    (let s := (((live 3 []).setRegSt 0 2).setField 0 12000).w (R.OUTC_CH_DIAG 7) 0xFF000000
     let t := s.wf (R.OUTC_CH_MEAS 7) 31 16 (99#16).toNat
     s.chSt (7 : Fin 192).val = cOff ∧ (decide ((99#16).toNat < 100) && decide ((99#16).toNat < 100) &&
         decide (t.f (R.REGION_SAG (regionOf 7)) 15 8 * 10 < t.field (regionOf 7)) && t.f (R.OUTC_CH_DIAG 7) 31 24 == 0xFF) = true) ∧
    (let s := (live 3 [])
     let s := s.setChan 8 { s.chan 8 with lastPull := some s.dt }
     s.chSt (7 : Fin 192).val = cOff ∧ (chansOf (regionOf (7 : Fin 192).val)).find? (fun m =>
         m != (7 : Fin 192).val && (match (s.chan m).lastPull with | some t => decide (s.dt ≤ t + usDT 100) | none => false)) = some 8) ∧
    (160 * 16 ≤ (2560#16).toInt ∧ (live 3 []).drive.clHot.getD (23 : Fin 24).val false = false ∧ (2239#16).toInt < 140 * 16 ∧
     ({ live 3 [] with drive := { Drive.reset with clHot := Drive.reset.clHot.set 23 true } }).drive.clHot.getD (23 : Fin 24).val false = true) ∧
    (let s := (live 3 []).setBstSt 7 bPeak
     let s := s.setBst 7 { s.bst 7 with since := 0, shotEnd := some 0 }
     s.bstSt (7 : Fin 8).val = bPeak ∧ (s.bst 7).since + usDT (s.f (R.BANK_BST_TIME 7) 15 0) ≤ s.dt ∧ (s.bst 7).shotEnd = some 0 ∧
     0 ≤ s.dt) ∧
    (((live 3 []).setBstSt 7 bDecay).bstSt (7 : Fin 8).val = bDecay) ∧
    (let s := (live 3 []).setBstSt 7 bWait
     let s := s.setBst 7 { s.bst 7 with waitSince := some 0 }
     let t := s.setVbst 6500
     (t.bstWaits ((7 : Fin 8).val / 4)).head? = some (7 : Fin 8).val ∧ t.canPeak 7 = true ∧ (s.bst 7).waitSince = some 0 ∧
     s.bstSt 7 = bWait ∧ 0 + usDT (100 * s.f (R.BANK_BK_CFG (7 / 4)) 31 24) ≤ s.dt) ∧
    (let s := (live 3 []).setBstSt 7 bWait
     6600 < (6601#16).toNat ∧ ((live 3 []).setVbst 6601).drive.vbstOff = false ∧
     (100#16).toNat < ((s.setVbst 100).f R.DRVCTL_VBST_CFG 23 16) * 100 ∧ 7 < 8 ∧ (s.setVbst 100).bstSt 7 = bWait ∧
     (100#16).toNat < ((s.setVbst 100).f R.DRVCTL_VBST_CFG 31 24) * 100) := by decide +kernel

/-- Values that meet the hypotheses of `DriveCommandsComplete`, clause by clause. -/
theorem wit_DriveCommandsComplete :
    (let s := ((live 4 []).setRegSt 0 2).setField 0 12000
     let c := cmd [(8, 5), (9, 1)]
     Accepts s c (CmdSpec.mk' 0x0601 3 0 (c.badArg [(8, 9), (12, 15)] (forceWrong c)) (s.forceConflict (c.byte 8) (c.byte 9)))) ∧
    (let s := live 4 []
     let s := (s.setChan 191 { s.chan 191 with forceEnd := some 0 })
     let s := s.setBst (199 - 192) { s.bst 7 with forceEnd := some 0 }
     0 ≤ s.dt ∧ (191 : Fin 200).val < 192 ∧ (s.chan (191 : Fin 200).val).forceEnd = some 0 ∧ 192 ≤ (199 : Fin 200).val ∧
     (s.bst ((199 : Fin 200).val - 192)).forceEnd = some 0) ∧
    (let s := live 4 [(R.REGION_CFG 3, 0x80000000#32)]
     let c := cmd [(8, 3), (9, 1)]
     let g := c.byte 8
     let close := c.byte 9 == 1
     Accepts s c (CmdSpec.mk' 0x0602 2 1 (c.badArg [(8, 9)] ((if g < 4 then [] else [8]) ++ (if c.byte 9 ≤ 1 then [] else [9])))
         (!(s.mode == 3 || s.mode == 4) || (close && (!s.b (R.REGION_CFG g) 31 || (s.region g).cmd.isSome || s.fieldSafe))))) ∧
    (let s := live 4 [(R.OUTC_CH_STAT 191, 0x1000000#32)]
     let c := cmd [(9, 191)]
     let n := c.byte 9
     let bst := c.byte 8 == 1
     Accepts s c (CmdSpec.mk' 0x0603 2 1
       (c.badArg [(8, 9)] ((if c.byte 8 ≤ 1 then [] else [8]) ++ (if n < (if bst then 8 else 192) then [] else [9])))
       (!(s.mode == 3 || s.mode == 4 || s.mode == 5) || !(if bst then s.bstSt n == bFault else s.b (R.OUTC_CH_STAT n) 24)))) := by decide +kernel

/-- Values that meet the hypotheses of `MotionEventsComplete`, clause by clause. -/
theorem wit_MotionEventsComplete :
    (let s := (live 3 []).setChSt 191 cPull
     let s := s.setChan 191 { s.chan 191 with opening := some (0, 0, 5000) }
     (s.chan (191 : Fin 192).val).opening = some (0, 0, 5000) ∧ 0 ≤ (9#64).toNat ∧ (9#64).toNat ≤ s.dt ∧ s.chSt 191 = cPull ∧
     0 + usDT (min 200000 200000) ≤ s.dt ∧ (s.chan 191).own = none) ∧
    (let k : Closing := ⟨0, 5000, 0, 5000, some 0, none, false⟩
     let s := (live 3 []).setChSt 191 cSense
     let s := s.setChan 191 { s.chan 191 with closing := some k }
     (s.chan (191 : Fin 192).val).closing = some k ∧ k.sense = some 0 ∧ k.span = none ∧ s.chSt 191 = cSense ∧ s.spanStart 191 k 0 ≤ s.dt) ∧
    (let k : Closing := ⟨0, 5000, 0, 5000, some 0, some 0, false⟩
     let s := (live 3 []).setChSt 191 cSense
     let s := s.setChan 191 { s.chan 191 with closing := some k }
     (s.chan (191 : Fin 192).val).closing = some k ∧ k.span = some 0 ∧ s.chSt 191 = cSense ∧ 0 ≤ (9#64).toNat ∧ (9#64).toNat ≤ s.dt ∧
     0 + s.winDT 191 ≤ s.dt) ∧
    (let m : MotRes := ⟨false, false, false, 0, 5, 4000, 0, 12000, 0, none, false⟩
     ({ live 3 [] with motion := { Motion.reset with fifo := [[], [m]] } }).motion.fifo.getD (1 : Fin 2).val [] = m :: []) ∧
    (let s := live 2 []
     let c := cmd [(8, 0xFF), (9, 0xFF), (10, 15)]
     let id := c.num 8 2
     Accepts s c (CmdSpec.mk' 0x0610 2 2
       (c.badArg [(8, 10)] ((if id < 1024 ∨ id = 0xFFFF then [] else [8]) ++ (if c.byte 10 < 16 then [] else [10])))
       (!(decide (1 ≤ s.mode) && decide (s.mode ≤ 4)))) ∧ id = 0xFFFF) ∧
    (let s := ({ live 3 [] with look := { Look.reset with queues := [(1023, { (live 3 []).q 1023 with edges := [edge 0 25600000000000 false] })] } })
     (s.q (1023 : Fin 1024).val).edges.find? (fun e => !e.landed && fieldKind e.kind) = some (edge 0 25600000000000 false) ∧
     s.dt ≤ (edge 0 25600000000000 false).exec ∧ (edge 0 0 false).exec < s.dt ∧ (edge 0 0 false).kind ≤ 1 ∧
     (!(edge 0 0 false).landed && fieldKind (edge 0 0 false).kind) = true) ∧
    (let s (e : Edge) := ({ live 3 [] with look := { Look.reset with queues := [(1023, { (live 3 []).q 1023 with edges := [e] })] } })
     ((s (edge 1 5 true)).q (1023 : Fin 1024).val).edges = edge 1 5 true :: [] ∧ (edge 1 5 true).landed = true ∧
     (edge 1 5 true).exec ≤ (s (edge 1 5 true)).dt ∧ (edge 1 5 true).kind ≤ 1 ∧
     ((s (edge 2 5 true)).q 1023).edges = edge 2 5 true :: [] ∧ (edge 2 5 true).kind = 2 ∧
     ((s (edge 4 5 true)).q 1023).edges = edge 4 5 true :: [] ∧ (edge 4 5 true).kind = 4 ∧
     ((s (edge 3 5 true)).q 1023).edges = edge 3 5 true :: [] ∧ (edge 3 5 true).kind = 3 ∧
     ((s (edge 5 5 true)).q 1023).edges = edge 5 5 true :: [] ∧ (edge 5 5 true).kind = 5) := by decide +kernel

/-- Values that meet the hypotheses of `PwmEventsComplete`, clause by clause. -/
theorem wit_PwmEventsComplete :
    ((live 3 []).pwm.held = none ∧ (live 3 []).nextZero (5 : Fin 6).val ≤ (live 3 []).dt ∧ ((live 3 []).pcl (5 : Fin 6).val).perDone = false ∧
     ((live 3 []).pcl 5).zero + countDT ((live 3 []).perCounts 5 - 1) ≤ (live 3 []).dt ∧ ((live 3 []).pcl 5).syncSent = false ∧
     fld ((live 3 []).pw (R.PWMC_CL_SYNC 5)) 23 0 < (live 3 []).perCounts 5 ∧
     ((live 3 []).pcl 5).zero + countDT (fld ((live 3 []).pw (R.PWMC_CL_SYNC 5)) 23 0) ≤ (live 3 []).dt) ∧
    (let s := live 3 [(R.PWMC_CL_CFG 0, 0x80000000#32)]
     s.b (R.PWMC_CL_CFG (0 : Fin 6).val) 31 = true ∧ (s.pcl 0).syncSeen + countDT (2 * s.perCounts 0) ≤ s.dt) ∧
    (let s := live 3 []
     let s := { s with pwm := { s.pwm with chans := s.pwm.chans.set 47 { PwmCh.reset with edges := [⟨0, some true, false⟩] } } }
     (s.pch (47 : Fin 48).val).edges = ⟨0, some true, false⟩ :: [] ∧ s.pwm.held = none ∧ s.edgeDT 47 0 ≤ s.dt) ∧
    (let s := live 3 [(R.PWMCTL_SYNC_CFG, 1#32)]
     s.b R.PWMCTL_SYNC_CFG 0 = true ∧ s.pwm.held = none ∧ (5#64).toNat ≤ s.dt ∧ (⟨none, false⟩ : PwmTrip).captured = false ∧
     s.pwm.trips.getD (7 : Fin 8).val ⟨none, false⟩ = ⟨none, false⟩ ∧ s.tripOn 7 = false ∧ s.b (R.TRIP_TRIP_STAT 7) 30 = false) ∧
    (let s := { live 3 [] with pwm := { Pwm.reset with trips := Pwm.reset.trips.set 7 ⟨some 5, false⟩ } }
     s.pwm.trips.getD (7 : Fin 8).val ⟨none, false⟩ = ⟨some 5, false⟩ ∧ 5 ≤ s.dt) := by decide +kernel

/-- Values that meet the hypotheses of `DioEventsComplete`, clause by clause. -/
theorem wit_DioEventsComplete :
    ((live 3 []).b (R.DIOG_IO_STAT (31 : Fin 32).val) 31 ≠ true) ∧
    (let s := (live 3 [(R.DIOG_IO_CFG 31, 0x40000000#32)])
     let s := setDio 31 2 s
     s.dioSt (31 : Fin 32).val = 2 ∧ (s.dioPin 31).since + sDT 1 ≤ s.dt ∧ s.b (R.DIOG_IO_CFG 31) 30 = true ∧ (1#12).toNat < 2 ∧
     (s.dioPin 31).since + msDT 10 ≤ s.dt) ∧
    (let s := setDio 31 3 (live 3 [])
     s.dioSt (31 : Fin 32).val = 3 ∧ s.b (R.DIOG_IO_STAT 31) 29 = false ∧
     (s.dioPin 31).since + msDT (10 * s.f (R.DIOG_IO_CFG 31) 7 0) ≤ s.dt) ∧
    (let s := live 3 [(R.DIOG_IO_STAT 31, 0x20000000#32)]
     let c := cmd [(8, 31)]
     Accepts s c (CmdSpec.mk' 0x0901 2 1 (c.badArg [(8, 8)] (if c.byte 8 < 32 then [] else [8]))
         (!(s.mode == 3 || s.mode == 4 || s.mode == 5) || !s.b (R.DIOG_IO_STAT (c.byte 8)) 29))) ∧
    (let s := setDio 31 1 (live 3 [(R.DIOG_IO_STAT 31, 0x80000000#32)])
     s.dioSt (31 : Fin 32).val = 1 ∧ s.b (R.DIOG_IO_STAT 31) 31 = true ∧ (s.dioPin 31).since + msDT 6 ≤ s.dt) ∧
    (let t := (live 3 []).setVio 3 (89#16).toNat
     let u := (live 3 [(R.DIOG_G_STAT 3, 0x80000000#32)]).setVio 3 (3000#16).toNat
     t.b (R.DIOG_G_STAT (3 : Fin 4).val) 31 = false ∧ (89#16).toNat < 10 * t.f (R.DIOG_G_CFG 3) 15 8 ∧
     u.b (R.DIOG_G_STAT 3) 31 = true ∧ 10 * u.f (R.DIOG_G_CFG 3) 15 8 + 100 < (3000#16).toNat) := by decide +kernel

/-- Values that meet the hypotheses of `InputEventsComplete`, clause by clause. -/
theorem wit_InputEventsComplete :
    (let s := live 3 [(R.AING_AIN_CFG 15, 0x80000000#32)]
     s.f (R.AING_AIN_CFG (15 : Fin 16).val) 31 30 = 2 ∧ (s.ain (15 : Fin 16).val).cut = none) ∧
    (let s := (live 3 []).setAin 15 { (live 3 []).ain 15 with cut := some 0 }
     (s.ain (15 : Fin 16).val).cut = some 0 ∧ 0 + sDT 1 ≤ s.dt) ∧
    (let s := { live 3 [(R.FING_F_STAT 11, 0#32)] with fio := { Fio.reset with fin := Fio.reset.fin.set 11 { FinCh.reset with newest := some 0 } } }
     (s.fin (11 : Fin 12).val).gate + msDT (s.f (R.FING_F_CFG 11) 15 8) ≤ s.dt ∧ (s.fin 11).newest = some 0 ∧
     0 + msDT (s.f (R.FING_F_TIMEOUT 11) 15 0) ≤ s.dt ∧ s.b (R.FING_F_STAT 11) 30 = false) ∧
    (let s := { live 3 [(R.FING_QUAD_CFG, 0x3F#32)] with fio := { Fio.reset with quadBad := Fio.reset.quadBad.set 5 (some 0) } }
     s.b R.FING_QUAD_CFG (5 : Fin 6).val = true ∧ s.fio.quadBad.getD (5 : Fin 6).val none = some 0 ∧ 0 ≤ s.dt) ∧
    (let a : Awaiting := late 1023 0
     let s := { live 3 [] with look := { Look.reset with awaiting := [a] } }
     s.look.awaiting.find? (fun a => a.id == (1023 : Fin 1024).val && decide (a.kind ≠ 6)) = some a ∧ a.due ≤ s.dt) := by decide +kernel

/-- Values that meet the hypotheses of `PoseEventsComplete`, clause by clause. -/
theorem wit_PoseEventsComplete :
    (let s := { live 3 [(R.IMU_CFG, 0x80000000#32), (R.CAN_CAN_CFG 5, 0x10000000#32), (R.POSEIN_SRC_STAT, 0x10#32)] with
       pose := { Pose.reset with hostQ := [[0#32, 0#32]], n2kGnss := some (0, 0, 0, 0), stillSince := some 0 } }
     s.pose.hostQ = [0#32, 0#32] :: [] ∧ recDT [0#32, 0#32] ≤ s.dt ∧ s.poseSt = 1 ∧
     msDT (s.f R.POSEIN_TIMING 31 16) ≤ (match s.pose.lastQual with | some t => s.dt - t | none => s.dt) ∧
     s.n2kBus = some (5 : Fin 6).val ∧ s.pose.n2kGnss = some (0, 0, 0, 0) ∧ 0 + sDT 2 ≤ s.dt ∧ s.b R.IMU_CFG 31 = true ∧
     s.pose.imuLast = none ∧ s.pose.stillSince = some 0) := by decide +kernel

/-- Values that meet the hypotheses of `HitchAndHistoryComplete`, clause by clause. -/
theorem wit_HitchAndHistoryComplete :
    (let s := live 3 [(R.GEOM_KIN, 0x01001100#32), (R.AING_AIN_CODE 0, 0x80000000#32), (R.AING_AIN_CODE 1, 0x80000000#32)]
     s.isSensed 0 = true ∧ s.isSensed 1 = true ∧ s.sensed 0 ≠ none ∧ s.sensed 1 ≠ none) ∧
    (let s := { live 3 [(R.HIST_RING_MB, 1#32), (R.POSEIN_SRC_STAT, 0x20#32)] with
       pose := { Pose.reset with hitchDiff := [none, some 0], fusedLog := [[0#32, 0#32]] } }
     s.pose.hitchDiff.getD (1 : Fin 2).val none = some 0 ∧ 0 + msDT 500 ≤ s.dt ∧ s.histCap ≠ 0 ∧ s.mode ≠ 0 ∧ s.poseSt ≠ 0 ∧
     s.bracketAt s.pose.histNext = some ([0#32, 0#32], [0#32, 0#32]) ∧ s.pose.histNext + s.staleDT ≤ s.dt) ∧
    ((live 3 [(R.GEOM_KIN, 0x20#32)]).axis = 2) := by decide +kernel

/-- Values that meet the hypotheses of `FrameStagesComplete`, clause by clause. -/
theorem wit_FrameStagesComplete :
    (let s (n : Nat) := { live 3 [] with look := { Look.reset with stage := n, frame := frameOf 25600000000000 } }
     (s 1).stagesRun = true ∧ (s 1).look.stage = 1 ∧ (s 2).stagesRun = true ∧ (s 2).look.stage = 2 ∧ (s 3).stagesRun = true ∧
     (s 3).look.stage = 3 ∧ (s 4).stagesRun = true ∧ (s 4).look.stage ≠ 5 ∧ (s 4).look.frame = frameOf (s 4).dt ∧
     1 ≤ (s 4).look.stage ∧ (s 4).look.stage ≤ 4) := by decide +kernel

/-- Values that meet the hypotheses of `LookCommandsComplete`, clause by clause. -/
theorem wit_LookCommandsComplete :
    (let s := live 2 []
     s.tableFault s.look.staged = none ∧
     Accepts s (cmd []) { CmdSpec.mk' 0x0501 2 2 ((cmd []).badArg [] []) (!(decide (1 ≤ s.mode) && decide (s.mode ≤ 4))) with
         busy := s.b R.OUTLETWIN_SW_STAT 1 || s.look.captured.isSome } ∧
     Accepts s (cmd []) (CmdSpec.mk' 0x0502 2 2 ((cmd []).badArg [] []) (!(decide (1 ≤ s.mode) && decide (s.mode ≤ 4))))) ∧
    (let a : Awaiting := late 7 6
     let s := withTable [] (live 3 [(R.CAN_CAN_CFG 0, 0x80000000#32)])
     let s := { s with look := { s.look with awaiting := [a] } }
     let d := [0xC8#8, 0#8, 0#8, 1#8]
     d.getD 0 0 = 0xC8#8 ∧ s.pathOn (0 : Fin 4).val = true ∧ s.reported (0 : Fin 4).val (0#8).toNat d = some a ∧
     s.look.awaiting.find? (fun a => a.id == (7 : Fin 1024).val && a.kind == 6) = some a ∧ a.due ≤ s.dt) ∧
    (let s := withTable [(0, 0xB0000000#32)] (live 3 [(R.CAN_CAN_CFG 0, 0x80000000#32), (R.CAN_CAN_ADDR 0, 0x10000#32)])
     let s := { s with look := { s.look with queues := [(0, { s.q 0 with newest := true })] } }
     oAct s.tbl (0 : Fin 1024).val = true ∧ s.doneOn 0 = true ∧
     SMap.get (fun _ => (0 : DT)) s.comm.remAt 0 + msDT (s.f R.METER_CFG 23 16) ≤ s.dt ∧
     s.pathSends (remPath s.tbl (oTarget s.tbl 0)) = true ∧ s.tcBus = some (0 : Fin 2).val) ∧
    (let o : OnPeriod := ⟨1023, 0, false, 0, 0, 0, false, true, none, false, 0⟩
     let s := { live 3 [] with look := { Look.reset with opens := [o] } }
     s.look.opens.find? (fun o => o.id == (1023 : Fin 1024).val && !o.dropped) = some o) ∧
    retireSt.look.segs.find? (fun g => retireSt.recHere g.fieldGen && retireSt.sweepReady g.words) = some retireSeg := by
  refine ⟨?_, ?_, ?_, ?_, ?_⟩
  · decide +kernel
  · decide +kernel
  · decide +kernel
  · decide +kernel
  · have h1 : retireSt.recHere retireSeg.fieldGen = true := by decide +kernel
    have h2 : retireSt.sweepReady retireSeg.words = true := State.sweepReady_of_l_zero _ _ (by decide)
    have h3 : retireSt.look.segs = [retireSeg] := by decide +kernel
    rw [h3]; simp only [List.find?, h1, h2, Bool.and_self]

/-- Values that meet the hypotheses of `FieldCommandsComplete`, clause by clause. -/
theorem wit_FieldCommandsComplete :
    (let s := withJob 1 2 2 [] Job.reset
     s.worker 2 = some 0 ∧ s.b (R.JOBS_JOB_STAT 0) 7 = false ∧ (s.job 0).step = 0 ∧ s.jobSt 0 = 2 ∧
     (withJob 1 2 2 [] { Job.reset with step := 1 }).worker 2 = some 0 ∧
     ((withJob 1 2 2 [] { Job.reset with step := 1 }).job 0).step ≠ 0) ∧
    (let s (n : Nat) := (withJob 1 2 2 [] { Job.reset with step := n }).wb (R.JOBS_JOB_STAT 0) 7 true
     let h := ((s 2).stagedFile 0).getD []
     (s 2).stagedFile 0 = some h ∧ hTiles h = 0 ∧ (s 2).activeJob 2 = some 0 ∧ ((s 2).job 0).step = hTiles h + 2 ∧
     ((s 2).backlogGens.filter (· != 0)) = [] ∧ (s 3).stagedFile 0 = some h ∧ ((s 3).job 0).step = hTiles h + 3 ∧
     (s 3).look.stage ≠ 1 ∧ (s 3).look.stage ≠ 2) ∧
    (Accepts (live 2 []) (cmd []) (CmdSpec.mk' 0x0401 2 1 ((cmd []).badArg [] []) (!((live 2 []).mode == 1 || (live 2 []).mode == 2))) ∧
     (withJob 1 3 2 [] Job.reset).worker 3 = some 0 ∧ ((withJob 1 3 2 [] Job.reset).job 0).step ≠ doneStep) ∧
    (let s := withJob 1 4 2 [] Job.reset
     s.b R.LPDDR_CFG 4 = true ∧ s.jobKind (0 : Fin 16).val = 4 ∧ s.jobActive (0 : Fin 16).val = true ∧ (s.job (0 : Fin 16).val).step ≠ doneStep) := by decide +kernel

/-- Values that meet the hypotheses of `MeterCommandsComplete`, clause by clause. -/
theorem wit_MeterCommandsComplete :
    (let c := cmd [(8, 15), (9, 3)]
     Accepts (live 3 []) (cmd []) (CmdSpec.mk' 0x0510 2 2 ((cmd []).badArg [] []) false) ∧
     Accepts (live 3 []) c (CmdSpec.mk' 0x0511 1 1
       (c.badArg [(8, 9)] (need 8 (decide (c.byte 8 < 16)) ++ need 9 (decide (c.byte 9 < 4)))) false) ∧ (live 3 []).pkg.cellar = false) ∧
    (let s := { live 3 [(R.METER_PCFG 3, 0x800000#32)] with meter := { Meter.reset with tgtSince := [none, none, none, some 0] } }
     s.b (R.METER_PCFG (3 : Fin 4).val) 23 = true ∧ s.meter.tgtSince.getD (3 : Fin 4).val none = some 0 ∧ 0 + sDT 2 ≤ s.dt ∧
     s.meter.flowLast.getD 3 none = none) ∧
    (let s (n : Nat) := withJob 4 5 2 [] { Job.reset with step := n, params := List.replicate 56 0#8 }
     (s 1).activeJob 5 = some 0 ∧ ((s 1).job 0).step = 1 ∧ (s 2).activeJob 5 = some 0 ∧ ((s 2).job 0).step = 2 ∧
     ((s 2).job 0).since + sDT 2 ≤ (s 2).dt ∧ (s 3).activeJob 5 = some 0 ∧ ((s 3).job 0).step = 3 ∧
     ((s 3).job 0).since + sDT (((s 3).job 0).num 36 4) ≤ (s 3).dt ∧ (s 4).activeJob 5 = some 0 ∧ ((s 4).job 0).step = 4 ∧
     (s 4).jobSt 0 = 2) ∧
    (let s := withJob 4 5 2 [] { Job.reset with step := 3, params := List.replicate 56 0#8 }
     let c := cmd [(8, 1)]
     let k := CmdSpec.mk' 0x0512 3 2 (c.badArg [(8, 11)] []) false
     s.findJob c.handle.toNat = some 0 ∧ s.calWaits 0 = true ∧ Accepts s c k ∧ (s.acceptedBy c k).findJob c.handle.toNat = some 0) ∧
    (let s := withJob 4 9 2 [] Job.reset
     s.activeJob 9 = some 0 ∧ (s.job 0).step ≠ doneStep ∧ (s.job 0).testChans (s.job 0).step = [] ∧ s.jobSt 0 = 2) ∧
    (let b : Job := { Job.reset with params := testArgs }
     let s := (withJob 4 9 2 [] b).setRegSt 0 2
     s.activeJob 9 = some 0 ∧ (s.job 0).step ≠ doneStep ∧ (s.job 0).testChans (s.job 0).step = 0 :: [] ∧
     16 * ((s.job 0).vals.length + 1) ≤ (s.job 0).num 48 4 ∧
     s.listed ((s.job 0).num 40 8 + 16 * (s.job 0).vals.length) 16 = true ∧ (s.jobClose 0 (regionOf 0) (12000#16).toNat true).2 = true) ∧
    (let s := withJob 4 6 2 [] { Job.reset with buf := [0#32, 0#32], params := List.replicate 56 0#8 }
     s.activeJob 6 = some 0 ∧ (s.job 0).step ≠ doneStep ∧ (s.job 0).num 14 2 ≤ (s.job 0).step ∧ s.jobSt 0 = 2) ∧
    (let s := withJob 4 6 2 [] { Job.reset with buf := [0#32, 0#32], params := sweepArgs }
     s.activeJob 6 = some 0 ∧ (s.job 0).step ≠ doneStep ∧ (s.job 0).step < (s.job 0).num 14 2 ∧ 16 * ((s.job 0).step + 1) ≤ (s.job 0).num 32 4 ∧
     s.listed ((s.job 0).num 24 8 + 16 * (s.job 0).step) 16 = true ∧ (oEn s.tbl 0 && oLocal s.tbl 0) = false) ∧
    (let s := (withTable sweepTable (withJob 4 6 2 [] { Job.reset with buf := [0#32, 0#32], params := sweepArgs })).setRegSt 0 2
     let b := s.job 0
     let id := b.num 12 2 + b.step
     let r := s.jobClose 0 (regionOf (oTarget s.tbl id)) (12000#16).toNat true
     let l := (List.replicate 8 5000#24).map (·.toNat) |>.take (b.num 16 1)
     (oEn s.tbl id && oLocal s.tbl id) = true ∧ r.2 = true ∧ r.1.sweepCode id (b.num 16 1) false l l = 0 ∧ r.1.audCfg 1 = true) := by decide +kernel

/-- Values that meet the hypotheses of `ControlCommandsComplete`, clause by clause. -/
theorem wit_ControlCommandsComplete :
    (let s := { live 3 [(R.LOOP 23 0x044, 3#32), (R.LOOP_SUP_CFG 23, 0x2000001#32)] with
       ctl := { Ctl.reset with loops := Ctl.reset.loops.set 23 { LoopSt.reset with clear := some 0 }, queue := [(5, 23)] } }
     (s.lp (23 : Fin 24).val).clear = some 0 ∧ s.lpSt (23 : Fin 24).val = 3 ∧ s.b (R.LOOP_SUP_CFG 23) 25 = true ∧
     0 + msDT (s.f (R.LOOP_SUP_CFG 23) 15 0) ≤ s.dt ∧ s.ctl.queue = (5, 23) :: [] ∧ s.ctlRuns = true) ∧
    (let s := live 3 [(R.LOOP 23 0x044, 1#32)]
     s.sampleDT (23 : Fin 24).val ≠ none ∧ s.ctlRuns = true ∧ s.lpSt 23 ≠ 0 ∧ ∀ t ∈ s.sampleDT 23, (s.lp 23).last < t) ∧
    (let s := live 3 []
     let c := cmd [(8, 23), (9, 1)]
     let k := CmdSpec.mk' 0x0701 1 0 (c.badArg [(8, 9)]
       ((if c.byte 8 < 24 then [] else [8]) ++ (if c.byte 9 ≤ 2 then [] else [9]))) (!s.modeFits (c.byte 8) (c.byte 9) (s.cmdRole c))
     Accepts s c k ∧ ¬((s.acceptedBy c k).lpSt 23 = 0 ∧ (1 : Nat) = 1 ∧ ((s.acceptedBy c k).lpFault 23).isSome = true)) ∧
    (let s := { live 2 [] with mem := [(0xB00090, 1#8), (0xB000C2, 1#8), (0xB00101, 1#8), (0xB00102, 1#8)] }
     let c := cmd [(8, 23)]
     let o := c.num 12 4
     let k := CmdSpec.mk' 0x0702 2 2 (c.badArg [(8, 8), (12, 15)]
       ((if c.byte 8 < 24 then [] else [8]) ++ (if o % 16 = 0 ∧ o + 1280 ≤ 0x100000 then [] else [12])))
       (s.lpSt 23 == 2 || s.lpSt 23 == 3 || (s.lp 23).cmds.any (fun e => e.2 == 2))
     let t := s.acceptedBy c k
     Accepts s c k ∧
     (List.range 320).find? (fun k => coefBad (imgWord (t.rdWords (sharedBase + o) 320)) (0x100 + 4 * k)) = none ∧ t.lpSt 23 = 0) := by decide +kernel

/-- Values that meet the hypotheses of `GnssEventsComplete`, clause by clause. -/
theorem wit_GnssEventsComplete :
    (let s := { live 3 [] with gnss := { Gnss.reset with link := true, seen := true } }
     s.gnss.link = true ∧ (live 3 []).gnss.link = false ∧ (live 3 []).gnss.seen = false) ∧
    (let s (st : Nat) := (live 3 []).setAnt 1 st
     ((s 1).setBias 1 19).antSt (1 : Fin 2).val = 1 ∧ (19#12).toNat < 20 ∧ ((s 2).setBias 1 20).antSt 1 = 2 ∧ 20 ≤ (20#12).toNat ∧
     (20#12).toNat ≤ 800 ∧ 800 < (801#12).toNat) ∧
    (let s := (live 3 [(R.RFCTL_ANT_CFG, 0x400#32)]).setAnt 1 3
     let s := { s with gnss := { s.gnss with cut := [none, some 0] } }
     s.gnss.cut.getD (1 : Fin 2).val none = some 0 ∧ s.antSt 1 = 3 ∧ s.b R.RFCTL_ANT_CFG (2 + 8 * 1) = true ∧ 0 + sDT 1 ≤ s.dt ∧
     s.gnss.retries.getD 1 0 < 5) ∧
    (let s (st : Nat) := { (live 3 []).setGchSt 255 st with gnss := { Gnss.reset with seen := true } }
     (s 1).gchSt (255 : Fin 256).val = 1 ∧ ((s 1).gch 255).startAt ≤ (s 1).dt ∧ (s 1).gnss.seen = true ∧ (s 2).gchSt 255 = 2 ∧
     (s 2).sampleAt (((s 2).gch 255).n0 + ((s 2).gch 255).coh * 61380) ≤ (s 2).dt) ∧
    (let s (ph : Nat) := (({ withJob 1 1 2 [(R.RFCTL_CHAIN_STAT, 1#32)] Job.reset with
       gnss := { Gnss.reset with ctx := Gnss.reset.ctx.set 3 { GCtx.reset with job := some 0, nsum := 1 } } }).setPhase 3 ph)
     ((s 1).gctx (3 : Fin 4).val).job = some 0 ∧ (s 1).jobSt 0 = 2 ∧ (s 1).ctxPhase 3 = 1 ∧
     ((s 1).gctx 3).nsum ≤ (s 1).f R.ACQ_STAT 6 0 ∧ (s 1).b R.RFCTL_CHAIN_STAT ((s 1).gctx 3).chain = true ∧ (s 1).mode ≠ 3 ∧
     (s 3).ctxPhase 3 = 3 ∧ (s 1).gnss.gone.getD ((s 1).gctx 3).chain none = some 0 ∧ 0 + sDT 1 ≤ (s 1).dt ∧
     (s 2).ctxPhase (3 : Fin 4).val = 2 ∧ ((s 2).gctx 3).cap + msDT ((s 2).gctx 3).nsum ≤ (s 2).dt) := by decide +kernel

/-- Values that meet the hypotheses of `PositioningCompletes`, clause by clause. -/
theorem wit_PositioningCompletes :
    (let s := live 3 []
     s.posnOn = true ∧ s.f R.CLOCK_ISL_STAT 9 8 = 0 ∧ (5#64).toNat ≤ s.dt ∧ s.variant = .g ∧ (4 : Fin 5).val ≠ 0) ∧
    (let c := cmd [(12, 1)]
     Accepts (live 3 []) c (CmdSpec.mk' 0x0A01 1 0 (c.badArg [(8, 13)]
       ((if 0x100000 < c.num 8 4 + c.num 12 2 then [8] else []) ++ (if c.num 12 2 = 0 ∨ 4096 < c.num 12 2 then [12] else []))) false)) ∧
    (let s := { live 3 [] with posn := { Posn.reset with corr := some 0 } }
     s.posnOn = true ∧ s.posn.corr.isSome = true ∧ s.corrOk = false ∧ s.posn.corrLost = false) ∧
    (let s (n : Nat) := { live 3 [] with posn := { Posn.reset with timing := some 0 } }.setTpSt 0 n
     (s 1).posnOn = true ∧ (s 1).timeLost = true ∧ ((s 1).tpSt 0 = 1 ∨ (s 1).tpSt 0 = 2 ∨ (s 1).tpSt 0 = 6) ∧ (s 3).posnOn = true ∧
     (s 3).tpSt 0 = 3 ∧ (s 3).posn.holdAt + sDT ((s 3).f R.TPULSE_HOLDOVER 15 0) ≤ (s 3).dt) := by decide +kernel

/-- Values that meet the hypotheses of `SessionCommandsComplete`, clause by clause. -/
theorem wit_SessionCommandsComplete :
    (let s := { live 1 [] with sec := Sec.reset }
     let c := { cmd [(8, 2)] with sess := 0 }
     let role := c.byte 8
     let o := c.num 12 4
     let k := { CmdSpec.mk' 0x0C01 0 0 (c.badArg [(8, 8), (12, 15)]
         (need 8 (decide (1 ≤ role) && decide (role ≤ 4)) ++ need 12 (decide (o + 64 ≤ 0x100000)))) false with
         locked := s.ifLocked 0 || (role == 4 && !s.osardOk) }
     s.openSlot c = some 0 ∧ (s.acceptedBy c k).openSlot c = some 0 ∧ Accepts s c k) ∧
    (let x : Challenge := ⟨7, 0, 2, 25600000000000⟩
     let s := { live 1 [] with sec := { Sec.reset with chals := [x], keys := Sec.reset.keys.set 0 ⟨2, []⟩ } }
     let c := { cmd [(8, 7)] with sess := 0 }
     let k := CmdSpec.mk' 0x0C02 0 0 (c.badArg [(8, 15)] (need 12 (decide (c.num 12 4 + 96 ≤ 0x100000)))) false
     let t := s.acceptedBy c k
     let u := t.setSec { t.sec with chals := t.sec.chals.erase x }
     s.sec.chals.find? (fun x => x.id == c.num 8 4 && s.openSlot c == some x.slot.val && s.fresh x) = some x ∧ Accepts s c k ∧
     (u.attempt x.slot x.role (u.keyFits x.role (some 0) && (x.role != 4 || u.osardOk))).1 = 0) ∧
    (let s := live 1 []
     let k := CmdSpec.mk' 0x0C03 1 0 ((cmd []).badArg [] []) false
     Accepts s (cmd []) k ∧ (s.acceptedBy (cmd []) k).cmdSlot (cmd []) = some 0) ∧
    (let s := { live 1 [(R.SESSION_SLOT 5, 0x10002#32)] with sec := { Sec.reset with lockUntil := Sec.reset.lockUntil.set 5 (some 0) } }
     s.slotRole (5 : Fin 6).val ≠ 0 ∧ s.sec.lastAct.getD 5 0 + sDT (s.f R.SESSION_CFG 15 0) ≤ s.dt ∧
     s.sec.lockUntil.getD (5 : Fin 6).val none = some 0 ∧ 0 ≤ s.dt) := by decide +kernel

/-- Values that meet the hypotheses of `SecurityCommandsComplete`, clause by clause. -/
theorem wit_SecurityCommandsComplete :
    (let s := live 2 []
     let c := cmd [(9, 4)]
     let o := c.num 12 4
     let first := c.byte 9 == 2 && s.integratorKeys.isEmpty && decide (c.ring.val < 2) && s.mode == 1
     let wrong := need 8 (decide (c.byte 8 ≤ 14)) ++ need 9 (decide (1 ≤ c.byte 9) && decide (c.byte 9 ≤ 4)) ++
       need 12 (decide (o + 96 ≤ 0x100000))
     Accepts s c (CmdSpec.mk' 0x0C10 (if first then 0 else 2) 2 (c.badArg [(8, 9), (12, 15)] wrong) (!first && s.mode != 2))) ∧
    (let s := { live 2 [] with sec := { Sec.reset with keys := Sec.reset.keys.set 14 ⟨2, []⟩ } }
     let c := cmd []
     Accepts s c (CmdSpec.mk' 0x0C11 2 2 (c.badArg [(8, 8)] (need 8 (decide (c.byte 8 ≤ 14))))
         (s.mode != 2 || s.integratorKeys.all (fun i => i == c.byte 8))) ∧
     Accepts s c (CmdSpec.mk' 0x0C12 1 0 (c.badArg [(12, 15)] (need 12 (decide (c.num 12 4 + 97 ≤ 0x100000)))) false) ∧
     Accepts s c (CmdSpec.mk' 0x0C20 2 2 (c.badArg [] []) (s.mode != 2)) ∧
     Accepts s c { CmdSpec.mk' 0x0C21 3 2 (c.badArg [] []) (s.mode != 2) with locked := decide (2 ≤ c.ring.val) } ∧
     Accepts s c (CmdSpec.mk' 0x0C51 3 1 (c.badArg [] []) false)) ∧
    (let s := withJob 1 8 2 [] { Job.reset with params := List.replicate 56 0#8 }
     s.worker 8 = some 0 ∧ s.b (R.JOBS_JOB_STAT 0) 7 = false ∧ s.jobSt 0 = 2 ∧ s.stageRefused ((s.job 0).num 20 4) bootable = none) ∧
    (let s := live 1 [(R.UPDATE_IMG_STAT, 0x18#32)]
     Accepts s (cmd []) (CmdSpec.mk' 0x0C30 3 2 ((cmd []).badArg [] []) (s.mode != 1 || !s.b R.UPDATE_IMG_STAT (3 + s.otherSlot)))) ∧
    (let s := { live 1 [(R.UPDATE_IMG_STAT, 0x4#32)] with sec := { Sec.reset with trialSince := some 0 } }
     Accepts s (cmd []) (CmdSpec.mk' 0x0C31 2 2 ((cmd []).badArg [] []) (!s.onTrial)) ∧ s.onTrial = true ∧
     s.sec.trialSince = some 0 ∧ 0 + sDT (s.f R.UPDATE_CFG 15 0) ≤ s.dt) ∧
    (let s := { live 1 [] with sec := { Sec.reset with audArchived := true } }
     let c := cmd [(8, 1)]
     let k := CmdSpec.mk' 0x0C40 3 0 ((cmd []).badArg [] []) (!([1, 2, 4, 5].contains s.mode) || !s.sec.audArchived)
     Accepts s (cmd []) k ∧ (s.acceptedBy (cmd []) k).audRun 1 = true ∧
     Accepts s (cmd []) (CmdSpec.mk' 0x0C41 2 2 ((cmd []).badArg [] []) (s.mode != 1)) ∧
     Accepts s c { CmdSpec.mk' 0x0C50 (c.byte 8 + 2) 2 (c.badArg [(8, 8)] (need 8 (c.byte 8 == 1 || c.byte 8 == 2)))
         (s.mode != 1 && s.mode != 4) with locked := s.sec.cfgLock }) := by decide +kernel

end Sys2Proof.Tests
end

section
/-!
PROOFS. What a faulting access and a refused configuration write change (03 R53 to R59), with the statements O8 and O10.
-/
namespace Sys2Proof.Machine

/-! ## States that differ in their registers alone -/

/-- Of a state, only registers changed. -/
def State.RegsOnly (s t : State) : Prop := ∃ g, t = { s with regs := g }

namespace State.RegsOnly
variable {s t : State}

theorem refl (s : State) : s.RegsOnly s := ⟨s.regs, rfl⟩
theorem w (h : s.RegsOnly t) (o : Nat) (v : Word) : s.RegsOnly (t.w o v) := by
  obtain ⟨g, rfl⟩ := h; exact ⟨_, rfl⟩
theorem wf (h : s.RegsOnly t) (o hi lo v : Nat) : s.RegsOnly (t.wf o hi lo v) := h.w _ _
theorem satInc (h : s.RegsOnly t) (o hi lo n : Nat) : s.RegsOnly (t.satInc o hi lo n) := h.w _ _
theorem irq (h : s.RegsOnly t) (b i : Nat) : s.RegsOnly (t.irq b i) := h.w _ _
theorem flt (h : s.RegsOnly t) (b i : Nat) : s.RegsOnly (t.flt b i) := h.w _ _
theorem mem_eq (h : s.RegsOnly t) : t.mem = s.mem := by obtain ⟨g, rfl⟩ := h; rfl
theorem dt_eq (h : s.RegsOnly t) : t.dt = s.dt := by obtain ⟨g, rfl⟩ := h; rfl
theorem attic_eq (h : s.RegsOnly t) : t.attic = s.attic := by obtain ⟨g, rfl⟩ := h; rfl

end State.RegsOnly

/-! ## An access that lands on no register (02 R38, 03 R58) -/

/-- What a faulting access may change (03 R59). -/
def accFaultRegs : List Nat := [R.PKG 0x020, R.PKG_ACC_FLT_ADDR, R.PKG_ACC_FLT_INFO]

/-- A faulting access: the capture where no fault of its kinds is latched, then its fault and its count (03 R59). The words
captured are left open: spelt out, they hold numbers that the kernel would unfold. -/
theorem State.accFault_shape (s : State) (o : Origin) (a k : Nat) (wr : Bool) : ∃ v w, s.accFault o a k wr =
    ((if (s.r (R.PKG 0x020) &&& 7#32) = 0 then (s.w R.PKG_ACC_FLT_ADDR v).w R.PKG_ACC_FLT_INFO w else s).flt
      (R.PKG 0) k).satInc R.PKG_ACC_FLT_INFO 31 16 1 := ⟨_, _, rfl⟩

/-- A faulting access changes registers alone. -/
theorem State.accFault_regsOnly (s : State) (o : Origin) (a k : Nat) (wr : Bool) : s.RegsOnly (s.accFault o a k wr) := by
  obtain ⟨v, w, e⟩ := s.accFault_shape o a k wr
  rw [e]
  split
  · exact ((((State.RegsOnly.refl s).w _ _).w _ _).flt _ _).satInc _ _ _ _
  · exact ((State.RegsOnly.refl s).flt _ _).satInc _ _ _ _

/-- A fault is latched beside those latched before. -/
theorem State.r_flt_self (s : State) (b i : Nat) : (s.flt b i).r (b + 0x020) = setBit (s.r (b + 0x020)) i :=
  State.r_wb_self _ _ _ true

theorem setBit_zero (w : Word) : setBit w 0 = w ||| 1#32 := rfl

/-- FLT_STAT of PKG and of CLOCK, as offsets from their pages. -/
theorem pkg_fltStat : R.PKG 0x020 = R.PKG 0 + 0x020 := by decide
theorem clock_fltStat : R.CLOCK 0x020 = R.CLOCK 0 + 0x020 := by decide

/-- A faulting access latches its fault beside those latched before. -/
theorem State.accFault_r_fltStat (s : State) (o : Origin) (a k : Nat) (wr : Bool) :
    (s.accFault o a k wr).r (R.PKG 0x020) = setBit (s.r (R.PKG 0x020)) k := by
  obtain ⟨v, w, e⟩ := s.accFault_shape o a k wr
  rw [e, State.satInc, State.r_wf_ne _ _ _ _ (by decide), pkg_fltStat, State.r_flt_self]
  split
  · rw [State.r_w_ne _ _ (by decide), State.r_w_ne _ _ (by decide)]
  · rfl

theorem State.accFault_r_ne (s : State) (o : Origin) (a k : Nat) (wr : Bool) {n : Nat} (h : n ∉ accFaultRegs) :
    (s.accFault o a k wr).r n = s.r n := by
  simp only [accFaultRegs, List.mem_cons, List.not_mem_nil, or_false, not_or] at h
  obtain ⟨hflt, haddr, hinfo⟩ := h
  obtain ⟨v, w, e⟩ := s.accFault_shape o a k wr
  rw [e, State.satInc, State.r_wf_ne _ _ _ _ hinfo, State.r_flt_ne _ _ (pkg_fltStat ▸ hflt)]
  split
  · rw [State.r_w_ne _ _ hinfo, State.r_w_ne _ _ haddr]
  · rfl

/-- An access to an unimplemented offset is a faulting access of fault ACCESS, and a read returns 0 (03 R58). -/
theorem State.access_absent {s : State} {a : Nat} (o : Origin) (wr : Bool) (ha : s.answers = true)
    (ht : s.target (a - a % 4) = .absent) : s.access o a wr =
      if wr then (s.touchAcc o).accFault o a 0 true else (s.accFault o a 0 false).returns [0] := by
  cases wr <;> simp [State.access, State.regWrite, State.readBy, State.regRead, ha, ht]

/-- An access to a gated page latches its fault in CLOCK, and a read returns 0 (02 R38). -/
theorem State.access_gated {s : State} {a : Nat} (o : Origin) (wr : Bool) (ha : s.answers = true)
    (ht : s.target (a - a % 4) = .gated) : s.access o a wr =
      if wr then (s.touchAcc o).flt (R.CLOCK 0) 1 else (s.flt (R.CLOCK 0) 1).returns [0] := by
  cases wr <;> simp [State.access, State.regWrite, State.readBy, State.regRead, ha, ht]

@[simp] theorem State.returns_r (s : State) (l : List Word) (k : Nat) : (s.returns l).r k = s.r k := rfl
@[simp] theorem State.returns_fltB (s : State) (l : List Word) (b i : Nat) : (s.returns l).fltB b i = s.fltB b i := rfl
@[simp] theorem State.returns_mem (s : State) (l : List Word) : (s.returns l).mem = s.mem := rfl
@[simp] theorem State.returns_dt (s : State) (l : List Word) : (s.returns l).dt = s.dt := rfl
@[simp] theorem State.returns_readData (s : State) (l : List Word) : (s.returns l).host.readData = l := rfl

@[simp] theorem State.accFault_mem (s : State) (o : Origin) (a k : Nat) (wr : Bool) : (s.accFault o a k wr).mem = s.mem :=
  (s.accFault_regsOnly o a k wr).mem_eq
@[simp] theorem State.accFault_dt (s : State) (o : Origin) (a k : Nat) (wr : Bool) : (s.accFault o a k wr).dt = s.dt :=
  (s.accFault_regsOnly o a k wr).dt_eq

@[simp] theorem State.touchAcc_mem (s : State) (o : Origin) : (s.touchAcc o).mem = s.mem := by
  obtain ⟨x, e⟩ := s.touchAcc_frame o; rw [e]
@[simp] theorem State.touchAcc_dt (s : State) (o : Origin) : (s.touchAcc o).dt = s.dt := by
  obtain ⟨x, e⟩ := s.touchAcc_frame o; rw [e]
@[simp] theorem State.touchAcc_attic (s : State) (o : Origin) : (s.touchAcc o).attic = s.attic := by
  obtain ⟨x, e⟩ := s.touchAcc_frame o; rw [e]
@[simp] theorem State.touchAcc_look (s : State) (o : Origin) : (s.touchAcc o).look = s.look := by
  obtain ⟨x, e⟩ := s.touchAcc_frame o; rw [e]
@[simp] theorem State.touchAcc_meter (s : State) (o : Origin) : (s.touchAcc o).meter = s.meter := by
  obtain ⟨x, e⟩ := s.touchAcc_frame o; rw [e]

/-- What an access to an unimplemented offset changes: ACCESS, its capture and what a read returns (03 R58, R59). -/
theorem State.access_absent_shows {s : State} {a : Nat} (o : Origin) (wr : Bool) (ha : s.answers = true)
    (ht : s.target (a - a % 4) = .absent) :
    (s.access o a wr).r (R.PKG 0x020) = setBit (s.r (R.PKG 0x020)) 0 ∧
      (wr = false → (s.access o a wr).host.readData = [0]) ∧ (s.access o a wr).mem = s.mem ∧ (s.access o a wr).dt = s.dt ∧
      ∀ k, k ∉ accFaultRegs → (s.access o a wr).r k = s.r k := by
  rw [State.access_absent o wr ha ht]
  cases wr with
  | false =>
    rw [if_neg Bool.false_ne_true]
    exact ⟨(State.returns_r _ _ _).trans (s.accFault_r_fltStat o a 0 false), fun _ => State.returns_readData _ _,
      (State.returns_mem _ _).trans (s.accFault_mem o a 0 false), (State.returns_dt _ _).trans (s.accFault_dt o a 0 false),
      fun k hk => (State.returns_r _ _ _).trans (s.accFault_r_ne o a 0 false hk)⟩
  | true =>
    rw [if_pos rfl]
    refine ⟨?_, nofun, ?_, ?_, fun k hk => ?_⟩
    · rw [State.accFault_r_fltStat, State.touchAcc_r]
    · rw [State.accFault_mem, State.touchAcc_mem]
    · rw [State.accFault_dt, State.touchAcc_dt]
    · rw [State.accFault_r_ne _ _ _ _ _ hk, State.touchAcc_r]

/-- What an access to a gated page changes: the fault in CLOCK and what a read returns (02 R38). -/
theorem State.access_gated_shows {s : State} {a : Nat} (o : Origin) (wr : Bool) (ha : s.answers = true)
    (ht : s.target (a - a % 4) = .gated) :
    (s.access o a wr).fltB (R.CLOCK 0) 1 = true ∧ (wr = false → (s.access o a wr).host.readData = [0]) ∧
      (s.access o a wr).mem = s.mem ∧ ∀ k, k ≠ R.CLOCK 0x020 → (s.access o a wr).r k = s.r k := by
  rw [State.access_gated o wr ha ht, clock_fltStat]
  cases wr with
  | false =>
    rw [if_neg Bool.false_ne_true]
    exact ⟨(State.returns_fltB _ _ _ _).trans (State.flt_latched _ _ _ (by decide)), fun _ => State.returns_readData _ _,
      (State.returns_mem _ _).trans (State.flt_mem _ _ _), fun k hk => (State.returns_r _ _ _).trans (State.r_flt_ne s 1 hk)⟩
  | true =>
    rw [if_pos rfl]
    refine ⟨State.flt_latched _ _ _ (by decide), nofun, ?_, fun k hk => ?_⟩
    · rw [State.flt_mem, State.touchAcc_mem]
    · rw [State.r_flt_ne _ _ hk, State.touchAcc_r]

/-- The words a read returned outlive `settle`. -/
@[simp] theorem settle_readData (s : State) : (settle s).host.readData = s.host.readData := by rw [settle_host]

/-- A fault outlives `settle`. -/
theorem settle_fltB (s : State) {b : Nat} (i : Nat) (h1 : b + 0x020 ≠ R.IRQROUTE_VEC_ARMED 0)
    (h2 : b + 0x020 ≠ R.PCIE_MSIX_PBA) : (settle s).fltB b i = s.fltB b i := by
  rw [State.fltB, State.b, settle_r s h1 h2]; rfl

/-- Where its condition holds, UNIMPL_OFFSET_ACCESS is the access. -/
theorem runs_unimplOffsetAccess {s : State} {a : BitVec 24} (o : Origin) (wr : Bool)
    (ht : s.target (a.toNat - a.toNat % 4) = .absent) : Runs (.unimplOffsetAccess o a wr) s (s.access o a.toNat wr) := by
  show execUnimplOffsetAccess o a wr s = _
  rw [execUnimplOffsetAccess, if_pos ht]; rfl

/-- Where its condition holds, GATED_ACCESS is the access. -/
theorem runs_gatedAccess {s : State} {a : BitVec 24} (o : Origin) (wr : Bool)
    (ht : s.target (a.toNat - a.toNat % 4) = .gated) : Runs (.gatedAccess o a wr) s (s.access o a.toNat wr) := by
  show execGatedAccess o a wr s = _
  rw [execGatedAccess, if_pos ht]; rfl

/-- No GNSS page of a CZT-4192N is implemented (03 R40). -/
theorem State.target_gnss_absent {s : State} {a : Nat} (hv : s.variant = .n) (hd : a / 0x100000 = 0xA) :
    s.target a = .absent := by
  unfold State.target
  split
  · rfl
  · next p hp =>
    have hdom : p.domain = 0xA := by
      have := List.find?_some hp
      simp only [hd, Bool.and_eq_true, beq_iff_eq] at this
      exact this.1.1
    rw [if_pos ⟨hv, hdom⟩]

/-- Settles O8: an absent access is `accFault` of ACCESS, a gated one latches its fault in CLOCK, and `settle` leaves both. -/
theorem unimplementedAccess : Obligations.UnimplementedAccess := by
  unfold Obligations.UnimplementedAccess
  refine ⟨fun o a wr s ha ht => ⟨_, runs_unimplOffsetAccess o wr ht, ?_⟩,
    fun o a wr s ha ht => ⟨_, runs_gatedAccess o wr ht, ?_⟩, fun s a hv hd => State.target_gnss_absent hv hd⟩
  · obtain ⟨hacc, hread, hmem, hdt, hreg⟩ := State.access_absent_shows o wr ha ht
    refine ⟨?_, fun h => ?_, ?_, ?_, fun k hk => ?_⟩
    · rw [settle_r _ (by decide) (by decide), hacc, setBit_zero]
    · rw [settle_readData, hread h]
    · rw [settle_mem, hmem]
    · rw [settle_dt, hdt]
    · simp only [List.mem_cons, List.not_mem_nil, or_false, not_or] at hk
      obtain ⟨hflt, haddr, hinfo, harm, hpba⟩ := hk
      rw [settle_r _ harm hpba, hreg k (by simp [accFaultRegs, hflt, haddr, hinfo])]
  · obtain ⟨hflt, hread, hmem, hreg⟩ := State.access_gated_shows o wr ha ht
    refine ⟨?_, fun h => ?_, ?_, fun k hk => ?_⟩
    · rw [settle_fltB _ _ (by decide) (by decide), hflt]
    · rw [settle_readData, hread h]
    · rw [settle_mem, hmem]
    · simp only [List.mem_cons, List.not_mem_nil, or_false, not_or] at hk
      obtain ⟨hclk, harm, hpba⟩ := hk
      rw [settle_r _ harm hpba, hreg k hclk]

end Sys2Proof.Machine
end

section
/-!
PROOFS. What a staged event record and a refused configuration write change, register writes and record writes through a
window alike (03 R53, R55), with the statement O10.
-/
namespace Sys2Proof.Machine

/-! ## Event records (20 R423, R425) -/

/-- The registers that staging a record of a source may change. -/
def eventRegs (src : Nat) : List Nat := [suppOfs src, R.EVR_FIFO, R.EVR_LOST, R.EVR 0 + 0x020, R.EVR 0 + 0x010]

/-- Of a state, only registers and the event FIFO changed. -/
def State.RegsAndFifo (s t : State) : Prop := ∃ g q, t = { s with regs := g, attic := { s.attic with fifo := q } }

theorem State.RegsOnly.regsAndFifo {s t : State} (h : s.RegsOnly t) : s.RegsAndFifo t := by
  obtain ⟨g, rfl⟩ := h; exact ⟨g, s.attic.fifo, rfl⟩

theorem State.RegsOnly.setFifo {s t : State} (h : s.RegsOnly t) (q : List (List Word)) :
    s.RegsAndFifo { t with attic := { t.attic with fifo := q } } := by
  obtain ⟨g, rfl⟩ := h; exact ⟨g, q, rfl⟩

theorem State.RegsOnly.trans_regsAndFifo {s t u : State} (h : s.RegsOnly t) (h' : t.RegsAndFifo u) : s.RegsAndFifo u := by
  obtain ⟨g, rfl⟩ := h; obtain ⟨g', q, rfl⟩ := h'; exact ⟨g', q, rfl⟩

/-- Staging a record changes registers and the FIFO alone. -/
theorem State.event_regsAndFifo (s : State) (src typ sev code : Nat) (w5 w6 : Word) :
    s.RegsAndFifo (s.event src typ sev code w5 w6) := by
  have hsupp (n : Nat) : s.RegsOnly (s.setSupp src n) := (State.RegsOnly.refl s).wf _ _ _ _
  unfold State.event
  split
  · dsimp only
    split
    · exact ((hsupp 0).wf _ _ _ _).setFifo _
    · exact (hsupp 0).setFifo _
  · dsimp only
    split
    · exact ((((hsupp _).w _ _).flt _ _).irq _ _).regsAndFifo
    · exact ((hsupp _).w _ _).regsAndFifo

/-- A FIFO with room takes the record at its end. -/
theorem State.event_fifo {s : State} (h : s.attic.fifo.length < 32) (src typ sev code : Nat) (w5 w6 : Word) :
    (s.event src typ sev code w5 w6).attic.fifo = s.attic.fifo ++ [s.eventRec src typ sev code w5 w6] := by
  unfold State.event
  generalize s.eventRec src typ sev code w5 w6 = ev
  rw [if_pos h]
  dsimp only
  split <;> rfl

theorem State.r_attic (s : State) (x : Attic) (k : Nat) : ({ s with attic := x } : State).r k = s.r k := rfl

theorem State.event_r_ne (s : State) {src k : Nat} (typ sev code : Nat) (w5 w6 : Word) (h : k ∉ eventRegs src) :
    (s.event src typ sev code w5 w6).r k = s.r k := by
  simp only [eventRegs, List.mem_cons, List.not_mem_nil, or_false, not_or] at h
  obtain ⟨hsupp, hfifo, hlost, hflt, hirq⟩ := h
  have setSupp_r (n : Nat) : (s.setSupp src n).r k = s.r k := State.r_wf_ne _ _ _ _ hsupp
  unfold State.event
  generalize s.eventRec src typ sev code w5 w6 = ev
  split
  · dsimp only
    split
    · rw [State.r_attic, State.r_wf_ne _ _ _ _ hfifo, setSupp_r]
    · rw [State.r_attic, setSupp_r]
  · dsimp only
    split
    · rw [State.r_irq_ne _ _ hirq, State.r_flt_ne _ _ hflt, State.r_w_ne _ _ hlost, setSupp_r]
    · rw [State.r_w_ne _ _ hlost, setSupp_r]

/-- Word 0 of an event record holds its type, source, severity and code. -/
theorem State.nth_eventRec_zero (s : State) (src typ sev code : Nat) (w5 w6 : Word) :
    nth (s.eventRec src typ sev code w5 w6) 0 = nw (typ * 2 ^ 28 + src * 2 ^ 24 + sev * 2 ^ 20 + code) := rfl

theorem State.nth_eventRec_five (s : State) (src typ sev code : Nat) (w5 w6 : Word) :
    nth (s.eventRec src typ sev code w5 w6) 5 = w5 := rfl

/-! ## The halves of a word that a count and its capture share -/

theorem setFld_upper_toNat (w : Word) (v : Nat) :
    (setFld w 31 16 v).toNat = v % 2 ^ 16 * 2 ^ 16 + w.toNat % 2 ^ 16 := by
  have := w.isLt
  simp only [setFld, fld, Nat.shiftRight_eq_div_pow, BitVec.toNat_ofNat]
  omega

theorem fld_setFld_upper (w : Word) (v : Nat) : fld (setFld w 31 16 v) 31 16 = v % 2 ^ 16 := by
  simp only [fld, setFld_upper_toNat, Nat.shiftRight_eq_div_pow]
  omega

theorem fld_setFld_lower (w : Word) (v : Nat) : fld (setFld w 31 16 v) 15 0 = fld w 15 0 := by
  simp only [fld, setFld_upper_toNat, Nat.shiftRight_zero]
  omega

theorem fld_setFld_lowest (w : Word) (v : Nat) : fld (setFld w 31 16 v) 3 0 = fld w 3 0 := by
  simp only [fld, setFld_upper_toNat, Nat.shiftRight_zero]
  omega

/-- A count of 16 bits that was raised by one reads so, up to its largest value. -/
theorem fld_setFld_satAdd (w : Word) (n : Nat) : fld (setFld w 31 16 (satAdd 16 n 1)) 31 16 = min (n + 1) 0xFFFF := by
  rw [fld_setFld_upper, satAdd]
  omega

/-! ## A refused configuration write (03 R55, R59) -/

/-- A refused write with the words it captures and stages left open: spelt out, they hold numbers that the kernel would
unfold. -/
def State.refuseWith (s : State) (addr info ev : Word) : State :=
  (((if s.fltB (R.PKG 0) 3 then s else (s.w R.PKG_REFUSED_ADDR addr).w R.PKG_REFUSED_INFO info).flt (R.PKG 0) 3).satInc
    R.PKG_REFUSED_INFO 31 16 1).evNow 0x04 ev

theorem State.cfgRefused_eq (s : State) (o : Origin) (a reason : Nat) : s.cfgRefused o a reason =
    s.refuseWith (nw (o.code * 2 ^ 24 + a)) (nw reason) (nw (reason * 2 ^ 28 + a)) := rfl

/-- The capture, the fault and the count of a refused write change registers alone. -/
theorem State.refuse_regsOnly (s : State) (addr info : Word) : s.RegsOnly
    (((if s.fltB (R.PKG 0) 3 then s else (s.w R.PKG_REFUSED_ADDR addr).w R.PKG_REFUSED_INFO info).flt (R.PKG 0) 3).satInc
      R.PKG_REFUSED_INFO 31 16 1) := by
  split
  · exact ((State.RegsOnly.refl s).flt _ _).satInc _ _ _ _
  · exact ((((State.RegsOnly.refl s).w _ _).w _ _).flt _ _).satInc _ _ _ _

/-- The registers of PKG that a refused write changes. -/
def refusedRegs : List Nat := [R.PKG 0 + 0x020, R.PKG_REFUSED_ADDR, R.PKG_REFUSED_INFO]

/-- A refused write changes registers and the event FIFO alone. -/
theorem State.refuseWith_regsAndFifo (s : State) (addr info ev : Word) : s.RegsAndFifo (s.refuseWith addr info ev) :=
  (s.refuse_regsOnly addr info).trans_regsAndFifo (State.event_regsAndFifo _ _ _ _ _ _ _)

/-- Outside the event recorder's registers, a refused write leaves what its capture, fault and count leave. -/
theorem State.refuseWith_r (s : State) (addr info ev : Word) {k : Nat} (h : k ∉ eventRegs 0) :
    (s.refuseWith addr info ev).r k =
      (((if s.fltB (R.PKG 0) 3 then s else (s.w R.PKG_REFUSED_ADDR addr).w R.PKG_REFUSED_INFO info).flt (R.PKG 0) 3).satInc
        R.PKG_REFUSED_INFO 31 16 1).r k := State.event_r_ne _ _ _ _ _ _ h

theorem State.refuseWith_r_ne (s : State) (addr info ev : Word) {k : Nat} (h : k ∉ refusedRegs ++ eventRegs 0) :
    (s.refuseWith addr info ev).r k = s.r k := by
  simp only [refusedRegs, List.mem_append, List.mem_cons, List.not_mem_nil, or_false, not_or] at h
  obtain ⟨⟨hflt, haddr, hinfo⟩, hev⟩ := h
  rw [State.refuseWith_r _ _ _ _ hev, State.satInc, State.r_wf_ne _ _ _ _ hinfo, State.r_flt_ne _ _ hflt]
  split
  · rfl
  · rw [State.r_w_ne _ _ hinfo, State.r_w_ne _ _ haddr]

theorem State.refuseWith_fltB (s : State) (addr info ev : Word) : (s.refuseWith addr info ev).fltB (R.PKG 0) 3 = true := by
  rw [State.fltB, State.b, State.refuseWith_r _ _ _ _ (by decide), State.satInc, State.r_wf_ne _ _ _ _ (by decide)]
  exact State.flt_latched _ _ _ (by decide)

theorem State.refuseWith_r_addr (s : State) (addr info ev : Word) : (s.refuseWith addr info ev).r R.PKG_REFUSED_ADDR =
    if s.fltB (R.PKG 0) 3 then s.r R.PKG_REFUSED_ADDR else addr := by
  rw [State.refuseWith_r _ _ _ _ (by decide), State.satInc, State.r_wf_ne _ _ _ _ (by decide),
    State.r_flt_ne _ _ (by decide)]
  split
  · rfl
  · rw [State.r_w_ne _ _ (by decide), State.r_w_self]

theorem State.refuseWith_r_info (s : State) (addr info ev : Word) : (s.refuseWith addr info ev).r R.PKG_REFUSED_INFO =
    let w := if s.fltB (R.PKG 0) 3 then s.r R.PKG_REFUSED_INFO else info
    setFld w 31 16 (satAdd 16 (fld w 31 16) 1) := by
  rw [State.refuseWith_r _ _ _ _ (by decide), State.satInc, State.r_wf_self, State.f, State.r_flt_ne _ _ (by decide)]
  split <;> simp

/-- An event FIFO with room takes the record of the refusal. -/
theorem State.refuseWith_fifo {s : State} (h : s.attic.fifo.length < 32) (addr info ev : Word) : ∃ l,
    (s.refuseWith addr info ev).attic.fifo = s.attic.fifo ++ [l] ∧ nth l 0 = nw 0x2010C004 ∧ nth l 5 = ev := by
  unfold State.refuseWith State.evNow State.evNamed
  have hq := (s.refuse_regsOnly addr info).attic_eq
  refine ⟨_, (State.event_fifo (by rw [hq]; exact h) _ _ _ _ _ _).trans (by rw [hq]), ?_, State.nth_eventRec_five _ _ _ _ _ _ _⟩
  rw [State.nth_eventRec_zero]; rfl

/-- A refused write shows of itself what 03 R55 says. -/
theorem State.cfgRefused_refusedTo (s : State) (o : Origin) (a : Nat) {reason : Nat} (hr : reason < 16) :
    s.refusedTo (s.cfgRefused o a reason) o a reason := by
  rw [State.cfgRefused_eq]
  refine ⟨State.refuseWith_fltB _ _ _ _, fun h => ?_, fun h => ⟨?_, ?_, ?_⟩, fun h => ⟨?_, ?_, ?_⟩⟩
  · obtain ⟨l, hl, h0, h5⟩ := State.refuseWith_fifo h (nw (o.code * 2 ^ 24 + a)) (nw reason) (nw (reason * 2 ^ 28 + a))
    exact ⟨l, hl, by rw [h0]; decide, by rw [h0]; decide, h5⟩
  · rw [State.refuseWith_r_addr, h]; rfl
  · rw [State.f, State.refuseWith_r_info]
    simp only [h, Bool.false_eq_true, if_false, fld_setFld_satAdd]
    simp only [fld, nw, BitVec.toNat_ofNat, Nat.shiftRight_eq_div_pow]
    omega
  · rw [State.f, State.refuseWith_r_info]
    simp only [h, Bool.false_eq_true, if_false, fld_setFld_lowest]
    simp only [fld, nw, BitVec.toNat_ofNat, Nat.shiftRight_zero]
    omega
  · rw [State.refuseWith_r_addr, if_pos h]
  · simp only [State.f, State.refuseWith_r_info, h, if_true, fld_setFld_satAdd]
  · simp only [State.f, State.refuseWith_r_info, h, if_true, fld_setFld_lower]

theorem State.cfgRefused_regsAndFifo (s : State) (o : Origin) (a reason : Nat) : s.RegsAndFifo (s.cfgRefused o a reason) := by
  rw [State.cfgRefused_eq]; exact State.refuseWith_regsAndFifo _ _ _ _

@[simp] theorem State.cfgRefused_mem (s : State) (o : Origin) (a n : Nat) : (s.cfgRefused o a n).mem = s.mem := by
  obtain ⟨g, q, e⟩ := s.cfgRefused_regsAndFifo o a n; rw [e]
@[simp] theorem State.cfgRefused_look (s : State) (o : Origin) (a n : Nat) : (s.cfgRefused o a n).look = s.look := by
  obtain ⟨g, q, e⟩ := s.cfgRefused_regsAndFifo o a n; rw [e]
@[simp] theorem State.cfgRefused_meter (s : State) (o : Origin) (a n : Nat) : (s.cfgRefused o a n).meter = s.meter := by
  obtain ⟨g, q, e⟩ := s.cfgRefused_regsAndFifo o a n; rw [e]

/-- What a refused write shows depends on the registers and the event FIFO before and after it alone. -/
theorem State.refusedTo_congr {s s' t t' : State} {o : Origin} {a reason : Nat} (h : s.refusedTo t o a reason)
    (hs : ∀ k ∈ refusedRegs, s'.r k = s.r k) (hsq : s'.attic.fifo = s.attic.fifo)
    (ht : ∀ k ∈ refusedRegs, t'.r k = t.r k) (htq : t'.attic.fifo = t.attic.fifo) : s'.refusedTo t' o a reason := by
  simpa only [State.refusedTo, State.fltB, State.b, State.f, hs _ (.head _), hs _ (.tail _ (.head _)),
    hs _ (.tail _ (.tail _ (.head _))), ht _ (.head _), ht _ (.tail _ (.head _)), ht _ (.tail _ (.tail _ (.head _))),
    hsq, htq] using h

/-! ## Which writes are refused (03 R53) -/

/-- Checks 1 to 3 refuse for the reasons 1, 2 and 4. -/
theorem State.cfgGate_le {s : State} {o : Origin} {i : RegInfo} {a reason : Nat} {rws : Bool}
    (h : s.cfgGate o i a rws = some reason) : reason ≤ 4 := by
  unfold State.cfgGate at h
  split at h
  · cases h; decide
  · split at h
    · cases h; decide
    · split at h
      · cases h; decide
      · split at h
        · cases h; decide
        · cases h

/-- A configuration register is no window word and has a configuration field. -/
theorem isConfig_spec {a : Nat} {i : RegInfo} (hi : regInfo a = some i) (h : isConfig a = true) :
    i.win = none ∧ i.fields.any (fun f => RegType.isCfg f.ty) = true := by
  simpa [isConfig, hi] using h

/-- A write of a configuration register outside the headers and the DMA pages goes through the checks of 03 R53. -/
theorem State.landWrite_config {s : State} {o : Origin} {a : Nat} {v : Word} {i : RegInfo} (hw : i.win = none)
    (hd : i.page.kind ≠ .dma) (h40 : 0x40 ≤ a % 0x1000)
    (hu : i.unit.isSome = true → 0x20 ≤ a - frameBase i.page i.base (i.unit.getD 0))
    (hc : i.fields.any (fun f => RegType.isCfg f.ty) = true) : s.landWrite o i a v = s.cfgWrite o i a v := by
  have hu' : ¬(i.unit.isSome = true ∧ a - frameBase i.page i.base (i.unit.getD 0) < 0x20) :=
    fun ⟨h1, h2⟩ => absurd (hu h1) (Nat.not_le.mpr h2)
  unfold State.landWrite
  simp only [hw, hd, false_and, if_false, Nat.not_lt.mpr h40, hu', hc, if_true]

/-- A refused register write does what 03 R55 says and nothing else: the checks in their order. -/
theorem State.cfgWrite_refused {s : State} {o : Origin} {i : RegInfo} {a reason : Nat} {v : Word}
    (h : let gate := s.cfgGate o i a (i.fields.any (fun f => f.ty == .rws))
      let new := s.cfgValue i a v
      gate = some reason ∨
        (gate = none ∧ s.stateOk i a new = false ∧ reason = 2) ∨
        (gate = none ∧ s.stateOk i a new = true ∧ s.valueOk i a new = false ∧ reason = 5) ∨
        (gate = none ∧ s.stateOk i a new = true ∧ s.valueOk i a new = true ∧ new ≠ s.r a ∧ s.audCfg 1 = false ∧
          reason = 3)) :
    s.cfgWrite o i a v = s.cfgRefused o a reason ∧ reason < 16 := by
  unfold State.cfgWrite
  obtain hg | ⟨hg, hs, rfl⟩ | ⟨hg, hs, hv, rfl⟩ | ⟨hg, hs, hv, hn, ha, rfl⟩ := h
  · exact ⟨by simp only [hg], Nat.lt_of_le_of_lt (State.cfgGate_le hg) (by decide)⟩
  · simp [hg, hs]
  · simp [hg, hs, hv]
  · simp [hg, hs, hv, hn, ha]

/-- A refused record write does what 03 R55 says and nothing else: the checks in their order. -/
theorem State.recordWrite_refused {s : State} {o : Origin} {i : RegInfo} {w : WinSpec} {k reason : Nat} {l : List Word}
    (h : let ofs := i.base + w.ofs + 4 * (w.words + 1)
      let ch := (List.range w.words).filter (fun n => nth (s.winOld w.id k) n != nth l n)
      let gate := s.cfgGate o i ofs (w.cls == .rws)
      gate = some reason ∨ (gate = none ∧ s.recordOk w.id l = false ∧ reason = 5) ∨
        (gate = none ∧ s.recordOk w.id l = true ∧ ch ≠ [] ∧ s.audCfg (audParts ch.length) = false ∧ reason = 3)) :
    s.recordWrite o i w k l = s.cfgRefused o (i.base + w.ofs + 4 * (w.words + 1)) reason ∧ reason < 16 := by
  unfold State.recordWrite
  obtain hg | ⟨hg, hr, rfl⟩ | ⟨hg, hr, hc, ha, rfl⟩ := h
  · exact ⟨by simp only [hg], Nat.lt_of_le_of_lt (State.cfgGate_le hg) (by decide)⟩
  · simp [hg, hr]
  · simp only [hg, hr, ha, List.isEmpty_iff, hc, Bool.not_true, Bool.not_false, Bool.false_eq_true, if_true, if_false,
      true_and]
    decide

/-! ## A master's side of a window (03 R49, R50) -/

/-- Fetching a record takes free values alone. -/
theorem State.winFetch_frame (s : State) (w : WinSpec) (anchor k : Nat) :
    ∃ n, (s.winFetch w anchor k).2 = { s with freeCtr := n } := by
  have fold_frame (l : List Nat) (acc : List Word) (n : Nat) : ∃ n',
      (l.foldl (fun (a : List Word × State) _ => let x := a.2.freeBits 32; (a.1 ++ [nw x.1], x.2))
        (acc, { s with freeCtr := n })).2 = { s with freeCtr := n' } := by
    induction l generalizing acc n with
    | nil => exact ⟨n, rfl⟩
    | cons _ l ih => exact ih _ (n + 1)
  unfold State.winFetch
  split
  · exact ⟨s.freeCtr, rfl⟩
  · split
    · exact fold_frame _ [] s.freeCtr
    · exact ⟨s.freeCtr, rfl⟩

/-- Taking a snapshot changes the windows and the free values taken alone. -/
theorem State.winSnap_frame (s : State) (m o : Nat) (w : WinSpec) (x : WinState) :
    ∃ h n, s.winSnap m o w x = { s with host := h, freeCtr := n } := by
  obtain ⟨n, e⟩ := s.winFetch_frame w x.anchor x.cursor
  unfold State.winSnap State.setWin
  simp only [e]
  exact ⟨_, n, rfl⟩

theorem State.winOpen_frame (s : State) (m o : Nat) (w : WinSpec) :
    ∃ h n, s.winOpen m o w = { s with host := h, freeCtr := n } := by
  unfold State.winOpen
  dsimp only
  split
  · exact State.winSnap_frame _ _ _ _ _
  · exact ⟨s.host, s.freeCtr, rfl⟩

/-- Neither keeping the session alive nor taking the snapshot touches a table, memory, the event FIFO or a register. -/
theorem State.touchAcc_winOpen_keeps (s : State) (o : Origin) (c : Nat) (w : WinSpec) :
    ((s.touchAcc o).winOpen o.master c w).look = s.look ∧ ((s.touchAcc o).winOpen o.master c w).meter = s.meter ∧
      ((s.touchAcc o).winOpen o.master c w).mem = s.mem ∧ ((s.touchAcc o).winOpen o.master c w).attic = s.attic ∧
      ∀ k, ((s.touchAcc o).winOpen o.master c w).r k = s.r k := by
  obtain ⟨h, n, e⟩ := (s.touchAcc o).winOpen_frame o.master c w
  rw [e]
  exact ⟨s.touchAcc_look o, s.touchAcc_meter o, s.touchAcc_mem o, s.touchAcc_attic o, s.touchAcc_r o⟩

/-- Storing a master's side of a window and advancing its CURSOR change the windows and the free values taken alone. -/
theorem State.setWin_winNext_frame (s : State) (m o : Nat) (w : WinSpec) (x : WinState) :
    ∃ h n, (s.setWin m o x).winNext m o w = { s with host := h, freeCtr := n } := by
  obtain ⟨h, n, e⟩ := (s.setWin m o x).winSnap_frame m o w
    { (s.setWin m o x).win m o with cursor := ((s.setWin m o x).win m o).cursor + 1 }
  exact ⟨h, n, by rw [State.winNext, e]; rfl⟩

/-- A write of the last word of a window offers the record, then puts the CURSOR on the next one. -/
theorem State.winWrite_last {s : State} {o : Origin} {i : RegInfo} {w : WinSpec} {j : Nat} {v : Word}
    (hj : j + 1 = w.words) (hc : w.cls ≠ .ro)
    (he : (s.winOpen o.master (i.base + w.ofs) w).winEnd o.master (i.base + w.ofs) w = false) :
    s.winWrite o i w j v =
      let c := i.base + w.ofs
      let t := s.winOpen o.master c w
      let x := t.win o.master c
      ((t.recordWrite o i w x.cursor (x.offered w.words v)).setWin o.master c { x with staged := [] }).winNext o.master c w := by
  have hlt : ¬ j + 1 < w.words := by omega
  simp only [State.winWrite, hc, he, hlt, Bool.false_eq_true, or_self, if_false]

/-- The windows whose records software may write. -/
def writableWins : List WinId := [.outlet, .sect, .remote, .rate, .nozzle, .injector]

theorem pageTable_writable : ∀ p ∈ pageTable, ∀ w ∈ p.wins, w.cls ≠ .ro → w.id ∈ writableWins := by decide +kernel

/-- A window word belongs to a window of the register map. -/
theorem regInfo_win {a : Nat} {i : RegInfo} {w : WinSpec} {n : Nat} (hi : regInfo a = some i) (hw : i.win = some (w, n)) :
    ∃ p ∈ pageTable, w ∈ p.wins := by
  unfold regInfo at hi
  split at hi
  · cases hi
  · next p hp =>
    refine ⟨p, List.mem_of_find?_eq_some hp, ?_⟩
    dsimp only at hi
    split at hi
    · cases hi; cases hw
    · split at hi
      · next hf =>
        cases hi; cases hw
        obtain ⟨_, hm, e⟩ := Option.map_eq_some_iff.mp hf
        cases e
        exact List.mem_of_find?_eq_some hm
      · split at hi
        · split at hi
          · cases hi; cases hw
          · obtain ⟨_, _, e⟩ := Option.bind_eq_some_iff.mp hi
            cases e; cases hw
        · obtain ⟨_, _, e⟩ := Option.bind_eq_some_iff.mp hi
          cases e; cases hw

/-- The record that a record write would replace lies in the staged tables and the metering tables. -/
theorem State.winOld_congr {s t : State} {w : WinId} (hw : w ∈ writableWins) (hl : t.look = s.look) (hm : t.meter = s.meter)
    (k : Nat) : t.winOld w k = s.winOld w k := by
  simp only [writableWins, List.mem_cons, List.not_mem_nil, or_false] at hw
  rcases hw with rfl | rfl | rfl | rfl | rfl | rfl <;>
    simp only [State.winOld, State.winRec, State.nozzleW, hl, hm]

/-! ## The two commands -/

/-- Where its condition holds, CONFIG_WRITE is the register write. -/
theorem runs_configWrite {a : BitVec 24} (o : Origin) (v : Word) (s : State) (h : isConfig a.toNat = true) :
    Runs (.configWrite o a v) s (s.regWrite o a.toNat 15 v) := by
  show execConfigWrite o a v s = _
  rw [execConfigWrite, if_pos h]; rfl

/-- Where its condition holds, WIN_RECORD_WRITE is the register write. -/
theorem runs_winRecordWrite {a : BitVec 24} (o : Origin) (v : Word) (s : State) (h : isWinWord a.toNat true = true) :
    Runs (.winRecordWrite o a v) s (s.regWrite o a.toNat 15 v) := by
  show execWinRecordWrite o a v s = _
  rw [execWinRecordWrite, if_pos h]; rfl

theorem isWinWord_last {a : Nat} {i : RegInfo} {w : WinSpec} {j : Nat} (hi : regInfo a = some i)
    (hw : i.win = some (w, j + 2)) (hj : j + 1 = w.words) : isWinWord a true = true := by
  simp [isWinWord, winPos, hi, hw, hj]

/-- No register that a refused write changes is of configuration class. -/
theorem refused_not_config : ∀ k ∈ refusedRegs ++ eventRegs 0 ++ [R.IRQROUTE_VEC_ARMED 0, R.PCIE_MSIX_PBA],
    isConfig k = false := by decide +kernel

theorem settle_refusedRegs (s : State) : ∀ k ∈ refusedRegs, (settle s).r k = s.r k := by
  have hne : ∀ k ∈ refusedRegs, k ≠ R.IRQROUTE_VEC_ARMED 0 ∧ k ≠ R.PCIE_MSIX_PBA := by decide
  exact fun k hk => settle_r s (hne k hk).1 (hne k hk).2

/-- A refused write of a configuration register leaves the register as it was. -/
theorem settle_cfgRefused_r (s : State) (o : Origin) {a : Nat} (ofs reason : Nat) (ha : isConfig a = true) :
    (settle (s.cfgRefused o ofs reason)).r a = s.r a := by
  have hk : a ∉ refusedRegs ++ eventRegs 0 ++ [R.IRQROUTE_VEC_ARMED 0, R.PCIE_MSIX_PBA] :=
    fun h => by simp [refused_not_config a h] at ha
  simp only [List.mem_append, List.mem_cons, List.not_mem_nil, or_false, not_or] at hk
  obtain ⟨hreg, harm, hpba⟩ := hk
  rw [settle_r _ harm hpba, State.cfgRefused_eq, State.refuseWith_r_ne _ _ _ _ (by simpa using hreg)]

/-- Settles O10: each write comes down to `cfgRefused`; beside it the register write keeps the session alive, and the record
write takes the snapshot and moves the CURSOR, none of which the registers, the tables or the event FIFO see. -/
theorem configRefused : Obligations.ConfigRefused := by
  unfold Obligations.ConfigRefused
  refine ⟨fun o a v s i reason ht hi hcfg h40 hd hu h => ?_, fun o a v s i w j reason ht hi hw hj hc he h => ?_⟩
  · obtain ⟨hwin, hany⟩ := isConfig_spec hi hcfg
    obtain ⟨hr, hlt⟩ := State.cfgWrite_refused h
    refine ⟨_, runs_configWrite o v s hcfg, ?_⟩
    rw [State.regWrite_lands ht hi, State.landWrite_config hwin hd h40 hu hany, hr]
    refine ⟨?_, by simp, ?_⟩
    · rw [settle_cfgRefused_r _ _ _ _ hcfg, State.touchAcc_r]
    · exact State.refusedTo_congr (State.cfgRefused_refusedTo _ o _ hlt) (by simp) (by simp) (settle_refusedRegs _) (by simp)
  · obtain ⟨p, hp, hwp⟩ := regInfo_win hi hw
    have hwr : w.id ∈ writableWins := pageTable_writable p hp w hwp hc
    obtain ⟨hr, hlt⟩ := State.recordWrite_refused h
    have hland : s.regWrite o a.toNat 15 v = (s.touchAcc o).winWrite o i w j v := by
      rw [State.regWrite_lands ht hi, State.landWrite]
      simp only [hw]
    refine ⟨_, runs_winRecordWrite o v s (isWinWord_last hi hw hj), ?_⟩
    rw [hland, State.winWrite_last hj hc he]
    dsimp only
    rw [hr]
    have hbefore := s.touchAcc_winOpen_keeps o (i.base + w.ofs) w
    generalize (s.touchAcc o).winOpen o.master (i.base + w.ofs) w = t at hbefore ⊢
    obtain ⟨hl, hm, hmem, hat, hreg⟩ := hbefore
    obtain ⟨hosts, n, e⟩ := State.setWin_winNext_frame (t.cfgRefused o (i.base + w.ofs + 4 * (w.words + 1)) reason)
      o.master (i.base + w.ofs) w { t.win o.master (i.base + w.ofs) with staged := [] }
    rw [e]
    refine ⟨State.winOld_congr hwr (by simp [hl]) (by simp [hm]) _, by simp [hmem], ?_⟩
    exact State.refusedTo_congr (State.cfgRefused_refusedTo t o _ hlt) (fun k _ => (hreg k).symm) (by rw [hat])
      (settle_refusedRegs _) (by simp)

end Sys2Proof.Machine
end

section
/-!
PROOFS. The block as a whole: every command answers a next state, and serving the vectors leaves no message due (03 R65,
05 R94), with the statements O1 to O5.
-/
namespace Sys2Proof.Machine

/-! ## Vector levels do not depend on the registers that serving changes -/

theorem filterMap_erase {β : Type} (f : Nat × Word → Option β) (m : SMap Word) {k : Nat} (hf : ∀ v, f (k, v) = none) :
    (SMap.erase m k).filterMap f = m.filterMap f := by
  unfold SMap.erase
  rw [List.filterMap_filter]
  congr 1
  funext e
  obtain ⟨j, w⟩ := e
  by_cases h : j = k
  · subst h; simp [hf]
  · simp [h]

theorem filterMap_ins {β : Type} (f : Nat × Word → Option β) (m : SMap Word) {k : Nat} (v : Word) (hf : f (k, v) = none) :
    (SMap.ins k v m).filterMap f = m.filterMap f := by
  induction m with
  | nil => simp [SMap.ins, hf]
  | cons e t ih =>
    obtain ⟨j, w⟩ := e
    by_cases h : j < k
    · simp only [SMap.ins, h, if_true, List.filterMap_cons, ih]
    · simp [SMap.ins, h, hf]

/-- A key that a filter drops, whatever it holds, can be stored without the filter seeing it. -/
theorem filterMap_put {β : Type} (f : Nat × Word → Option β) (d : Nat → Word) (m : SMap Word) {k : Nat} (v : Word)
    (hf : ∀ v, f (k, v) = none) : (SMap.put d m k v).filterMap f = m.filterMap f := by
  unfold SMap.put
  split
  · exact filterMap_erase f m hf
  · rw [filterMap_ins f _ v (hf v), filterMap_erase f m hf]

/-- Route entries lie in two runs of registers; a write elsewhere leaves the routes (03 R63). -/
theorem State.routes_w (s : State) {k : Nat} (v : Word) (h0 : ¬(0x006900 ≤ k ∧ k < 0x006D00))
    (h1 : ¬(0x007900 ≤ k ∧ k < 0x007D00)) : (s.w k v).routes = s.routes :=
  filterMap_put _ _ _ _ fun w => by simp [h0, h1]

/-- The state of a page's sources lies in header and frame registers, none at the offsets 0x6C and 0x00 that VEC_ARMED and
the pending-bit array have modulo 0x100 (03 R42, R47). -/
def State.SameSources (s t : State) : Prop := ∀ k, k % 0x100 ≠ 0x6C → k % 0x100 ≠ 0 → t.r k = s.r k

theorem State.SameSources.irqRaw {s t : State} (h : s.SameSources t) {b : Nat} (hb : b % 0x100 = 0) :
    t.irqRaw b = s.irqRaw b := by
  have hu (p : PageSpec) (u : Nat) : t.r (frameBase p b u + 0x08) = s.r (frameBase p b u + 0x08) ∧
      t.r (frameBase p b u + 0x0C) = s.r (frameBase p b u + 0x0C) := by
    unfold frameBase
    split <;> exact ⟨h _ (by omega) (by omega), h _ (by omega) (by omega)⟩
  unfold State.irqRaw
  simp only [h (b + 0x010) (by omega) (by omega), h (b + 0x020) (by omega) (by omega),
    h (b + 0x024) (by omega) (by omega), (hu _ _).1, (hu _ _).2]

theorem sources_aligned : ∀ e ∈ sources, ∀ b ∈ e.2.1, b % 0x100 = 0 := by decide +kernel

theorem State.SameSources.srcOn {s t : State} (h : s.SameSources t) (n : Nat) : t.srcOn n = s.srcOn n := by
  unfold State.srcOn
  split
  · rfl
  · next n' pages mask hf =>
    have hal := sources_aligned _ (List.mem_of_find?_eq_some hf)
    rw [Bool.eq_iff_iff, List.any_eq_true, List.any_eq_true]
    refine exists_congr fun b => and_congr_right fun hb => ?_
    have hb0 : b % 0x100 = 0 := hal b hb
    simp only [State.b, State.irqPend, h.irqRaw hb0, h (b + 0x008) (by omega) (by omega),
      h (b + 0x014) (by omega) (by omega)]

theorem State.SameSources.vecStat {s t : State} (h : s.SameSources t) (hr : t.routes = s.routes) :
    t.vecStat = s.vecStat := by
  simp only [State.vecStat, State.driven, hr, h.srcOn]

theorem State.vecStat_wb_armed (s : State) (n : Nat) (v : Bool) : (s.wb (R.IRQROUTE_VEC_ARMED 0) n v).vecStat = s.vecStat :=
  State.SameSources.vecStat
    (fun k h _ => State.r_wb_ne _ _ _ fun e => h (by rw [e]; rfl)) (State.routes_w _ _ (by decide) (by decide))

theorem State.vecStat_wb_pba (s : State) (n : Nat) (v : Bool) : (s.wb R.PCIE_MSIX_PBA n v).vecStat = s.vecStat :=
  State.SameSources.vecStat
    (fun k _ h => State.r_wb_ne _ _ _ fun e => h (by rw [e]; rfl)) (State.routes_w _ _ (by decide) (by decide))

theorem State.vecStat_host (s : State) (h : HostIf) : ({ s with host := h } : State).vecStat = s.vecStat :=
  State.SameSources.vecStat (s := s) (fun _ _ _ => rfl) rfl

/-! ## Serving a vector -/

/-- Serving vector `n`, by cases: it is not armed; it is masked; its message is sent. -/
theorem State.serveVec_cases (s : State) (n : Nat) :
    (s.b (R.IRQROUTE_VEC_ARMED 0) n = false ∧ s.serveVec n = s) ∨
    (s.vecMasked n = true ∧ s.serveVec n = s.wb R.PCIE_MSIX_PBA n true) ∨
    ∃ m, s.serveVec n = { (s.wb (R.IRQROUTE_VEC_ARMED 0) n false).wb R.PCIE_MSIX_PBA n false with
      host := { s.host with msix := m } } := by
  unfold State.serveVec
  split
  · split
    · next hm => exact .inr (.inl ⟨hm, rfl⟩)
    · exact .inr (.inr ⟨_, rfl⟩)
  · next ha => exact .inl ⟨by simpa using ha, rfl⟩

theorem State.vecStat_serveVec (s : State) (n : Nat) : (s.serveVec n).vecStat = s.vecStat := by
  obtain ⟨_, e⟩ | ⟨_, e⟩ | ⟨m, e⟩ := s.serveVec_cases n <;> rw [e]
  · exact s.vecStat_wb_pba n true
  · rw [State.vecStat_host, State.vecStat_wb_pba, State.vecStat_wb_armed]

/-- An armed vector of a level is masked with its pending bit set. -/
def State.waits (s : State) (n : Nat) : Prop :=
  s.b (R.IRQROUTE_VEC_ARMED 0) n = true → s.vecMasked n = true ∧ s.b R.PCIE_MSIX_PBA n = true

theorem State.vecMasked_wb {o : Nat} (s : State) (i n : Nat) (v : Bool) (h : R.PCIE_MSIX_CTRL n ≠ o) :
    (s.wb o i v).vecMasked n = s.vecMasked n := by
  simp only [State.vecMasked, State.b, State.r_wb_ne s i v h, State.wb_host]

theorem State.b_wb_ne {o : Nat} (s : State) {i n : Nat} (v : Bool) (h : n ≠ i) : (s.wb o i v).b o n = s.b o n := by
  rw [State.b, State.r_wb_self, bit_putBit_ne _ _ h]; rfl

theorem State.b_wb_other {o k : Nat} (s : State) (i n : Nat) (v : Bool) (h : k ≠ o) : (s.wb o i v).b k n = s.b k n := by
  rw [State.b, State.r_wb_ne _ _ _ h]; rfl

theorem msixCtrl_ne_pba (n : Nat) : R.PCIE_MSIX_CTRL n ≠ R.PCIE_MSIX_PBA := by
  simp only [R.PCIE_MSIX_CTRL, R.PCIE_MSIX_PBA]; omega

theorem msixCtrl_ne_armed (n : Nat) : R.PCIE_MSIX_CTRL n ≠ R.IRQROUTE_VEC_ARMED 0 := by
  simp only [R.PCIE_MSIX_CTRL, R.IRQROUTE_VEC_ARMED]; omega

theorem State.serveVec_waits_self (s : State) {n : Nat} (hn : n < 32) : (s.serveVec n).waits n := by
  intro ha
  obtain ⟨h, e⟩ | ⟨h, e⟩ | ⟨m, e⟩ := s.serveVec_cases n <;> rw [e] at ha ⊢
  · rw [h] at ha; cases ha
  · exact ⟨by rw [State.vecMasked_wb _ _ _ _ (msixCtrl_ne_pba n), h], State.b_wb_self _ _ _ _ hn⟩
  · have hoff : ((s.wb (R.IRQROUTE_VEC_ARMED 0) n false).wb R.PCIE_MSIX_PBA n false).b (R.IRQROUTE_VEC_ARMED 0) n = false := by
      rw [State.b_wb_other _ _ _ _ (by decide), State.b_wb_self _ _ _ _ hn]
    exact absurd (hoff.symm.trans ha) (by decide)

theorem State.serveVec_waits (s : State) {n m : Nat} (hm : m < 32) (h : s.waits m) : (s.serveVec n).waits m := by
  by_cases hmn : m = n
  · exact hmn ▸ s.serveVec_waits_self (hmn ▸ hm)
  · obtain ⟨_, e⟩ | ⟨_, e⟩ | ⟨l, e⟩ := s.serveVec_cases n <;> rw [e]
    · exact h
    · unfold State.waits
      rwa [State.b_wb_other _ _ _ _ (by decide), State.vecMasked_wb _ _ _ _ (msixCtrl_ne_pba m), State.b_wb_ne _ _ hmn]
    · have harm : ((s.wb (R.IRQROUTE_VEC_ARMED 0) n false).wb R.PCIE_MSIX_PBA n false).waits m := by
        unfold State.waits
        rwa [State.b_wb_other _ _ _ _ (by decide), State.b_wb_ne _ _ hmn, State.vecMasked_wb _ _ _ _ (msixCtrl_ne_pba m),
          State.vecMasked_wb _ _ _ _ (msixCtrl_ne_armed m), State.b_wb_ne _ _ hmn, State.b_wb_other _ _ _ _ (by decide)]
      exact harm

/-- Serving a list of vectors leaves the levels, and every vector of the list waiting or disarmed. -/
theorem serveAll_waits (l : List Nat) (hl : ∀ n ∈ l, n < 32) (s : State) :
    (l.foldl State.serveVec s).vecStat = s.vecStat ∧ (∀ m < 32, s.waits m → (l.foldl State.serveVec s).waits m) ∧
      ∀ n ∈ l, (l.foldl State.serveVec s).waits n := by
  induction l generalizing s with
  | nil => exact ⟨rfl, fun _ _ h => h, nofun⟩
  | cons n l ih =>
    have hn : n < 32 := hl n (.head _)
    obtain ⟨hstat, hkeep, hall⟩ := ih (fun m hm => hl m (.tail _ hm)) (s.serveVec n)
    refine ⟨hstat.trans (s.vecStat_serveVec n), fun m hm h => hkeep m hm (s.serveVec_waits hm h), fun m hm => ?_⟩
    cases hm with
    | head => exact hkeep n hn (s.serveVec_waits_self hn)
    | tail _ hm => exact hall m hm

/-- After every vector of level 1 has been served, no message is due. -/
theorem settle_settled (s : State) : (settle s).settled := by
  intro n hn hlevel
  have hl : ∀ m ∈ bitsSet 32 s.vecStat.toNat, m < 32 := fun m hm => List.mem_range.mp (List.mem_filter.mp hm).1
  obtain ⟨hstat, _, hall⟩ := serveAll_waits _ hl s
  rw [settle, hstat] at hlevel
  exact hall n (List.mem_filter.mpr ⟨List.mem_range.mpr hn, hlevel⟩)

/-! ## Every command answers -/

theorem execOutletSwitch_answers (c : Cmd) (s : State) : ∃ t, execOutletSwitch c s = done t := by
  unfold execOutletSwitch
  dsimp only
  split <;> exact ⟨_, rfl⟩

/-- Every command a descriptor can hold answers (05 R104). -/
theorem runLow_answers {op : Nat} {c : Cmd} {s : State} {x : Host.Outcome State Fault Refusal} (h : runLow op c s = some x) :
    ∃ t, x = done t := by
  unfold runLow at h
  split at h
  case h_14 => cases h; exact execOutletSwitch_answers c s
  case h_23 => cases h
  all_goals cases h; exact ⟨_, rfl⟩

theorem runHigh_answers {op : Nat} {c : Cmd} {key : Option (Fin 17)} {s : State} {x : Host.Outcome State Fault Refusal}
    (h : runHigh op c key s = some x) : ∃ t, x = done t := by
  unfold runHigh at h
  split at h
  case h_21 => cases h
  all_goals cases h; exact ⟨_, rfl⟩

theorem State.runDesc_answers (s : State) (op : Nat) (c : Cmd) (key : Option (Fin 17)) : ∃ t, s.runDesc op c key = done t := by
  unfold State.runDesc
  dsimp only
  split
  · next h => exact runLow_answers h
  · split
    · next h => exact runHigh_answers h
    · exact ⟨_, rfl⟩

theorem execPorchDescriptorFetch_answers (ring : Fin 4) (ecc : Bool) (key : Option (Fin 17)) (s : State) :
    ∃ t, execPorchDescriptorFetch ring ecc key s = done t := by
  unfold execPorchDescriptorFetch
  dsimp only
  split
  · exact ⟨_, rfl⟩
  · split
    · exact ⟨_, rfl⟩
    · split
      · exact ⟨_, rfl⟩
      · exact State.runDesc_answers _ _ _ _

/-- Every command answers: its meaning is `done` of a state, but for the two that choose among such meanings first. -/
theorem exec_answers (i : Instr) (s : State) : ∃ t, exec i s = done t := by
  cases i
  case outletSwitch c => exact execOutletSwitch_answers c s
  case porchDescriptorFetch ring ecc key => exact execPorchDescriptorFetch_answers ring ecc key s
  all_goals exact ⟨_, rfl⟩

/-- Settles O4: `done` is the settled state. -/
theorem everyCommandCompletes : Obligations.EveryCommandCompletes := by
  unfold Obligations.EveryCommandCompletes
  exact fun i s => exec_answers i s

/-! ## Steps -/

theorem step_cons {s : State} {c : Instr} {rest : List Instr} (h : s.pending = c :: rest) :
    step s = exec c { s with pending := rest } := by
  unfold step; rw [h]

theorem step_nil {s : State} (h : s.pending = []) : step s = .next (settle s.tick) := by
  unfold step; rw [h]; rfl

/-- Settles O1. -/
theorem stepRunsFront : Obligations.StepRunsFront := by
  unfold Obligations.StepRunsFront
  exact fun c rest s h => step_cons h

/-- Settles O5: a command or a tick answers a settled state. -/
theorem stepSettled : Obligations.StepSettled := by
  unfold Obligations.StepSettled
  intro s t h
  cases hp : s.pending with
  | nil =>
    rw [step_nil hp] at h
    cases h
    exact settle_settled _
  | cons c rest =>
    obtain ⟨u, hu⟩ := exec_answers c { s with pending := rest }
    rw [step_cons hp, hu] at h
    cases h
    exact settle_settled _

/-- A tick advances DT while it runs, and the operating time; it changes nothing else (02 R28, 04 R88). -/
theorem State.tick_frame (s : State) : ∃ p, s.tick =
    { s with dt := if s.pkg.dtRun then (s.dt + 256) % 2 ^ 64 else s.dt, pkg := p } := by
  unfold State.tick
  cases hd : s.pkg.dtRun <;> simp only [Bool.false_eq_true, if_true, if_false] <;> split
  · exact ⟨_, rfl⟩
  · split <;> exact ⟨_, rfl⟩
  · exact ⟨_, rfl⟩
  · split <;> exact ⟨_, rfl⟩

/-- Settles O2: the tick, then `settle`, which leaves all but the message path. -/
theorem idleTick : Obligations.IdleTick := by
  unfold Obligations.IdleTick
  intro s hp
  obtain ⟨p, e⟩ := s.tick_frame
  refine ⟨_, step_nil hp, ?_, ?_, ?_, ?_, ?_, fun k h1 h2 => ?_⟩
  · rw [settle_dt, e]
  · rw [settle_pending, e, hp]
  · rw [settle_mem, e]
  · rw [settle_jobs, e]
  · rw [settle_look, e]
  · rw [settle_r _ h1 h2, e]; rfl

/-! ## Reset -/

/-- Of a register nothing has written, the word is its reset value. -/
theorem State.reset_r (k : Nat) : State.reset.r k = regDefault .g k := rfl

/-- The header of every page at reset (03 R42). -/
theorem regDefault_header : ∀ p ∈ pageTable, ∀ k < p.count, ∀ e ∈
    [(0x008, 0x10000#32), (0x010, 0), (0x014, 0), (0x020, 0), (0x024, BitVec.ofNat 32 p.fltMask), (0x028, 0), (0x02C, 0)],
      regDefault .g (p.domain * 0x100000 + (p.first + k) * 0x1000 + e.1) = e.2 := by decide +kernel

/-- Every route is disabled at reset (03 R63). -/
theorem regDefault_route : ∀ src < 512, regDefault .g (routeOfs src) = 0 := by
  have h : ∀ a < 16, ∀ b < 32, regDefault .g (routeOfs (32 * a + b)) = 0 := by decide +kernel
  intro src hs
  have := h (src / 32) (by omega) (src % 32) (by omega)
  rwa [Nat.div_add_mod] at this

/-- With no route enabled no vector has a level. -/
theorem State.reset_vecStat : State.reset.vecStat = 0 := rfl

/-- Settles O3: the reset values of the register map, and storage that lists nothing. -/
theorem resetHolds : Obligations.ResetHolds := by
  unfold Obligations.ResetHolds
  simp only [State.reset_r]
  refine ⟨rfl, rfl, by decide, by decide, fun p hp k hk => ?_, regDefault_route, fun n _ h => ?_, rfl, rfl, rfl⟩
  · simpa only [List.forall_mem_cons, List.not_mem_nil, false_imp_iff, implies_true, and_true] using
      regDefault_header p hp k hk
  · rw [State.reset_vecStat] at h
    simp [bit] at h

end Sys2Proof.Machine
end

section
/-!
PROOFS. Where a register access lands (03 R39 to R59): what the register map says of an offset, and the writes that reach the
page's own registers, its header, its configuration registers and its windows.
-/
namespace Sys2Proof.Machine

/-! ## What an offset names (03 R39 to R48) -/

/-- A register lies on the page of its offset. -/
theorem regInfo_page {a : Nat} {i : RegInfo} (h : regInfo a = some i) :
    pageOf a = some i.page ∧ i.base = pageBase a ∧ i.inst = a / 0x1000 % 0x100 - i.page.first := by
  unfold regInfo at h
  split at h
  · cases h
  · next p hp =>
    dsimp only at h
    split at h
    · cases h; exact ⟨hp, rfl, rfl⟩
    · split at h
      · cases h; exact ⟨hp, rfl, rfl⟩
      · split at h
        · split at h
          · cases h; exact ⟨hp, rfl, rfl⟩
          · obtain ⟨_, _, e⟩ := Option.bind_eq_some_iff.mp h
            cases e; exact ⟨hp, rfl, rfl⟩
        · obtain ⟨_, _, e⟩ := Option.bind_eq_some_iff.mp h
          cases e; exact ⟨hp, rfl, rfl⟩

/-- A header register is no window word and belongs to no unit. -/
theorem regInfo_header {a : Nat} {i : RegInfo} (h : regInfo a = some i) (hf : ∀ p, (headerFields p (a % 0x1000)).isSome = true) :
    i.win = none ∧ i.unit = none := by
  unfold regInfo at h
  split at h
  · cases h
  · next p hp =>
    dsimp only at h
    obtain ⟨f, e⟩ := Option.isSome_iff_exists.mp (hf p)
    rw [e] at h
    cases h
    exact ⟨rfl, rfl⟩

/-- Offset `a` is a register of kind `k` that is no window word, no header register, and has no configuration field: a write
goes to its page's own write. It belongs to page `n` of its kind and to unit `u`. -/
def plainAt (a : Nat) (k : PageKind) (n : Nat) (u : Option Nat) : Bool :=
  match regInfo a with
  | some i => i.page.kind == k && i.inst == n && i.unit == u && i.win.isNone && decide (0x40 ≤ a % 0x1000) &&
      !(i.unit.isSome && decide (a - frameBase i.page i.base (i.unit.getD 0) < 0x20)) &&
      !i.fields.any (fun f => RegType.isCfg f.ty)
  | none => false

/-- The parts of an access that keep the session alive leave the registers of a state. -/
theorem State.touchAcc_b (s : State) (o : Origin) (k n : Nat) : (s.touchAcc o).b k n = s.b k n := by
  rw [State.b, State.touchAcc_r]; rfl

theorem State.touchAcc_f (s : State) (o : Origin) (k hi lo : Nat) : (s.touchAcc o).f k hi lo = s.f k hi lo := by
  rw [State.f, State.touchAcc_r]; rfl

theorem State.touchAcc_variant (s : State) (o : Origin) : (s.touchAcc o).variant = s.variant := by
  obtain ⟨x, e⟩ := s.touchAcc_frame o; rw [e]

/-- A write that a plain register takes is its page's own write; a DMA page takes those of its side only (06 R128). -/
theorem State.regWrite_plain {s : State} {o : Origin} {a n : Nat} {v : Word} {k : PageKind} {u : Option Nat}
    (h : s.takes a v) (hp : plainAt a k n u = true) (hd : k = .dma → dmaOwner o n = true) :
    ∃ i, i.page.kind = k ∧ i.inst = n ∧ i.unit = u ∧ s.regWrite o a 15 v = (s.touchAcc o).plainWrite o i a v := by
  obtain ⟨_, _, i, _, hi⟩ := State.reaches_spec h.1
  simp only [plainAt, hi, Bool.and_eq_true, beq_iff_eq, Option.isNone_iff_eq_none, decide_eq_true_eq, Bool.not_eq_true'] at hp
  obtain ⟨⟨⟨⟨⟨⟨hk, hn⟩, hu⟩, hw⟩, h40⟩, hfr⟩, hc⟩ := hp
  refine ⟨i, hk, hn, hu, ?_⟩
  rw [State.regWrite_lands h hi, State.landWrite_plain hw _ h40 _ hc]
  · rintro ⟨e, hf⟩
    rw [hn, hd (hk ▸ e)] at hf; cases hf
  · rintro ⟨e, hlt⟩
    simp [e, hlt] at hfr

/-- A write of a configuration register that passes every check of 03 R53 and changes its value is audited, applied, kept in
the store and counted. -/
theorem State.cfgWrite_accepted {s : State} {o : Origin} {i : RegInfo} {a : Nat} {v : Word}
    (hg : s.cfgGate o i a (i.fields.any (fun f => f.ty == .rws)) = none) (hs : s.stateOk i a (s.cfgValue i a v) = true)
    (hv : s.valueOk i a (s.cfgValue i a v) = true) (hn : s.cfgValue i a v ≠ s.r a) (ha : s.audCfg 1 = true) :
    s.cfgWrite o i a v =
      (((s.audit { typ := 1, origin := (s.accSession o).2.2, role := (s.accSession o).1, result := 0,
                   sess := (s.accSession o).2.1, changed := 1, w3 := nw a, w4 := 0,
                   vals := [(s.r a, s.cfgValue i a v)] }).setConfig i a (s.cfgValue i a v)).storeWrite a
        (s.cfgValue i a v)).countChange i := by
  simp only [State.cfgWrite, hg, hs, hv, hn, ha, Bool.not_true, Bool.false_eq_true, if_false]

/-- A record write that passes the checks and changes the record is audited, applied and counted (03 R50, R53). -/
theorem State.recordWrite_accepted {s : State} {o : Origin} {i : RegInfo} {w : WinSpec} {k : Nat} {l : List Word}
    (hg : s.cfgGate o i (i.base + w.ofs + 4 * (w.words + 1)) (w.cls == .rws) = none) (hr : s.recordOk w.id l = true)
    (hc : (List.range w.words).filter (fun j => nth (s.winOld w.id k) j != nth l j) ≠ [])
    (ha : s.audCfg (audParts ((List.range w.words).filter (fun j => nth (s.winOld w.id k) j != nth l j)).length) = true) :
    s.recordWrite o i w k l =
      let old := s.winOld w.id k
      let ch := (List.range w.words).filter (fun j => nth old j != nth l j)
      ((s.audit { typ := 2, origin := (s.accSession o).2.2, role := (s.accSession o).1, result := 0,
                  sess := (s.accSession o).2.1, changed := ch.foldl (fun m j => m + 2 ^ j) 0,
                  w3 := nw (i.base + w.ofs + 4 * (w.words + 1)), w4 := nw k,
                  vals := ch.map (fun j => (nth old j, nth l j)) }).winApply w.id k l).countChange i := by
  simp only [State.recordWrite, hg, hr, ha, List.isEmpty_iff, hc, Bool.not_true, Bool.false_eq_true, if_false]

/-- A write of a header register is the header's write. -/
theorem State.landWrite_header {s : State} {o : Origin} {i : RegInfo} {a : Nat} {v : Word} (hi : regInfo a = some i)
    (hf : ∀ p, (headerFields p (a % 0x1000)).isSome = true) (h40 : a % 0x1000 < 0x40)
    (hd : i.page.kind = .dma → dmaOwner o i.inst = true) :
    s.landWrite o i a v = s.writeHeader (pageBase a) (a % 0x1000) v := by
  obtain ⟨hw, _⟩ := regInfo_header hi hf
  have hd' : ¬(i.page.kind = .dma ∧ dmaOwner o i.inst = false) := fun ⟨hk, e⟩ => by rw [hd hk] at e; cases e
  unfold State.landWrite
  simp only [hw, hd', if_false, h40, if_true, (regInfo_page hi).2.1]

/-! ## Windows (03 R48) -/

theorem isWinWord_inner {a : Nat} {i : RegInfo} {w : WinSpec} {j : Nat} (hi : regInfo a = some i)
    (hw : i.win = some (w, j + 2)) (hj : j + 1 ≠ w.words) : isWinWord a false = true := by
  simp [isWinWord, winPos, hi, hw, hj]

theorem State.landWrite_window {s : State} {o : Origin} {i : RegInfo} {a : Nat} {v : Word} {w : WinSpec} {j : Nat}
    (hw : i.win = some (w, j + 2)) : s.landWrite o i a v = s.winWrite o i w j v := by
  unfold State.landWrite
  simp only [hw]

theorem State.landRead_window {s : State} {o : Origin} {i : RegInfo} {a : Nat} {w : WinSpec} {j : Nat}
    (hw : i.win = some (w, j + 2)) : s.landRead o i a = s.winRead o.master (i.base + w.ofs) w j := by
  unfold State.landRead
  simp only [hw]

/-- Outside a window a read is a register's word. -/
theorem State.landRead_reg {s : State} {o : Origin} {i : RegInfo} {a : Nat} (hw : i.win = none) :
    s.landRead o i a = s.readWord o a i := by
  unfold State.landRead
  simp only [hw]

/-- A write of a word that is not the last one is staged. -/
theorem State.winWrite_inner {s : State} {o : Origin} {i : RegInfo} {w : WinSpec} {j : Nat} {v : Word}
    (hj : j + 1 < w.words) (hc : w.cls ≠ .ro)
    (he : (s.winOpen o.master (i.base + w.ofs) w).winEnd o.master (i.base + w.ofs) w = false) :
    s.winWrite o i w j v =
      let t := s.winOpen o.master (i.base + w.ofs) w
      t.setWin o.master (i.base + w.ofs) ((t.win o.master (i.base + w.ofs)).stage j v) := by
  simp only [State.winWrite, hc, he, hj, Bool.false_eq_true, or_self, if_false, if_true]

/-! ## Reads (02 R32) -/

/-- Keeping words for a master changes the captured words alone. -/
theorem State.keepAll_frame (s : State) (o : Origin) (f : Nat → Word) (g : List Nat) :
    ∃ c, g.foldl (fun (x : State) k => x.keep o k (f k)) s = { s with host := { s.host with caps := c } } := by
  induction g generalizing s with
  | nil => exact ⟨s.host.caps, rfl⟩
  | cons k g ih => exact ih (s.keep o k (f k))

/-- A register read changes the words captured alone. -/
theorem State.readWord_frame (s : State) (o : Origin) (a : Nat) (i : RegInfo) :
    ∃ c, (s.readWord o a i).2 = { s with host := { s.host with caps := c } } := s.keepAll_frame o s.readNow _

/-- A header register is in no group of captured words. -/
theorem captureGroup_header {a : Nat} {i : RegInfo} (h40 : a % 0x1000 < 0x40) (hu : i.unit = none) :
    captureGroup a i = [] ∧ inCapture a i = false := by
  have hne (k : Nat) (hk : 0x40 ≤ k % 0x1000) : a ≠ k := fun e => by rw [e] at h40; omega
  have hpo : ¬ 0x100 ≤ a % 0x1000 := by omega
  have hinfo (n : Nat) : a ≠ infoOfs n := hne _ (by unfold infoOfs; split <;> decide)
  have hpose : ¬(R.POSEIN_LAST_POSE 0 < a ∧ a < R.POSEIN_LAST_POSE 10) := by
    simp only [R.POSEIN_LAST_POSE]; omega
  have hrun (n : Nat) : ¬(infoOfs n < a ∧ a < infoOfs n + 32) := by
    unfold infoOfs
    split <;> simp only [R.TPULSE_INFO0_, R.TPULSE_INFO1_] <;> omega
  constructor
  · unfold captureGroup
    split <;> simp [hu, hinfo, hpo, hne R.TIME_DT_LO (by decide), hne R.RESET_OPT_S (by decide),
      hne (R.POSEIN_LAST_POSE 0) (by decide), hne R.HIST_NEWEST_DT_LO (by decide), hne R.HIST_OLDEST_DT_LO (by decide),
      hne R.RFCTL_SAMPLE0_DT_LO (by decide)]
  · unfold inCapture
    split <;> simp [hu, hpo, hne R.TIME_DT_HI (by decide), hne R.RESET_OPT_F (by decide),
      hne R.HIST_NEWEST_DT_HI (by decide), hne R.HIST_OLDEST_DT_HI (by decide),
      hne (R.RFCTL_SAMPLE0_DT_LO + 4) (by decide)]
    · simpa using hpose
    · simpa using fun n (_ : n < 2) => not_and.mp (hrun n)

end Sys2Proof.Machine
end

section
/-!
PROOFS. Accesses of registers, headers and windows (02 R32, R38; 03 R42 to R59), with the statements O7, O9, O12 and O19 to
O22.
-/
namespace Sys2Proof.Machine

/-! ## Register writes and faulting accesses (03 R52 to R59) -/

/-- Settles O19: the write that lands, and the accesses that land on no register. -/
theorem registerAccessesComplete : Obligations.RegisterAccessesComplete := by
  unfold Obligations.RegisterAccessesComplete
  refine ⟨fun o a v s i ht hi => ?_, fun o a s ha ht => ⟨?_, ?_⟩, fun o a s ha ht => ⟨?_, ?_⟩⟩
  · rw [← State.regWrite_lands ht hi]; rfl
  · have h := runs_unimplOffsetAccess o true ht
    rwa [State.access_absent o true ha ht] at h
  · have h := runs_unimplOffsetAccess o false ht
    rwa [State.access_absent o false ha ht] at h
  · have h := runs_gatedAccess o true ht
    rwa [State.access_gated o true ha ht] at h
  · have h := runs_gatedAccess o false ht
    rwa [State.access_gated o false ha ht] at h

/-- Settles O20: the write lands on a configuration register and passes the checks of 03 R53. -/
theorem configWriteCompletes : Obligations.ConfigWriteCompletes := by
  unfold Obligations.ConfigWriteCompletes
  intro o a v s i ht hi hcfg h40 hd hu t new hg hs hv hn ha
  obtain ⟨hw, hc⟩ := isConfig_spec hi hcfg
  have h := runs_configWrite o v s hcfg
  rwa [State.regWrite_lands ht hi, State.landWrite_config hw hd h40 hu hc, State.cfgWrite_accepted hg hs hv hn ha] at h

/-- A faulting access with the words it captures left open. -/
def State.accFaultWith (s : State) (addr info : Word) (k : Nat) : State :=
  ((if (s.r (R.PKG 0x020) &&& 7#32) = 0 then (s.w R.PKG_ACC_FLT_ADDR addr).w R.PKG_ACC_FLT_INFO info else s).flt
    (R.PKG 0) k).satInc R.PKG_ACC_FLT_INFO 31 16 1

theorem State.accFault_eq (s : State) (o : Origin) (a k : Nat) (wr : Bool) : s.accFault o a k wr =
    s.accFaultWith (nw (o.code * 2 ^ 24 + a)) (nw ((if k = 2 then 4 else 0) + (if k = 1 then 2 else 0) + flag wr)) k := rfl

theorem State.accFaultWith_r_addr (s : State) (addr info : Word) (k : Nat) :
    (s.accFaultWith addr info k).r R.PKG_ACC_FLT_ADDR =
      if (s.r (R.PKG 0x020) &&& 7#32) = 0 then addr else s.r R.PKG_ACC_FLT_ADDR := by
  rw [State.accFaultWith, State.satInc, State.r_wf_ne _ _ _ _ (by decide), State.r_flt_ne _ _ (by decide)]
  split
  · rw [State.r_w_ne _ _ (by decide), State.r_w_self]
  · rfl

theorem State.accFaultWith_r_info (s : State) (addr info : Word) (k : Nat) :
    (s.accFaultWith addr info k).r R.PKG_ACC_FLT_INFO =
      let w := if (s.r (R.PKG 0x020) &&& 7#32) = 0 then info else s.r R.PKG_ACC_FLT_INFO
      setFld w 31 16 (satAdd 16 (fld w 31 16) 1) := by
  rw [State.accFaultWith, State.satInc, State.r_wf_self, State.f, State.r_flt_ne _ _ (by decide)]
  split <;> simp

/-- The low fields of a number of 16 bits. -/
theorem fld_nw_low {n : Nat} (h : n < 2 ^ 16) : fld (nw n) 15 0 = n ∧ fld (nw n) 31 16 = 0 := by
  simp only [fld, nw, BitVec.toNat_ofNat, Nat.shiftRight_eq_div_pow]
  omega

/-- The first faulting access of its kinds is captured, with COUNT 1; a later one adds 1 to COUNT (03 R59). -/
theorem State.accFault_captures (s : State) (o : Origin) (a k : Nat) (wr : Bool) (hk : k < 2) :
    (s.r (R.PKG 0x020) &&& 7#32 = 0 →
      (s.accFault o a k wr).r R.PKG_ACC_FLT_ADDR = nw (o.code * 2 ^ 24 + a) ∧
      (s.accFault o a k wr).f R.PKG_ACC_FLT_INFO 31 16 = 1 ∧
      (s.accFault o a k wr).f R.PKG_ACC_FLT_INFO 15 0 = 2 * k + flag wr) ∧
    (s.r (R.PKG 0x020) &&& 7#32 ≠ 0 →
      (s.accFault o a k wr).r R.PKG_ACC_FLT_ADDR = s.r R.PKG_ACC_FLT_ADDR ∧
      (s.accFault o a k wr).f R.PKG_ACC_FLT_INFO 31 16 = min (s.f R.PKG_ACC_FLT_INFO 31 16 + 1) 0xFFFF ∧
      (s.accFault o a k wr).f R.PKG_ACC_FLT_INFO 15 0 = s.f R.PKG_ACC_FLT_INFO 15 0) := by
  have hcode : (if k = 2 then 4 else 0) + (if k = 1 then 2 else 0) + flag wr = 2 * k + flag wr := by
    split <;> split <;> omega
  have hwr : flag wr ≤ 1 := by cases wr <;> decide
  rw [State.accFault_eq, hcode]
  generalize nw (o.code * 2 ^ 24 + a) = addr
  obtain ⟨hlow, hhigh⟩ := fld_nw_low (n := 2 * k + flag wr) (by omega)
  refine ⟨fun h => ⟨?_, ?_, ?_⟩, fun h => ⟨?_, ?_, ?_⟩⟩
  · rw [State.accFaultWith_r_addr, if_pos h]
  · simp only [State.f, State.accFaultWith_r_info, h, if_true, fld_setFld_satAdd, hhigh]
    decide
  · simp only [State.f, State.accFaultWith_r_info, h, if_true, fld_setFld_lower, hlow]
  · rw [State.accFaultWith_r_addr, if_neg h]
  · simp only [State.f, State.accFaultWith_r_info, h, if_false, fld_setFld_satAdd]
  · simp only [State.f, State.accFaultWith_r_info, h, if_false, fld_setFld_lower]

/-- What a faulting access shows is the same after `settle`. -/
theorem settle_accFlt (s : State) :
    (settle s).r R.PKG_ACC_FLT_ADDR = s.r R.PKG_ACC_FLT_ADDR ∧
      ∀ hi lo, (settle s).f R.PKG_ACC_FLT_INFO hi lo = s.f R.PKG_ACC_FLT_INFO hi lo :=
  ⟨settle_r s (by decide) (by decide), fun _ _ => by rw [State.f, settle_r s (by decide) (by decide)]; rfl⟩

/-- A write of some bytes only, or of a misaligned word, is a faulting access of fault WIDTH (03 R56). -/
theorem State.regWrite_width {s : State} {o : Origin} {a be : Nat} {v : Word} {i : RegInfo} (ha : s.answers = true)
    (ht : s.target (a - a % 4) = .reg i) (hw : be ≠ 15 ∨ a % 4 ≠ 0) :
    s.regWrite o a be v = (s.touchAcc o).accFault o a 1 true := by
  unfold State.regWrite
  simp only [ha, State.touchAcc_target, ht, hw, Bool.not_true, Bool.false_eq_true, if_false, if_true]

/-- Settles O9: an absent access and a write of the wrong width are `accFault`, which captures and counts. -/
theorem faultCapture : Obligations.FaultCapture := by
  unfold Obligations.FaultCapture
  intro o a s ha
  refine ⟨fun wr ht => ⟨_, runs_unimplOffsetAccess o wr ht, ?_⟩, fun be v i ht hw => ?_⟩
  · obtain ⟨haddr, hinfo⟩ := settle_accFlt (s.access o a.toNat wr)
    rw [haddr, hinfo, hinfo, State.access_absent o wr ha ht]
    cases wr with
    | false => exact s.accFault_captures o a.toNat 0 false (by decide)
    | true =>
      have h := (s.touchAcc o).accFault_captures o a.toNat 0 true (by decide)
      simp only [State.touchAcc_r, State.touchAcc_f] at h
      exact h
  · have hbe : be.toNat ≠ 15 ∨ a.toNat % 4 ≠ 0 := hw.imp_left fun h e => h (BitVec.eq_of_toNat_eq e)
    have hrun : Runs (.regWrite o a be v) s (s.regWrite o a.toNat be.toNat v) := rfl
    rw [State.regWrite_width ha ht hbe] at hrun
    obtain ⟨haddr, hinfo⟩ := settle_accFlt ((s.touchAcc o).accFault o a.toNat 1 true)
    obtain ⟨hfirst, hlater⟩ := (s.touchAcc o).accFault_captures o a.toNat 1 true (by decide)
    simp only [State.touchAcc_r, State.touchAcc_f] at hfirst hlater
    refine ⟨_, hrun, ?_, by simp, fun k hk => ?_, ?_, fun h => ?_⟩
    · rw [settle_fltB _ _ (by decide) (by decide), State.fltB, State.b, ← pkg_fltStat, State.accFault_r_fltStat]
      exact bit_putBit_self _ _ true (by decide)
    · simp only [List.mem_cons, List.not_mem_nil, or_false, not_or] at hk
      obtain ⟨hflt, hadr, hinf, harm, hpba⟩ := hk
      rw [settle_r _ harm hpba, State.accFault_r_ne _ _ _ _ _ (by simp [accFaultRegs, hflt, hadr, hinf]), State.touchAcc_r]
    · rw [haddr, hinfo, hinfo]
      exact hfirst
    · rw [haddr, hinfo]
      obtain ⟨h1, h2, _⟩ := hlater h
      exact ⟨h1, h2⟩

/-! ## Page headers (03 R42, R44, R59) -/

theorem header_lock (p : PageSpec) : (headerFields p 0x028).isSome = true := rfl
theorem header_stat (p : PageSpec) : (headerFields p 0x00C).isSome = true := rfl
theorem header_flt (p : PageSpec) : (headerFields p 0x020).isSome = true := rfl

/-- A write that PG_LOCK takes sets it where the write is of 1 (03 R44). -/
theorem State.regWrite_lock {s : State} {o : Origin} {a : Nat} {v : Word} {i : RegInfo} (ht : s.takes a v)
    (ha : a % 0x1000 = 0x028) (hi : regInfo a = some i) (hd : i.page.kind = .dma → dmaOwner o i.inst = true) :
    s.regWrite o a 15 v = if bit v 0 then (s.touchAcc o).wb a 0 true else s.touchAcc o := by
  have hb : pageBase a + 0x028 = a := by unfold pageBase; omega
  rw [State.regWrite_lands ht hi, State.landWrite_header hi (fun p => ha ▸ header_lock p) (by omega) hd, ha,
    State.writeHeader, hb]

theorem runs_pgLockWrite {a : BitVec 24} (o : Origin) (v : Word) (s : State) (h : a.toNat % 0x1000 = 0x028) :
    Runs (.pgLockWrite o a v) s (s.regWrite o a.toNat 15 v) := by
  show execPgLockWrite o a v s = _
  rw [execPgLockWrite, if_pos h]; rfl

/-- Setting a bit that is set changes nothing. -/
theorem putBit_of_bit {w : Word} {i : Nat} (h : bit w i = true) : putBit w i true = w := by
  ext n hn
  by_cases e : n = i
  · subst e
    simpa [putBit, setBit, bit, BitVec.getLsbD_eq_getElem hn] using h
  · simp [putBit, setBit, e]

/-- Settles O7: the write of PG_LOCK, in its two cases. -/
theorem pageLock : Obligations.PageLock := by
  unfold Obligations.PageLock
  intro o a v s i ht ha hi hd
  have hrun := runs_pgLockWrite o v s ha
  rw [State.regWrite_lock ht ha hi hd] at hrun
  have harm : a.toNat ≠ R.IRQROUTE_VEC_ARMED 0 := fun e => by rw [e] at ha; exact absurd ha (by decide)
  have hpba : a.toNat ≠ R.PCIE_MSIX_PBA := fun e => by rw [e] at ha; exact absurd ha (by decide)
  refine ⟨_, hrun, ?_, ?_, fun k hk h1 h2 => ?_, fun h => ?_⟩
  · rw [State.b, settle_r _ harm hpba]
    cases hv : bit v 0
    · simp [State.b]
    · simp [State.r_wb_self, bit_putBit_self]
  · rw [settle_mem]; split <;> simp
  · rw [settle_r _ h1 h2]
    split
    · rw [State.r_wb_ne _ _ _ hk, State.touchAcc_r]
    · exact State.touchAcc_r _ _ _
  · rw [settle_r _ harm hpba]
    split
    · next hv =>
      have hb : bit (s.r a.toNat) 0 = true := h.resolve_right (by simp [hv])
      rw [State.r_wb_self, State.touchAcc_r, putBit_of_bit hb]
    · exact State.touchAcc_r _ _ _

/-- A read of PG_STAT shows the page's status and captures nothing (03 R42). -/
theorem State.readBy_pgStat {s : State} {o : Origin} {a : Nat} (h : s.reaches a = true) (ha : a % 0x1000 = 0x00C) :
    s.readBy o a = s.returns [s.pgStat (pageBase a)] := by
  obtain ⟨_, _, i, _, hi⟩ := State.reaches_spec h
  obtain ⟨hw, hu⟩ := regInfo_header hi fun p => ha ▸ header_stat p
  obtain ⟨hg, hc⟩ := captureGroup_header (i := i) (a := a) (by omega) hu
  obtain ⟨_, hbase, _⟩ := regInfo_page hi
  have hread : s.readReg a i = s.pgStat (pageBase a) := by
    simp only [State.readReg, ha, State.readHeader, hbase]
    rfl
  rw [State.readBy_lands h hi, State.landRead_reg hw]
  simp only [State.readWord, hg, hc, hread, List.foldl_nil, Bool.false_eq_true, if_false]

theorem runs_pgStatBarrierRead {a : BitVec 24} (o : Origin) (s : State) (h : a.toNat % 0x1000 = 0x00C) :
    Runs (.pgStatBarrierRead o a) s (s.readBy o a.toNat) := by
  show execPgStatBarrierRead o a s = _
  rw [execPgStatBarrierRead, if_pos h]; rfl

/-- A write that FLT_STAT of PKG takes clears faults and re-arms captures (03 R59). -/
theorem State.regWrite_pkgFlt {s : State} {o : Origin} {v : Word} (ht : s.takes (R.PKG 0x020) v) :
    s.regWrite o (R.PKG 0x020) 15 v = (s.touchAcc o).pkgClear v := by
  obtain ⟨_, _, i, _, hi⟩ := State.reaches_spec ht.1
  have hk : (i.page.kind == .pkg) = true := regInfo_spec hi (p := fun i => i.page.kind == .pkg) (by decide +kernel)
  rw [State.regWrite_lands ht hi, State.landWrite_header hi header_flt (by decide) (fun h => by rw [h] at hk; cases hk)]
  have hpo : R.PKG 0x020 % 0x1000 = 0x020 := by decide
  have hb : pageBase (R.PKG 0x020) = R.PKG 0 := by decide
  rw [hpo, hb, State.writeHeader, if_pos rfl]

/-- Settles O21. -/
theorem headerAccessesComplete : Obligations.HeaderAccessesComplete := by
  unfold Obligations.HeaderAccessesComplete
  refine ⟨fun o a s h ha => ?_, fun o a v s i ht ha hi hd hv => ?_, fun o v s ht => ?_⟩
  · rw [← State.readBy_pgStat h ha]
    exact runs_pgStatBarrierRead o s ha
  · have hrun := runs_pgLockWrite o v s ha
    rwa [State.regWrite_lock ht ha hi hd, if_pos hv] at hrun
  · rw [← State.regWrite_pkgFlt ht]; rfl

/-! ## Windows (03 R50, R51) -/

theorem runs_cursorWrite {a : BitVec 24} (o : Origin) (v : Word) (s : State) (h : isCursor a.toNat = true) :
    Runs (.cursorWrite o a v) s (s.regWrite o a.toNat 15 v) := by
  show execCursorWrite o a v s = _
  rw [execCursorWrite, if_pos h]; rfl

theorem runs_winWordRead {a : BitVec 24} (o : Origin) (s : State) (h : isWinWord a.toNat false = true) :
    Runs (.winWordRead o a) s (s.readBy o a.toNat) := by
  show execWinWordRead o a s = _
  rw [execWinWordRead, if_pos h]; rfl

theorem runs_winLastWordRead {a : BitVec 24} (o : Origin) (s : State) (h : isWinWord a.toNat true = true) :
    Runs (.winLastWordRead o a) s (s.readBy o a.toNat) := by
  show execWinLastWordRead o a s = _
  rw [execWinLastWordRead, if_pos h]; rfl

theorem runs_winWordStage {a : BitVec 24} (o : Origin) (v : Word) (s : State) (h : isWinWord a.toNat false = true) :
    Runs (.winWordStage o a v) s (s.regWrite o a.toNat 15 v) := by
  show execWinWordStage o a v s = _
  rw [execWinWordStage, if_pos h]; rfl

/-- Settles O22: each access lands on the window's word it names. -/
theorem windowAccessesComplete : Obligations.WindowAccessesComplete := by
  unfold Obligations.WindowAccessesComplete
  refine ⟨fun o a v s i w ht hi hw => ?_, fun o a s i w j h hi hw => ?_, fun o a v s i w j ht hi hw => ?_⟩
  · have hrun := runs_cursorWrite o v s (a := a) (by simp [isCursor, hi, hw])
    rw [State.regWrite_lands ht hi] at hrun
    simpa only [State.landWrite, hw] using hrun
  · have hread : s.readBy o a.toNat = (s.winRead o.master (i.base + w.ofs) w j).2.returns
        [(s.winRead o.master (i.base + w.ofs) w j).1] := by
      rw [State.readBy_lands h hi, State.landRead_window hw]
    exact ⟨fun hj => hread ▸ runs_winWordRead o s (isWinWord_inner hi hw hj),
      fun hj => hread ▸ runs_winLastWordRead o s (isWinWord_last hi hw hj)⟩
  · intro c t hc he
    refine ⟨fun hj => ?_, fun hj => ?_⟩
    · have hrun := runs_winWordStage o v s (isWinWord_inner hi hw (Nat.ne_of_lt hj))
      rwa [State.regWrite_lands ht hi, State.landWrite_window hw, State.winWrite_inner hj hc he] at hrun
    · intro x l old ch ofs hg hr hch ha u
      have hrun := runs_winRecordWrite o v s (isWinWord_last hi hw hj)
      rw [State.regWrite_lands ht hi, State.landWrite_window hw, State.winWrite_last hj hc he] at hrun
      dsimp only at hrun
      rwa [State.recordWrite_accepted hg hr hch ha] at hrun

/-! ## Reads (02 R32) -/

/-- A read that reaches a register outside a window changes what its master read and captured alone. -/
theorem State.readBy_frame {s : State} {o : Origin} {a : Nat} (h : s.reaches a = true)
    (hw : ∀ i, regInfo a = some i → i.win = none) :
    ∃ c l, s.readBy o a = { s with host := { s.host with caps := c, readData := l } } := by
  obtain ⟨_, _, i, _, hi⟩ := State.reaches_spec h
  obtain ⟨c, e⟩ := s.readWord_frame o a i
  refine ⟨c, [(s.readWord o a i).1], ?_⟩
  rw [State.readBy_lands h hi, State.landRead_reg (hw i hi), e]
  rfl

/-- Of a state, only what masters read and captured changed. -/
def State.ReadOnly (s t : State) : Prop := ∃ c l, t = { s with host := { s.host with caps := c, readData := l } }

theorem State.ReadOnly.refl (s : State) : s.ReadOnly s := ⟨s.host.caps, s.host.readData, rfl⟩

/-- After a read, only the message path has changed beside. -/
theorem State.ReadOnly.settled {s t : State} (h : s.ReadOnly t) :
    (settle t).host.wins = s.host.wins ∧ (settle t).host.inProg = s.host.inProg ∧ (settle t).host.out = s.host.out ∧
      settle t = { s with regs := (settle t).regs, host := (settle t).host } ∧
      ∀ k, k ≠ R.IRQROUTE_VEC_ARMED 0 → k ≠ R.PCIE_MSIX_PBA → (settle t).r k = s.r k := by
  have hr := fun k => settle_r t (k := k)
  obtain ⟨g, m, e⟩ := settle_frame t
  obtain ⟨c, l, rfl⟩ := h
  refine ⟨by rw [e], by rw [e], by rw [e], by rw [e], fun k h1 h2 => (hr k h1 h2).trans rfl⟩

/-- Settles O12: each of the commands is the read of its register, or, where its condition does not hold, nothing. -/
theorem readsChangeHostOnly : Obligations.ReadsChangeHostOnly := by
  unfold Obligations.ReadsChangeHostOnly
  intro o a ch pin s p hp h hw
  have hread : s.ReadOnly (s.readBy o p.2) := State.readBy_frame h hw
  have hany : ∃ t, exec p.1 s = done t ∧ s.ReadOnly t := by
    simp only [List.mem_cons, List.not_mem_nil, or_false] at hp
    obtain rfl | rfl | rfl | rfl | rfl | rfl := hp
    case inl =>
      refine ⟨_, rfl, ?_⟩
      split
      · exact hread
      · exact .refl s
    case inr.inr.inl =>
      refine ⟨_, rfl, ?_⟩
      split
      · split
        · exact .refl s
        · exact hread
      · exact .refl s
    all_goals exact ⟨_, rfl, hread⟩
  obtain ⟨t, e, ht⟩ := hany
  exact ⟨settle t, e, ht.settled⟩

end Sys2Proof.Machine
end

section
/-!
PROOFS. Writes of the registers that act (02 R37; 03 R63, R65; 05 R94, R97 to R99; 06, 07, 09, 13, 14, 16), with the
statements O23 and O25 to O27.
-/
namespace Sys2Proof.Machine

/-! ## The interrupt path (03 R63, R65; 05 R94) -/

theorem plainAt_route : ∀ src < 512, plainAt (routeOfs src) .irqroute (src / 256) none = true := by
  have h : ∀ a < 16, ∀ b < 32, plainAt (routeOfs (32 * a + b)) .irqroute ((32 * a + b) / 256) none = true := by
    decide +kernel
  intro src hs
  have := h (src / 32) (by omega) (src % 32) (by omega)
  rwa [Nat.div_add_mod] at this

/-- A write that a route entry takes (03 R63). -/
theorem State.regWrite_route {s : State} {o : Origin} {src : Nat} {v : Word} (hs : src < 512) (ht : s.takes (routeOfs src) v) :
    s.regWrite o (routeOfs src) 15 v = (s.touchAcc o).routeWrite (routeOfs src) v := by
  obtain ⟨i, hk, _, _, e⟩ := State.regWrite_plain (o := o) ht (plainAt_route src hs) nofun
  have hpo : 0x900 ≤ routeOfs src % 0x1000 := by
    simp only [routeOfs, R.IRQROUTE_ROUTE]; omega
  rw [e]
  simp only [State.plainWrite, hk, hpo, if_true]

theorem State.regWrite_vecEoi {s : State} {o : Origin} {v : Word} (ht : s.takes (R.IRQROUTE_VEC_EOI 0) v) :
    s.regWrite o (R.IRQROUTE_VEC_EOI 0) 15 v = (s.touchAcc o).vecEoi v := by
  obtain ⟨i, hk, hn, _, e⟩ :=
    State.regWrite_plain (o := o) (k := .irqroute) (n := 0) (u := none) ht (by decide +kernel) nofun
  rw [e]
  simp only [State.plainWrite, hk, hn]
  rfl

theorem plainAt_msixCtrl : ∀ k : Fin 32, plainAt (R.PCIE_MSIX_CTRL k.val) .pcie 0 none = true ∧
    ∀ m, nw (flag m) &&& reservedAt (R.PCIE_MSIX_CTRL k.val) = 0 := by decide +kernel

/-- A write of the mask of an MSI-X entry (05 R94). -/
theorem State.regWrite_msixCtrl {s : State} {k : Fin 32} {m : Bool} (h : s.reaches (R.PCIE_MSIX_CTRL k.val) = true) :
    s.regWrite .pcie (R.PCIE_MSIX_CTRL k.val) 15 (nw (flag m)) = (s.touchAcc .pcie).msixCtrl k.val m := by
  obtain ⟨hp, hr⟩ := plainAt_msixCtrl k
  obtain ⟨i, hk, _, _, e⟩ := State.regWrite_plain (o := .pcie) ⟨h, hr m⟩ hp nofun
  have hpo : R.PCIE_MSIX_CTRL k.val % 0x1000 = 0x90C + 16 * k.val := by
    simp only [R.PCIE_MSIX_CTRL]; omega
  have hc : 0x900 ≤ 0x90C + 16 * k.val ∧ 0x90C + 16 * k.val < 0xB00 ∧ (0x90C + 16 * k.val) % 16 = 12 := by omega
  have hn : (0x90C + 16 * k.val - 0x900) / 16 = k.val := by omega
  have hm : bit (nw (flag m)) 0 = m := by cases m <;> rfl
  rw [e]
  simp only [State.plainWrite, hk, hpo, hc, and_self, if_true, hn, hm]

/-- Settles O23. -/
theorem interruptWritesComplete : Obligations.InterruptWritesComplete := by
  unfold Obligations.InterruptWritesComplete
  refine ⟨fun o src v s ht hv => ?_, fun o src v s ht hv => ?_, fun o v s ht => ?_, fun k m s h => ?_, fun m s h => ?_⟩
  · have e := State.regWrite_route (o := o) src.isLt ht
    rw [State.routeWrite, if_neg (Nat.not_lt.mpr hv)] at e
    rw [← e]; rfl
  · have e := State.regWrite_route (o := o) src.isLt ht
    rw [State.routeWrite, if_pos hv] at e
    rw [← e]; rfl
  · rw [← State.regWrite_vecEoi ht]; rfl
  · rw [← State.regWrite_msixCtrl h]; rfl
  · show execMsixMaskWrite none m s = _
    rw [execMsixMaskWrite, if_pos h]; rfl

/-! ## Rings (05 R97 to R99) -/

theorem plainAt_ring : ∀ n : Fin 4, ∀ a ∈ [R.PORCH_RING_CTRL n.val, R.PORCH_CMD_TAIL n.val, R.PORCH_CPL_HEAD n.val],
    plainAt a .porch 0 none = true := by decide +kernel

/-- A write that register `k` of ring `n` takes, from a master that may write the ring, is the ring's write (05 R97). -/
theorem State.regWrite_ring {s : State} {o : Origin} {n : Fin 4} {a : Nat} {v : Word}
    (ha : a ∈ [R.PORCH_RING_CTRL n.val, R.PORCH_CMD_TAIL n.val, R.PORCH_CPL_HEAD n.val]) (ht : s.takes a v)
    (ho : o.isHost = true → n.val < 2) :
    s.regWrite o a 15 v =
      let t := s.touchAcc o
      if a = R.PORCH_RING_CTRL n.val then t.ringCtrl n.val v
      else t.ringIndex a (if a = R.PORCH_CMD_TAIL n.val then t.cmdSize n.val else t.cplSize n.val) v := by
  obtain ⟨i, hk, _, _, e⟩ := State.regWrite_plain (o := o) ht (plainAt_ring n a ha) nofun
  have hro : (o.isHost && decide (2 ≤ n.val)) = false := by
    cases h : o.isHost
    · rfl
    · simpa using ho h
  have hpage : (a % 0x1000 - 0x100) / 0x40 = n.val ∧ a / 0x1000 = 0x102 := by
    simp only [List.mem_cons, List.not_mem_nil, or_false] at ha
    rcases ha with rfl | rfl | rfl <;> simp only [R.PORCH_RING_CTRL, R.PORCH_CMD_TAIL, R.PORCH_CPL_HEAD] <;> omega
  rw [e]
  simp only [State.plainWrite, hk, State.porchWrite, hpage.1, hro, Bool.false_eq_true, if_false]
  simp only [List.mem_cons, List.not_mem_nil, or_false] at ha
  rcases ha with rfl | rfl | rfl
  · have h : (R.PORCH_RING_CTRL n.val % 0x1000 - 0x100) % 0x40 = 0x00 := by simp only [R.PORCH_RING_CTRL]; omega
    simp only [h, if_true]
  · have h : (R.PORCH_CMD_TAIL n.val % 0x1000 - 0x100) % 0x40 = 0x0C := by simp only [R.PORCH_CMD_TAIL]; omega
    have hne : R.PORCH_CMD_TAIL n.val ≠ R.PORCH_RING_CTRL n.val := by simp [R.PORCH_CMD_TAIL, R.PORCH_RING_CTRL]
    simp only [h, hne, if_false, if_true]
  · have h : (R.PORCH_CPL_HEAD n.val % 0x1000 - 0x100) % 0x40 = 0x18 := by simp only [R.PORCH_CPL_HEAD]; omega
    have hne : R.PORCH_CPL_HEAD n.val ≠ R.PORCH_RING_CTRL n.val := by simp [R.PORCH_CPL_HEAD, R.PORCH_RING_CTRL]
    have hne' : R.PORCH_CPL_HEAD n.val ≠ R.PORCH_CMD_TAIL n.val := by simp [R.PORCH_CPL_HEAD, R.PORCH_CMD_TAIL]
    simp only [h, hne, hne', if_false]

theorem State.touchAcc_ringEn (s : State) (o : Origin) (n : Nat) : (s.touchAcc o).ringEn n = s.ringEn n :=
  s.touchAcc_b o _ _

theorem State.touchAcc_ringsFit (s : State) (o : Origin) (n c p : Nat) :
    (s.touchAcc o).ringsFit n c p = s.ringsFit n c p := by
  simp only [State.ringsFit, State.touchAcc_f]

/-- A write of RING_CTRL with legal sizes: a disabled ring takes them, an enabled one of the same sizes takes EN. -/
theorem State.ringCtrl_legal {s : State} {n : Nat} {v : Word} (h : 4 ≤ fld v 3 0 ∧ fld v 3 0 ≤ 10 ∧ 4 ≤ fld v 11 8 ∧
    fld v 11 8 ≤ 10) :
    let a := R.PORCH_RING_CTRL n
    let t := s.w a (nw (flag (bit v 31) * 2 ^ 31 + fld v 11 8 * 256 + fld v 3 0))
    (s.ringEn n = false → bit v 31 = true → s.ringsFit n (fld v 3 0) (fld v 11 8) = true → s.ringCtrl n v = t.ringStart n) ∧
    (s.ringEn n = false → bit v 31 = false → s.ringCtrl n v = t) ∧
    (s.ringEn n = true → fld v 3 0 = s.f a 3 0 → fld v 11 8 = s.f a 11 8 → s.ringCtrl n v = s.wb a 31 (bit v 31)) := by
  obtain ⟨h1, h2, h3, h4⟩ := h
  refine ⟨fun hen hv hfit => ?_, fun hen hv => ?_, fun hen hc hp => ?_⟩
  · simp [State.ringCtrl, h1, h2, h3, h4, hen, hv, hfit]
  · simp [State.ringCtrl, h1, h2, h3, h4, hen, hv]
  · simp only [hc, hp] at h1 h2 h3 h4
    simp [State.ringCtrl, h1, h2, h3, h4, hen, hc, hp]

/-- Settles O25. -/
theorem ringWritesComplete : Obligations.RingWritesComplete := by
  unfold Obligations.RingWritesComplete
  refine ⟨fun o n v s ht ho h1 h2 h3 h4 => ?_, fun o n v s ht ho hv => ?_, fun o n v s ht ho hv => ?_⟩
  · have hrun : Runs (.ringCtrlWrite o n v) s (s.regWrite o (R.PORCH_RING_CTRL n.val) 15 v) := rfl
    rw [State.regWrite_ring (.head _) ht ho] at hrun
    dsimp only at hrun
    rw [if_pos rfl] at hrun
    obtain ⟨hstart, hoff, hon⟩ := State.ringCtrl_legal (s := s.touchAcc o) (n := n.val) ⟨h1, h2, h3, h4⟩
    rw [State.touchAcc_ringEn, State.touchAcc_ringsFit] at hstart
    rw [State.touchAcc_ringEn] at hoff
    rw [State.touchAcc_ringEn, State.touchAcc_f, State.touchAcc_f] at hon
    exact ⟨fun a b c => hstart a b c ▸ hrun, fun a b => hoff a b ▸ hrun, fun a b c => hon a b c ▸ hrun⟩
  · have hrun : Runs (.cmdTailDoorbell o n v) s (s.regWrite o (R.PORCH_CMD_TAIL n.val) 15 v) := rfl
    have hne : R.PORCH_CMD_TAIL n.val ≠ R.PORCH_RING_CTRL n.val := by simp [R.PORCH_CMD_TAIL, R.PORCH_RING_CTRL]
    have hsize : (s.touchAcc o).cmdSize n.val = s.cmdSize n.val := by simp only [State.cmdSize, State.touchAcc_f]
    rw [State.regWrite_ring (.tail _ (.head _)) ht ho] at hrun
    simp only [hne, if_false, if_true, State.ringIndex, hsize, Nat.not_le.mpr hv] at hrun
    exact hrun
  · have hrun : Runs (.cplHeadWrite o n v) s (s.regWrite o (R.PORCH_CPL_HEAD n.val) 15 v) := rfl
    have hne : R.PORCH_CPL_HEAD n.val ≠ R.PORCH_RING_CTRL n.val := by simp [R.PORCH_CPL_HEAD, R.PORCH_RING_CTRL]
    have hne' : R.PORCH_CPL_HEAD n.val ≠ R.PORCH_CMD_TAIL n.val := by simp [R.PORCH_CPL_HEAD, R.PORCH_CMD_TAIL]
    have hsize : (s.touchAcc o).cplSize n.val = s.cplSize n.val := by simp only [State.cplSize, State.touchAcc_f]
    rw [State.regWrite_ring (.tail _ (.tail _ (.head _))) ht ho] at hrun
    simp only [hne, hne', if_false, State.ringIndex, hsize, Nat.not_le.mpr hv] at hrun
    exact hrun

/-! ## Actions of the memory unit and of the look-ahead pages (06, 07, 09) -/

/-- An action: a write of a value that sets no reserved bit of a plain register. -/
theorem State.regWrite_action {s : State} {o : Origin} {a n : Nat} {v : Word} {k : PageKind} {u : Option Nat}
    (h : s.reaches a = true) (hv : v &&& reservedAt a = 0) (hp : plainAt a k n u = true)
    (hd : k = .dma → dmaOwner o n = true) :
    ∃ i, i.page.kind = k ∧ i.inst = n ∧ i.unit = u ∧ s.regWrite o a 15 v = (s.touchAcc o).plainWrite o i a v :=
  State.regWrite_plain ⟨h, hv⟩ hp hd

theorem plainAt_dma : ∀ ch : Fin 16,
    (plainAt (R.DMA_CTRL ch.val) .dma ch.val none = true ∧ plainAt (R.DMA_DESC_PTR ch.val) .dma ch.val none = true) ∧
      (1 : Word) &&& reservedAt (R.DMA_CTRL ch.val) = 0 ∧ (2 : Word) &&& reservedAt (R.DMA_CTRL ch.val) = 0 ∧
        (4 : Word) &&& reservedAt (R.DMA_CTRL ch.val) = 0 := by decide +kernel

theorem State.regWrite_dmaCtrl {s : State} {o : Origin} {ch : Fin 16} {v : Word} (h : s.reaches (R.DMA_CTRL ch.val) = true)
    (hv : v &&& reservedAt (R.DMA_CTRL ch.val) = 0) (ho : dmaOwner o ch.val = true) :
    s.regWrite o (R.DMA_CTRL ch.val) 15 v = (s.touchAcc o).dmaCtrl ch.val v := by
  obtain ⟨i, hk, hn, _, e⟩ := State.regWrite_action (o := o) h hv (plainAt_dma ch).1.1 fun _ => ho
  have hpo : R.DMA_CTRL ch.val % 0x1000 = 0x040 := by simp only [R.DMA_CTRL]; omega
  rw [e]
  simp only [State.plainWrite, hk, State.dmaWrite, hpo, hn, if_true]

theorem State.regWrite_dmaPtr {s : State} {o : Origin} {ch : Fin 16} {v : Word} (h : s.takes (R.DMA_DESC_PTR ch.val) v)
    (ho : dmaOwner o ch.val = true) : s.regWrite o (R.DMA_DESC_PTR ch.val) 15 v = (s.touchAcc o).dmaPtr ch.val v := by
  obtain ⟨i, hk, hn, _, e⟩ := State.regWrite_plain (o := o) h (plainAt_dma ch).1.2 fun _ => ho
  have hpo : R.DMA_DESC_PTR ch.val % 0x1000 = 0x044 := by simp only [R.DMA_DESC_PTR]; omega
  rw [e]
  simp only [State.plainWrite, hk, State.dmaWrite, hpo, hn]
  rfl

/-- Each action bit of DMA CTRL alone (06 R130). -/
theorem State.dmaCtrl_start (s : State) (ch : Nat) : s.dmaCtrl ch 1 = s.dmaStart ch := rfl
theorem State.dmaCtrl_stop (s : State) (ch : Nat) : s.dmaCtrl ch 2 = s.dmaStopCmd ch := rfl
theorem State.dmaCtrl_resume (s : State) (ch : Nat) : s.dmaCtrl ch 4 = s.dmaResume ch := rfl

/-- Settles O26. -/
theorem unitWritesComplete : Obligations.UnitWritesComplete := by
  unfold Obligations.UnitWritesComplete
  refine ⟨fun o v s ht => ?_, fun o ch s h ho => ?_, fun o ch v s ht ho => ?_, fun o s h => ?_, fun o v s ht => ?_,
    fun o s h => ?_, fun o s h => ?_⟩
  · obtain ⟨i, hk, _, _, e⟩ :=
      State.regWrite_plain (o := o) (k := .xlate) (n := 0) (u := none) ht (by decide +kernel) nofun
    show done (s.regWrite o R.XLATE_INV 15 v) = _
    rw [e]
    simp only [State.plainWrite, hk]
    rfl
  · intro t
    obtain ⟨_, hstart, hstop, hresume⟩ := plainAt_dma ch
    refine ⟨fun hst => ?_, ?_, ?_⟩
    · have hidle : t.dmaSt ch.val = 0 := by rw [State.dmaSt, State.touchAcc_f]; exact hst
      show done (s.regWrite o (R.DMA_CTRL ch.val) 15 1) = _
      rw [State.regWrite_dmaCtrl h hstart ho, State.dmaCtrl_start, State.dmaStart, if_pos hidle, State.touchAcc_r]; rfl
    · show done (s.regWrite o (R.DMA_CTRL ch.val) 15 2) = _
      rw [State.regWrite_dmaCtrl h hstop ho, State.dmaCtrl_stop]; rfl
    · show done (s.regWrite o (R.DMA_CTRL ch.val) 15 4) = _
      rw [State.regWrite_dmaCtrl h hresume ho, State.dmaCtrl_resume]; rfl
  · rw [← State.regWrite_dmaPtr ht ho]; rfl
  · obtain ⟨i, hk, _, _, e⟩ := State.regWrite_action (o := o) (v := 1) (k := .xfault) (n := 0) (u := none) h
      (by decide +kernel) (by decide +kernel) nofun
    show done (s.regWrite o R.XFAULT_LOG_CTRL 15 1) = _
    rw [e]
    simp only [State.plainWrite, hk]
    rfl
  · obtain ⟨i, hk, _, _, e⟩ :=
      State.regWrite_plain (o := o) (k := .posein) (n := 0) (u := none) ht (by decide +kernel) nofun
    show done (s.regWrite o (R.POSEIN_HOST_POSE 9) 15 v) = _
    rw [e]
    simp only [State.plainWrite, hk, if_true, hostPoseWrite]
    rfl
  · obtain ⟨i, hk, _, _, e⟩ := State.regWrite_action (o := o) (v := 1) (k := .commit) (n := 0) (u := none) h
      (by decide +kernel) (by decide +kernel) nofun
    show done (s.regWrite o R.COMMIT_CNT_CTRL 15 1) = _
    rw [e]
    simp only [State.plainWrite, hk, if_true]
    rfl
  · obtain ⟨i, hk, _, _, e⟩ := State.regWrite_action (o := o) (v := 1) (k := .retire) (n := 0) (u := none) h
      (by decide +kernel) (by decide +kernel) nofun
    show done (s.regWrite o R.RETIRE_LOST_CTRL 15 1) = _
    rw [e]
    simp only [State.plainWrite, hk, if_true]
    rfl

/-! ## Islands, trace, PWM, trips and tracking channels (02 R37; 13 R299; 14; 16) -/

theorem plainAt_spec {a n : Nat} {k : PageKind} {u : Option Nat} (h : plainAt a k n u = true) :
    ∃ i, regInfo a = some i ∧ i.page.kind = k ∧ i.inst = n ∧ i.unit = u := by
  unfold plainAt at h
  split at h
  · next i hi =>
    simp only [Bool.and_eq_true, beq_iff_eq] at h
    exact ⟨i, hi, h.1.1.1.1.1.1, h.1.1.1.1.1.2, h.1.1.1.1.2⟩
  · cases h

/-- A setting of the islands that the mode permits, with no field of 0b11, is stored (02 R37). -/
theorem State.islCtrl_permitted {s : State} {v : Word} (hg : s.variant = .g)
    (h : ∀ lo ∈ [0, 2, 4, 6, 8], fld v (lo + 1) lo ≠ 3 ∧ islandFits lo s.mode (fld v (lo + 1) lo) = true) :
    s.islCtrl v = [0, 2, 4, 6, 8].foldl (fun t lo => t.wf R.CLOCK_ISL_CTRL (lo + 1) lo (fld v (lo + 1) lo)) s := by
  have hv : s.variant ≠ .n := by rw [hg]; decide
  simp only [List.forall_mem_cons, List.not_mem_nil, false_imp_iff, implies_true, and_true] at h
  obtain ⟨⟨a0, b0⟩, ⟨a2, b2⟩, ⟨a4, b4⟩, ⟨a6, b6⟩, a8, b8⟩ := h
  simp only [State.islCtrl, List.all_cons, List.all_nil, List.foldl_cons, List.foldl_nil, hv, and_false, or_false, a0, a2, a4,
    a6, a8, if_false, b0, b2, b4, b6, b8, Bool.and_self, if_true]

theorem reserved_traceCtrl : (1 : Word) &&& reservedAt R.TRACE_CTRL = 0 ∧ (2 : Word) &&& reservedAt R.TRACE_CTRL = 0 ∧
    (4 : Word) &&& reservedAt R.TRACE_CTRL = 0 := by decide +kernel

theorem State.regWrite_traceCtrl {s : State} {o : Origin} {v : Word} (h : s.reaches R.TRACE_CTRL = true)
    (hv : v &&& reservedAt R.TRACE_CTRL = 0) : s.regWrite o R.TRACE_CTRL 15 v = (s.touchAcc o).traceCtrl v := by
  obtain ⟨i, hk, _, _, e⟩ :=
    State.regWrite_action (o := o) (k := .trace) (n := 0) (u := none) h hv (by decide +kernel) nofun
  rw [e]
  simp only [State.plainWrite, hk, if_true]

theorem State.traceCtrl_arm (s : State) : s.traceCtrl 1 = s.traceArm := rfl
theorem State.traceCtrl_force (s : State) : s.traceCtrl 2 = s.traceForce := rfl
theorem State.traceCtrl_stop (s : State) : s.traceCtrl 4 = s.traceStop := rfl

theorem plainAt_clCtrl : ∀ k : Fin 6, plainAt (R.PWMC_CL_CTRL k.val) .pwmc k.val none = true := by decide +kernel

theorem State.regWrite_clCtrl {s : State} {o : Origin} {k : Fin 6} {v : Word} (h : s.takes (R.PWMC_CL_CTRL k.val) v) :
    s.regWrite o (R.PWMC_CL_CTRL k.val) 15 v = (s.touchAcc o).armCluster k.val v := by
  obtain ⟨i, hk, hn, hu, e⟩ := State.regWrite_plain (o := o) h (plainAt_clCtrl k) nofun
  have hpo : R.PWMC_CL_CTRL k.val % 0x1000 = 0x04C := by simp only [R.PWMC_CL_CTRL]; omega
  rw [e]
  simp only [State.plainWrite, hk, State.pwmWrite, hu, hpo, hn, if_true]

/-- The fields of a PWM channel that a loop or a motor outlet owns (14 R309). -/
theorem plainAt_owned : ∀ ch : Fin 48, (∀ k : Fin 3,
    plainAt (R.PWMC_U ch.val (0x28 + 4 * k.val)) .pwmc (ch.val / 8) (some (ch.val % 8)) = true) ∧
    plainAt (R.PWMC_U ch.val 0x38) .pwmc (ch.val / 8) (some (ch.val % 8)) = true := by decide +kernel

theorem pwmU_offset {u o : Nat} (ho : o < 0x100) : (R.PWMC_U u o % 0x1000 - 0x100) % 0x100 = o := by
  simp only [R.PWMC_U, frm, pg]; omega

theorem pwmU_toNat {u o : Nat} (hu : u < 48) (ho : o < 0x100) : (BitVec.ofNat 24 (R.PWMC_U u o)).toNat = R.PWMC_U u o := by
  simp only [R.PWMC_U, frm, pg, BitVec.toNat_ofNat]; omega

@[simp] theorem State.touchAcc_loopOwned (s : State) (o : Origin) (u : Nat) : (s.touchAcc o).loopOwned u = s.loopOwned u := by
  obtain ⟨x, e⟩ := s.touchAcc_frame o; rw [e]; rfl

@[simp] theorem State.touchAcc_motorOwned (s : State) (o : Origin) (u : Nat) :
    (s.touchAcc o).motorOwned u = s.motorOwned u := by
  obtain ⟨x, e⟩ := s.touchAcc_frame o; rw [e]; rfl

/-- A write of an owned field of a PWM channel changes nothing but latches the fault (14 R309). -/
theorem runs_ownedWrite {s : State} {o : Origin} {ch : Fin 48} {ofs : Nat} {v : Word} (ho : ofs < 0x100)
    (ht : s.takes (R.PWMC_U ch.val ofs) v) (hp : plainAt (R.PWMC_U ch.val ofs) .pwmc (ch.val / 8) (some (ch.val % 8)) = true)
    (hown : (ofs = 0x28 ∨ ofs = 0x2C ∨ ofs = 0x30) ∧ s.loopOwned ch.val = true ∨ ofs = 0x38 ∧ s.motorOwned ch.val = true) :
    Runs (.ownedWrite o (BitVec.ofNat 24 (R.PWMC_U ch.val ofs)) v) s ((s.touchAcc o).pwmOwned ch.val) := by
  have hch : 8 * (ch.val / 8) + ch.val % 8 = ch.val := by omega
  have hpo := pwmU_offset (u := ch.val) ho
  have hfield : s.ownedField (R.PWMC_U ch.val ofs) = true := by
    obtain ⟨i, hi, hk, hn, hu⟩ := plainAt_spec hp
    simp only [State.ownedField, hi, hk, hu, hpo, hn, hch]
    obtain ⟨rfl | rfl | rfl, h⟩ | ⟨rfl, h⟩ := hown <;> exact h
  have hwrite : s.regWrite o (R.PWMC_U ch.val ofs) 15 v = (s.touchAcc o).pwmOwned ch.val := by
    obtain ⟨i, hk, hn, hu, e⟩ := State.regWrite_plain (o := o) ht hp nofun
    rw [e]
    simp only [State.plainWrite, hk, State.pwmWrite, hu, hpo, hn, hch]
    obtain ⟨rfl | rfl | rfl, h⟩ | ⟨rfl, h⟩ := hown <;> simp only [State.touchAcc_loopOwned, State.touchAcc_motorOwned, h, if_true]
  show execOwnedWrite o _ v s = _
  rw [execOwnedWrite, pwmU_toNat ch.isLt ho, if_pos hfield, hwrite]; rfl

theorem plainAt_gchCtrl (ch : Fin 256) : plainAt (R.GCH_CH_CTRL ch.val) .gch (ch.val / 8) (some (ch.val % 8)) = true ∧
    (1 : Word) &&& reservedAt (R.GCH_CH_CTRL ch.val) = 0 ∧ (2 : Word) &&& reservedAt (R.GCH_CH_CTRL ch.val) = 0 ∧
    (4 : Word) &&& reservedAt (R.GCH_CH_CTRL ch.val) = 0 := by
  have h : ∀ p < 32, ∀ u < 8, plainAt (R.GCH_CH_CTRL (8 * p + u)) .gch p (some u) = true ∧
      (1 : Word) &&& reservedAt (R.GCH_CH_CTRL (8 * p + u)) = 0 ∧ (2 : Word) &&& reservedAt (R.GCH_CH_CTRL (8 * p + u)) = 0 ∧
      (4 : Word) &&& reservedAt (R.GCH_CH_CTRL (8 * p + u)) = 0 := by decide +kernel
  have := h (ch.val / 8) (by omega) (ch.val % 8) (by omega)
  rwa [Nat.div_add_mod] at this

/-- A write of CH_CTRL of a tracking channel that is the writer's (16 R346, R349). -/
theorem State.regWrite_gchCtrl {s : State} {o : Origin} {ch : Fin 256} {v : Word} (h : s.reaches (R.GCH_CH_CTRL ch.val) = true)
    (hv : v &&& reservedAt (R.GCH_CH_CTRL ch.val) = 0) (ho : o.isHost = true → s.gchHost ch.val = true) :
    s.regWrite o (R.GCH_CH_CTRL ch.val) 15 v = (s.touchAcc o).gchCtrl ch.val v := by
  obtain ⟨i, hk, hn, hu, e⟩ := State.regWrite_action (o := o) h hv (plainAt_gchCtrl ch).1 nofun
  have hch : 8 * (ch.val / 8) + ch.val % 8 = ch.val := by omega
  have hpo : (R.GCH_CH_CTRL ch.val % 0x1000 - 0x100) % 0x100 = 0x4C := by
    simp only [R.GCH_CH_CTRL, R.GCH_U, frm, pg]; omega
  have hmine : (o.isHost && !(s.touchAcc o).gchHost ch.val) = false := by
    rw [State.gchHost, State.touchAcc_b, ← State.gchHost]
    cases hh : o.isHost
    · rfl
    · rw [ho hh]; rfl
  rw [e]
  simp only [State.plainWrite, hk, hu, State.gchWrite, hn, hch, hmine, hpo, Bool.false_eq_true, if_false, if_true]

theorem State.gchCtrl_start (s : State) (u : Nat) : s.gchCtrl u 1 = s.gchStart u := rfl
theorem State.gchCtrl_stop (s : State) (u : Nat) : s.gchCtrl u 2 = s.gchStop u := rfl
theorem State.gchCtrl_update (s : State) (u : Nat) : s.gchCtrl u 4 = s.gchUpdate u := rfl

/-- CL_OWN is a configuration register of a page of kind `gch`, with no field of a type that asks for SETUP. -/
def isClOwn (a n : Nat) : Bool :=
  match regInfo a with
  | some i => i.page.kind == .gch && i.inst == n && i.unit.isNone && isConfig a && !i.fields.any (fun f => f.ty == .rws)
  | none => false

theorem isClOwn_clOwn : ∀ p : Fin 32, isClOwn (R.GCH_CL_OWN p.val) p.val = true := by decide +kernel

/-- Settles O27. -/
theorem engineWritesComplete : Obligations.EngineWritesComplete := by
  unfold Obligations.EngineWritesComplete
  refine ⟨fun o v s ht hg h => ?_, fun o s h => ?_, fun o cl v s ht => ?_, fun o ch k v s ht h => ?_, fun o ch v s ht h => ?_,
    fun o v s ht => ?_, fun o ch s h ho => ?_, fun o page v s i ht hi => ?_⟩
  · obtain ⟨i, hk, _, _, e⟩ :=
      State.regWrite_plain (o := o) (k := .clock) (n := 0) (u := none) ht (by decide +kernel) nofun
    have hmode : (s.touchAcc o).mode = s.mode := s.touchAcc_f o _ _ _
    rw [← State.islCtrl_permitted ((s.touchAcc_variant o).trans hg) (by rwa [hmode])]
    show done (s.regWrite o R.CLOCK_ISL_CTRL 15 v) = _
    rw [e]
    simp only [State.plainWrite, hk, if_true]
    rfl
  · obtain ⟨harm, hforce, hstop⟩ := reserved_traceCtrl
    rw [← State.traceCtrl_arm, ← State.traceCtrl_force, ← State.traceCtrl_stop, ← State.regWrite_traceCtrl h harm,
      ← State.regWrite_traceCtrl h hforce, ← State.regWrite_traceCtrl h hstop]
    exact ⟨rfl, rfl, rfl⟩
  · rw [← State.regWrite_clCtrl ht]; rfl
  · exact runs_ownedWrite (by omega) ht ((plainAt_owned ch).1 k) (.inl ⟨by omega, h⟩)
  · exact runs_ownedWrite (by decide) ht (plainAt_owned ch).2 (.inr ⟨rfl, h⟩)
  · obtain ⟨i, hk, _, _, e⟩ :=
      State.regWrite_plain (o := o) (k := .trip) (n := 0) (u := none) ht (by decide +kernel) nofun
    show done (s.regWrite o R.TRIP_TRIP_CLR 15 v) = _
    rw [e]
    simp only [State.plainWrite, hk]
    rfl
  · intro t
    obtain ⟨_, hstart, hstop, hupd⟩ := plainAt_gchCtrl ch
    rw [← State.gchCtrl_start, ← State.gchCtrl_stop, ← State.gchCtrl_update, ← State.regWrite_gchCtrl h hstart ho,
      ← State.regWrite_gchCtrl h hstop ho, ← State.regWrite_gchCtrl h hupd ho]
    exact ⟨rfl, rfl, rfl⟩
  · intro a t new hgate hst hval hne haud
    have hown := isClOwn_clOwn page
    simp only [isClOwn, hi, Bool.and_eq_true, beq_iff_eq, Option.isNone_iff_eq_none, Bool.not_eq_true'] at hown
    obtain ⟨⟨⟨⟨hk, hn⟩, hu⟩, hcfg⟩, hrws⟩ := hown
    obtain ⟨hw, hc⟩ := isConfig_spec hi hcfg
    have hpo : R.GCH_CL_OWN page.val % 0x1000 = 0x040 := by simp only [R.GCH_CL_OWN]; omega
    have hrun : Runs (.clOwnWrite o page v) s (s.regWrite o (R.GCH_CL_OWN page.val) 15 v) := rfl
    rw [State.regWrite_lands ht hi,
      State.landWrite_config hw (by rw [hk]; decide) (by omega) (by rw [hu]; nofun) hc,
      State.cfgWrite_accepted (by rw [hrws]; exact hgate) hst hval hne haud, State.setConfig, if_pos ⟨hk, hpo⟩, hn] at hrun
    exact hrun

end Sys2Proof.Machine
end

section
/-!
PROOFS. Captured words and the host's accesses: capturing reads (02 R32), quad-SPI frames (05 R93), BAR2 and the other PCIe
events (05 R91, R92, R95), with the statements O11, O17, O18, O24, O36 and O37.
-/
namespace Sys2Proof.Machine

/-- A command whose meaning is `done` of a state answers the settled form of what that state is equal to. -/
theorem Runs.of {i : Instr} {s t u : State} (h : exec i s = done u) (e : u = t) : Runs i s t := e ▸ h

/-! ## Registers that begin a group of captured words (02 R32) -/

/-- Offset `a` is a register of kind `k` and domain `d` outside headers, windows and captures, one that reads show. -/
def readableAt (a : Nat) (k : PageKind) (d : Nat) (u : Option Nat) : Bool :=
  match regInfo a with
  | some i => i.page.kind == k && i.page.domain == d && i.unit == u && i.win.isNone && !inCapture a i &&
      !(!i.fields.isEmpty && i.fields.all (fun f => f.ty == .wo)) && decide (0x40 ≤ a % 0x1000)
  | none => false

theorem readableAt_spec {a d : Nat} {k : PageKind} {u : Option Nat} {i : RegInfo} (h : readableAt a k d u = true)
    (hi : regInfo a = some i) : i.page.kind = k ∧ i.page.domain = d ∧ i.unit = u ∧ i.win = none ∧ inCapture a i = false ∧
      (!i.fields.isEmpty && i.fields.all (fun f => f.ty == .wo)) = false ∧ ¬ a % 0x1000 < 0x40 := by
  simp only [readableAt, hi, Bool.and_eq_true, beq_iff_eq, Option.isNone_iff_eq_none, Bool.not_eq_true',
    decide_eq_true_eq] at h
  obtain ⟨⟨⟨⟨⟨⟨hk, hd⟩, hu⟩, hw⟩, hc⟩, hwo⟩, h40⟩ := h
  exact ⟨hk, hd, hu, hw, hc, hwo, Nat.not_lt.mpr h40⟩

/-- A read of the first word of a group returns the register. -/
theorem State.readBy_first {s : State} {o : Origin} {a : Nat} {i : RegInfo} (h : s.reaches a = true) (hi : regInfo a = some i)
    (hw : i.win = none) (hc : inCapture a i = false) :
    s.readBy o a = (s.readWord o a i).2.returns [s.readReg a i] := by
  rw [State.readBy_lands h hi, State.landRead_reg hw]
  simp only [State.readWord, hc, Bool.false_eq_true, if_false]

theorem State.readReg_dtLo (s : State) {i : RegInfo} (hi : regInfo R.TIME_DT_LO = some i) : s.readReg R.TIME_DT_LO i = nw s.dt := by
  obtain ⟨hk, hd, hu, _, _, hwo, h40⟩ :=
    readableAt_spec (k := .time) (d := 0) (u := none) (by decide +kernel) hi
  simp only [State.readReg, h40, hwo, hu, hk, hd, Bool.false_eq_true, if_false, State.readSys]
  rfl

theorem State.readReg_lastPose (s : State) {i : RegInfo} (hi : regInfo (R.POSEIN_LAST_POSE 0) = some i) :
    s.readReg (R.POSEIN_LAST_POSE 0) i = s.r (R.POSEIN_LAST_POSE 0) := by
  obtain ⟨hk, hd, hu, _, _, hwo, h40⟩ :=
    readableAt_spec (k := .posein) (d := 3) (u := none) (by decide +kernel) hi
  simp only [State.readReg, h40, hwo, hu, hk, hd, Bool.false_eq_true, if_false, State.readLook]
  rfl

theorem readableAt_gchDump (ch : Fin 256) : readableAt (R.GCH_DMP_DT_LO ch.val) .gch 0xA (some (ch.val % 8)) = true := by
  have h : ∀ p < 32, ∀ u < 8, readableAt (R.GCH_DMP_DT_LO (8 * p + u)) .gch 0xA (some u) = true := by decide +kernel
  have := h (ch.val / 8) (by omega) (ch.val % 8) (by omega)
  rwa [Nat.div_add_mod] at this

theorem State.readReg_gchDump (s : State) {ch : Fin 256} {i : RegInfo} (hi : regInfo (R.GCH_DMP_DT_LO ch.val) = some i) :
    s.readReg (R.GCH_DMP_DT_LO ch.val) i = s.r (R.GCH_DMP_DT_LO ch.val) := by
  obtain ⟨hk, hd, hu, _, _, hwo, h40⟩ := readableAt_spec (readableAt_gchDump ch) hi
  have hpo : (R.GCH_DMP_DT_LO ch.val % 0x1000 - 0x100) % 0x100 = 0x60 := by
    simp only [R.GCH_DMP_DT_LO, R.GCH_U, frm, pg]; omega
  simp only [State.readReg, h40, hwo, hu, hk, hd, hpo, Bool.false_eq_true, if_false, State.readRest]
  rfl

theorem readableAt_info : ∀ n : Fin 2, readableAt (infoOfs n.val) .tpulse 0xA none = true := by decide +kernel

theorem State.readReg_info (s : State) {n : Fin 2} {i : RegInfo} (hi : regInfo (infoOfs n.val) = some i) :
    s.readReg (infoOfs n.val) i = s.r (infoOfs n.val) := by
  obtain ⟨hk, hd, hu, _, _, hwo, h40⟩ := readableAt_spec (readableAt_info n) hi
  have hne : infoOfs n.val ≠ R.TPULSE_T_UNC := by
    have : ∀ n : Fin 2, infoOfs n.val ≠ R.TPULSE_T_UNC := by decide
    exact this n
  simp only [State.readReg, h40, hwo, hu, hk, hd, hne, Bool.false_eq_true, if_false, State.readRest]

/-- A read of DT_LO returns it and keeps both halves for the master. -/
theorem State.readBy_dtLo {s : State} {o : Origin} (h : s.reaches R.TIME_DT_LO = true) : s.readBy o R.TIME_DT_LO =
    ((s.keep o R.TIME_DT_LO (nw s.dt)).keep o R.TIME_DT_HI (nw (s.dt / 2 ^ 32))).returns [nw s.dt] := by
  obtain ⟨_, _, i, _, hi⟩ := State.reaches_spec h
  obtain ⟨hk, _, _, hw, hc, _, _⟩ := readableAt_spec (k := .time) (d := 0) (u := none) (by decide +kernel) hi
  have hgroup : captureGroup R.TIME_DT_LO i = [R.TIME_DT_LO, R.TIME_DT_HI] := by
    simp only [captureGroup, hk, if_true]
    decide
  have hlo : s.readNow R.TIME_DT_LO = nw s.dt := by
    rw [State.readNow, if_neg (by decide)]
    simp only [hi, s.readReg_dtLo hi]
  have hhi : s.readNow R.TIME_DT_HI = nw (s.dt / 2 ^ 32) := by rw [State.readNow, if_pos rfl]
  rw [State.readBy_first h hi hw hc, s.readReg_dtLo hi]
  simp only [State.readWord, hgroup, List.foldl_cons, List.foldl_nil, hlo, hhi]

theorem runs_loCaptureRead {a : BitVec 24} {i : RegInfo} (o : Origin) (s : State) (hi : regInfo a.toNat = some i)
    (hg : captureGroup a.toNat i ≠ []) : Runs (.loCaptureRead o a) s (s.readBy o a.toNat) := by
  show execLoCaptureRead o a s = _
  simp only [execLoCaptureRead, hi, List.isEmpty_iff, hg, if_false]
  rfl

/-- Settles O24: each is the read of the first word of its group. -/
theorem capturingReadsComplete : Obligations.CapturingReadsComplete := by
  unfold Obligations.CapturingReadsComplete
  refine ⟨fun o s h => ?_, fun o a s i h hi hw hg => ?_, fun o s i h hi => ?_, fun o ch s i h hi => ?_, fun o pin s i h hi => ?_⟩
  · rw [← State.readBy_dtLo h]; rfl
  · have hrun := runs_loCaptureRead o s hi hg
    rwa [State.readBy_lands h hi, State.landRead_reg hw] at hrun
  · obtain ⟨_, _, _, hw, hc, _, _⟩ := readableAt_spec (k := .posein) (d := 3) (u := none) (by decide +kernel) hi
    rw [← s.readReg_lastPose hi, ← State.readBy_first h hi hw hc]; rfl
  · obtain ⟨_, _, _, hw, hc, _, _⟩ := readableAt_spec (readableAt_gchDump ch) hi
    rw [← s.readReg_gchDump hi, ← State.readBy_first h hi hw hc]; rfl
  · obtain ⟨_, _, _, hw, hc, _, _⟩ := readableAt_spec (readableAt_info pin) hi
    rw [← s.readReg_info hi, ← State.readBy_first h hi hw hc]; rfl

/-! ## Quad-SPI frames (05 R93) -/

/-- A frame that is answered and whose words and checks are right makes its access, with result 0x0. -/
theorem State.hspiFrame_fine {s : State} {op : Nat} {h : BitVec 40} {hcrc : BitVec 16} (hf : s.hspiFine op h hcrc = true)
    (act : State → State) : s.hspiFrame op h hcrc true true act = (act s.frame).frameRes 0 := by
  simp only [State.hspiFine, Bool.and_eq_true, beq_iff_eq] at hf
  obtain ⟨⟨⟨hup, hcrc⟩, hop⟩, hok⟩ := hf
  simp [State.hspiFrame, hup, hcrc, hop, hok]

/-- Settles O37. -/
theorem hspiFramesComplete : Obligations.HspiFramesComplete := by
  unfold Obligations.HspiFramesComplete
  refine ⟨fun h hc dc l s hf hd hl => ?_, fun h hc s hf => ?_, fun h hc dc l s hf hd hl => ?_, fun h hc s hf => ?_,
    fun s hup => ?_⟩
  · rw [← beq_iff_eq] at hd hl
    exact Runs.of rfl (by rw [hd, hl, State.hspiFrame_fine hf])
  · exact Runs.of rfl (State.hspiFrame_fine hf _)
  · rw [← beq_iff_eq] at hd hl
    exact Runs.of rfl (by rw [hd, hl, State.hspiFrame_fine hf])
  · exact Runs.of rfl (State.hspiFrame_fine hf _)
  · exact Runs.of rfl (if_pos hup)

/-- Counting a frame changes HSPI_STAT alone. -/
theorem State.frame_frame (s : State) : ∃ v, s.frame = s.w R.HSPI_STAT v := ⟨_, rfl⟩

/-- Where an access lands depends on the variant, the start-up step, the Cellar and the islands' clocks. -/
theorem State.reaches_congr {s t : State} (hv : t.variant = s.variant) (hp : t.pkg = s.pkg)
    (hr : t.r R.CLOCK_ISL_STAT = s.r R.CLOCK_ISL_STAT) (a : Nat) : t.reaches a = s.reaches a := by
  have ht : t.target a = s.target a := by
    simp only [State.target, State.pageGated, State.f, hv, hp, hr]; rfl
  simp only [State.reaches, State.answers, hp, ht]

theorem State.frame_reaches (s : State) (a : Nat) : s.frame.reaches a = s.reaches a := by
  obtain ⟨v, e⟩ := s.frame_frame
  rw [e]
  exact State.reaches_congr (s := s) (t := s.w R.HSPI_STAT v) rfl rfl (s.r_w_ne v (show R.CLOCK_ISL_STAT ≠ R.HSPI_STAT by decide)) a

/-- A frame that reads one register makes the read its bus makes. -/
theorem State.regReads_one {s : State} {o : Origin} {a : Nat} (ha : a < 2 ^ 24) :
    let x := s.regReads o a 1
    x.2.returns x.1 = s.readBy o a := by
  simp only [State.regReads, Nat.mod_eq_of_lt ha, State.readBy]

/-- A read of DT_HI returns the upper half that the master's read of DT_LO kept. -/
theorem State.readBy_dtHi {s : State} {o : Origin} {v : Word} (h : s.reaches R.TIME_DT_HI = true)
    (hc : s.captured o R.TIME_DT_HI = some v) : s.readBy o R.TIME_DT_HI = s.returns [v] := by
  obtain ⟨_, _, i, _, hi⟩ := State.reaches_spec h
  have hfacts : (i.page.kind == .time && i.win.isNone && inCapture R.TIME_DT_HI i) = true :=
    regInfo_spec hi (p := fun i => i.page.kind == .time && i.win.isNone && inCapture R.TIME_DT_HI i) (by decide +kernel)
  simp only [Bool.and_eq_true, beq_iff_eq, Option.isNone_iff_eq_none] at hfacts
  obtain ⟨⟨hk, hw⟩, hin⟩ := hfacts
  have hgroup : captureGroup R.TIME_DT_HI i = [] := by
    simp only [captureGroup, hk]
    decide
  rw [State.readBy_lands h hi, State.landRead_reg hw]
  simp only [State.readWord, hgroup, hin, hc, List.foldl_nil, if_true, Option.getD_some]

/-- Settles O11: the read of DT_LO keeps the upper half, and the frame's read of DT_HI returns it. -/
theorem dtHalves : Obligations.DtHalves := by
  unfold Obligations.DtHalves
  intro s h
  have hlo : Runs (.dtLoRead .hspi) s (s.readBy .hspi R.TIME_DT_LO) := rfl
  rw [State.readBy_dtLo h] at hlo
  refine ⟨_, hlo, settle_readData _, fun u hdr crc hcaps hreach hf hadr hcnt => ?_⟩
  have hread : Runs (.hspiRegReadFrame hdr crc) u ((u.frame.readBy .hspi R.TIME_DT_HI).frameRes 0) := by
    refine Runs.of rfl ?_
    rw [State.hspiFrame_fine hf, hadr, hcnt]
    exact congrArg (State.frameRes · 0) (State.regReads_one (by decide))
  have hcap : u.frame.captured .hspi R.TIME_DT_HI = some (nw (s.dt / 2 ^ 32)) := by
    have hc : u.host.caps = ((s.keep .hspi R.TIME_DT_LO (nw s.dt)).keep .hspi R.TIME_DT_HI (nw (s.dt / 2 ^ 32))).host.caps := by
      rw [hcaps, settle_host]; rfl
    show SMap.get _ u.host.caps _ = _
    rw [hc]
    simp only [State.keep]
    exact SMap.get_put_self (fun _ => (none : Option Word)) _ _ _
  rw [State.readBy_dtHi ((u.frame_reaches _).trans hreach) hcap] at hread
  refine ⟨_, hread, ?_, ?_⟩
  · rw [settle_readData]; rfl
  · rw [settle_mem]; rfl

theorem setFld_lower_toNat (w : Word) (v : Nat) :
    (setFld w 15 0 v).toNat = w.toNat / 2 ^ 16 * 2 ^ 16 + v % 2 ^ 16 := by
  have := w.isLt
  simp only [setFld, fld, Nat.shiftRight_zero, BitVec.toNat_ofNat]
  omega

theorem fld_setFld_lower_self (w : Word) (v : Nat) : fld (setFld w 15 0 v) 15 0 = v % 2 ^ 16 := by
  simp only [fld, setFld_lower_toNat, Nat.shiftRight_zero]
  omega

theorem fld_setFld_lower_upper (w : Word) (v : Nat) : fld (setFld w 15 0 v) 31 16 = fld w 31 16 := by
  simp only [fld, setFld_lower_toNat, Nat.shiftRight_eq_div_pow]
  omega

/-- A frame whose check fails is counted, with CRC and CRC_ERR set and counted, and result 0x1 (05 R93). -/
theorem State.crcFail_shows (s : State) :
    let t := s.frame.crcFail
    t.mem = s.mem ∧ t.host = { s.host with hspiRes := 1 } ∧ t.fltB (R.HSPI 0) 0 = true ∧
      t.f R.HSPI_STAT 15 0 = min (s.f R.HSPI_STAT 15 0 + 1) 0xFFFF ∧
      t.f R.HSPI_STAT 31 16 = (s.f R.HSPI_STAT 31 16 + 1) % 65536 ∧
      ∀ k, k ∉ [R.HSPI_STAT, R.HSPI 0x020] → t.r k = s.r k := by
  have hr (t : State) (k n : Nat) : (t.frameRes n).r k = t.r k := rfl
  have hflt : R.HSPI 0x020 = R.HSPI 0 + 0x020 := by decide
  have hstat : s.frame.crcFail.r R.HSPI_STAT =
      let w := setFld (s.r R.HSPI_STAT) 31 16 (s.f R.HSPI_STAT 31 16 + 1)
      setFld w 15 0 (satAdd 16 (fld w 15 0) 1) := by
    rw [State.crcFail, hr, State.satInc, State.r_wf_self, State.f, State.r_flt_ne _ _ (by decide), State.frame, State.inc,
      State.r_wf_self]
  refine ⟨rfl, rfl, ?_, ?_, ?_, fun k hk => ?_⟩
  · rw [State.fltB, State.b, State.crcFail, hr, State.satInc, State.r_wf_ne _ _ _ _ (by decide)]
    exact State.flt_latched _ _ _ (by decide)
  · rw [State.f, hstat]
    simp only [fld_setFld_lower_self, fld_setFld_lower, satAdd, State.f]
    omega
  · rw [State.f, hstat]
    exact (fld_setFld_lower_upper _ _).trans (fld_setFld_upper _ _)
  · simp only [List.mem_cons, List.not_mem_nil, or_false, not_or] at hk
    rw [State.crcFail, hr, State.satInc, State.r_wf_ne _ _ _ _ hk.1, State.r_flt_ne _ _ (hflt ▸ hk.2), State.frame, State.inc,
      State.r_wf_ne _ _ _ _ hk.1]

/-- A header that fails its check makes no access and returns zeros. -/
theorem State.hspiFrame_badHeader {s : State} {h : BitVec 40} {hcrc : BitVec 16} (hup : s.hspiUp = true)
    (hc : crc16 0xFFFF#16 (hdrBytes h) ≠ hcrc) (op : Nat) (d l : Bool) (act : State → State) :
    s.hspiFrame op h hcrc d l act = s.frame.crcFail.returns (List.replicate (min 16 (hdrCount h)) 0) := by
  simp only [State.hspiFrame, hup, Bool.not_true, Bool.false_eq_true, if_false, ne_eq, hc, not_false_eq_true, if_true]

/-- Data that fails its check writes no word. -/
theorem State.hspiFrame_badData {s : State} {op : Nat} {h : BitVec 40} {hcrc : BitVec 16} (hf : s.hspiFine op h hcrc = true)
    (act : State → State) : s.hspiFrame op h hcrc false true act = s.frame.crcFail := by
  simp only [State.hspiFine, Bool.and_eq_true, beq_iff_eq] at hf
  obtain ⟨⟨⟨hup, hcrc⟩, hop⟩, hok⟩ := hf
  simp [State.hspiFrame, hup, hcrc, hop, hok]

/-- Whichever of the frames fails, its state is `crcFail`, with zeros returned where its header failed. -/
theorem hspiFailed_cases {h : BitVec 40} {hc dc : BitVec 16} {data : List Word} {s : State} {i : Instr} (hup : s.hspiUp = true)
    (hi : i ∈ [Instr.hspiRegWriteFrame h hc data dc, .hspiRegReadFrame h hc, .hspiSramWriteFrame h hc data dc,
      .hspiSramReadFrame h hc])
    (hbad : crc16 0xFFFF#16 (hdrBytes h) ≠ hc ∨
      ∃ op, (i = .hspiRegWriteFrame h hc data dc ∧ op = 0x02 ∨ i = .hspiSramWriteFrame h hc data dc ∧ op = 0x12) ∧
        s.hspiFine op h hc = true ∧ data.length = hdrCount h ∧ crc16 0xFFFF#16 (data.flatMap wordBytes) ≠ dc) :
    (crc16 0xFFFF#16 (hdrBytes h) ≠ hc ∧
        Runs i s (s.frame.crcFail.returns (List.replicate (min 16 (hdrCount h)) 0))) ∨
      (crc16 0xFFFF#16 (hdrBytes h) = hc ∧ Runs i s s.frame.crcFail) := by
  obtain hcrc | ⟨op, hop, hf, hl, hd⟩ := hbad
  · refine .inl ⟨hcrc, ?_⟩
    simp only [List.mem_cons, List.not_mem_nil, or_false] at hi
    rcases hi with rfl | rfl | rfl | rfl <;> exact Runs.of rfl (State.hspiFrame_badHeader hup hcrc _ _ _ _)
  · have hgood : crc16 0xFFFF#16 (hdrBytes h) = hc := by
      simp only [State.hspiFine, Bool.and_eq_true, beq_iff_eq] at hf
      exact hf.1.1.2
    rw [← beq_iff_eq] at hl
    have hd := beq_eq_false_iff_ne.mpr hd
    refine .inr ⟨hgood, ?_⟩
    obtain ⟨rfl, rfl⟩ | ⟨rfl, rfl⟩ := hop <;> exact Runs.of rfl (by rw [hl, hd, State.hspiFrame_badData hf])

/-- Settles O17. -/
theorem hspiFailedFrames : Obligations.HspiFailedFrames := by
  unfold Obligations.HspiFailedFrames
  intro h hc dc data s hup
  obtain ⟨hmem, hhost, hflt, hlow, hhigh, hreg⟩ := s.crcFail_shows
  refine ⟨fun i hi hbad => ?_, ?_⟩
  · have hshow (u : State) (hu : u.mem = s.mem ∧ u.host.wins = s.host.wins ∧ u.host.hspiRes = 1 ∧ u.regs = s.frame.crcFail.regs ∧
        u.variant = s.frame.crcFail.variant) :
        (settle u).mem = s.mem ∧ (settle u).host.wins = s.host.wins ∧ (settle u).host.hspiRes = 1 ∧
          (settle u).fltB (R.HSPI 0) 0 = true ∧ (settle u).f R.HSPI_STAT 15 0 = min (s.f R.HSPI_STAT 15 0 + 1) 0xFFFF ∧
          (settle u).f R.HSPI_STAT 31 16 = (s.f R.HSPI_STAT 31 16 + 1) % 65536 ∧
          ∀ k, k ∉ [R.HSPI_STAT, R.HSPI 0x020, R.IRQROUTE_VEC_ARMED 0, R.PCIE_MSIX_PBA] → (settle u).r k = s.r k := by
      obtain ⟨h1, h2, h3, h4, h5⟩ := hu
      have hr (k : Nat) : u.r k = s.frame.crcFail.r k := by simp only [State.r, h4, h5]
      refine ⟨by rw [settle_mem, h1], by rw [settle_host, h2], by rw [settle_host, h3], ?_, ?_, ?_, fun k hk => ?_⟩
      · rw [settle_fltB _ _ (by decide) (by decide), State.fltB, State.b, hr]; exact hflt
      · rw [State.f, settle_r _ (by decide) (by decide), hr]; exact hlow
      · rw [State.f, settle_r _ (by decide) (by decide), hr]; exact hhigh
      · simp only [List.mem_cons, List.not_mem_nil, or_false, not_or] at hk
        obtain ⟨k1, k2, harm, hpba⟩ := hk
        rw [settle_r _ harm hpba, hr, hreg k (by simp [k1, k2])]
    obtain ⟨hcrc, hrun⟩ | ⟨hcrc, hrun⟩ := hspiFailed_cases hup hi hbad
    · obtain ⟨a, b, c, d⟩ := hshow (s.frame.crcFail.returns (List.replicate (min 16 (hdrCount h)) 0)) ⟨rfl, rfl, rfl, rfl, rfl⟩
      exact ⟨_, hrun, a, b, c, fun _ => settle_readData _, d⟩
    · obtain ⟨a, b, c, d⟩ := hshow s.frame.crcFail ⟨rfl, rfl, rfl, rfl, rfl⟩
      exact ⟨_, hrun, a, b, c, fun hne => absurd hcrc hne, d⟩
  · have hrun : Runs .hspiStatusRead s (s.frame.returns [nw s.host.hspiRes]) := Runs.of rfl (if_pos hup)
    exact ⟨_, hrun, settle_readData _, by rw [settle_host]; rfl, by rw [settle_mem]; rfl⟩

/-! ## Stores to shared SRAM (05 R92, R93) -/

theorem length_flatMap_wordBytes (l : List Word) : (l.flatMap wordBytes).length = 4 * l.length := by
  induction l with
  | nil => rfl
  | cons w l ih => simp only [List.flatMap_cons, List.length_append, ih, List.length_cons]; simp [wordBytes]; omega

/-- Byte `b` of word `j` of a run of words. -/
theorem flatMap_wordBytes_getD (l : List Word) (j : Nat) (hj : j < l.length) (b : Nat) (hb : b < 4) :
    (l.flatMap wordBytes)[4 * j + b]? = some ((nth l j).extractLsb' (8 * b) 8) := by
  induction l generalizing j with
  | nil => simp at hj
  | cons w l ih =>
    cases j with
    | zero =>
      have : b = 0 ∨ b = 1 ∨ b = 2 ∨ b = 3 := by omega
      rcases this with rfl | rfl | rfl | rfl <;> rfl
    | succ j =>
      have hlen : (wordBytes w).length = 4 := rfl
      rw [List.flatMap_cons, List.getElem?_append_right (by omega), hlen, show 4 * (j + 1) + b - 4 = 4 * j + b by omega,
        ih j (by simpa using hj)]
      rfl

/-- A word of a stored run reads back byte by byte. -/
theorem State.rd8_wrWords (s : State) (a : Nat) (l : List Word) {j b : Nat} (hj : j < l.length) (hb : b < 4) :
    (s.wrWords a l).rd8 (a + 4 * j + b) = (nth l j).extractLsb' (8 * b) 8 := by
  have hlt : 4 * j + b < (l.flatMap wordBytes).length := by rw [length_flatMap_wordBytes]; omega
  have hget := flatMap_wordBytes_getD l j hj b hb
  rw [List.getElem?_eq_getElem hlt, Option.some_inj] at hget
  rw [State.wrWords, Nat.add_assoc, State.rd8_wrBytes _ _ _ _ hlt, hget]

/-- A store of the bytes of a BAR2 write whose enables are set, one by one. -/
def State.storeEnabled (s : State) (a : Nat) (be : List Bool) (l : List (Nat × Byte)) : State :=
  l.foldl (fun (s : State) e => if be.getD e.1 false then s.wr8 (a + e.1) e.2 else s) s

theorem State.bar2Write_eq (s : State) (o : Nat) (data : List Byte) (be : List Bool) :
    s.bar2Write o data be = s.storeEnabled (sharedBase + o) be ((List.range data.length).zip data) := rfl

theorem State.storeEnabled_frame (s : State) (a : Nat) (be : List Bool) (l : List (Nat × Byte)) :
    ∃ m, s.storeEnabled a be l = { s with mem := m } := by
  induction l generalizing s with
  | nil => exact ⟨s.mem, rfl⟩
  | cons e l ih =>
    obtain ⟨m, h⟩ := ih (if be.getD e.1 false then s.wr8 (a + e.1) e.2 else s)
    refine ⟨m, (show s.storeEnabled a be (e :: l) = _ from h).trans ?_⟩
    split <;> rfl

theorem State.rd8_wr8_ne (s : State) {a k : Nat} (v : Byte) (h : k ≠ a) : (s.wr8 a v).rd8 k = s.rd8 k :=
  SMap.get_put_ne _ _ _ h

theorem State.rd8_wr8_self (s : State) (a : Nat) (v : Byte) : (s.wr8 a v).rd8 a = v := SMap.get_put_self _ _ _ _

theorem State.rd8_storeEnabled_ne (s : State) {a k : Nat} {be : List Bool} {l : List (Nat × Byte)}
    (h : ∀ e ∈ l, k ≠ a + e.1) : (s.storeEnabled a be l).rd8 k = s.rd8 k := by
  induction l generalizing s with
  | nil => rfl
  | cons e l ih =>
    refine (ih _ fun x hx => h x (.tail _ hx)).trans ?_
    dsimp only
    split
    · exact State.rd8_wr8_ne _ _ (h e (.head _))
    · rfl

/-- Bytes at distinct offsets: each reads as stored where its enable is set, else as before. -/
theorem State.rd8_storeEnabled (s : State) {a : Nat} {be : List Bool} {l : List (Nat × Byte)} (hl : (l.map (·.1)).Nodup)
    {e : Nat × Byte} (he : e ∈ l) :
    (s.storeEnabled a be l).rd8 (a + e.1) = if be.getD e.1 false then e.2 else s.rd8 (a + e.1) := by
  induction l generalizing s with
  | nil => nomatch he
  | cons x l ih =>
    rw [List.map_cons, List.nodup_cons] at hl
    have hne : ∀ y ∈ l, x.1 ≠ y.1 := fun y hy h => hl.1 (h ▸ List.mem_map_of_mem hy)
    obtain rfl | he := List.mem_cons.mp he
    · refine (State.rd8_storeEnabled_ne (l := l) _ fun y hy => by have := hne y hy; omega).trans ?_
      dsimp only
      split
      · exact State.rd8_wr8_self _ _ _
      · rfl
    · refine (ih _ hl.2 he).trans ?_
      have := hne e he
      dsimp only
      congr 1
      split
      · exact State.rd8_wr8_ne _ _ (by omega)
      · rfl

/-- The bytes of a BAR2 write stand at the offsets from 0 on. -/
theorem zip_range_fst (l : List Byte) : ((List.range l.length).zip l).map (·.1) = List.range l.length :=
  List.map_fst_zip (by simp)

theorem State.r_frameRes (s : State) (n k : Nat) : (s.frameRes n).r k = s.r k := rfl

/-- Settles O18. -/
theorem sharedSramStores : Obligations.SharedSramStores := by
  unfold Obligations.SharedSramStores
  refine ⟨fun h hc dc data s hf hd hl => ?_, fun ofs data be ue s ha hcr => ?_⟩
  · rw [← beq_iff_eq] at hd hl
    have hrun : Runs (.hspiSramWriteFrame h hc data dc) s ((s.frame.wrWords (sharedBase + hdrAddr h) data).frameRes 0) :=
      Runs.of rfl (by rw [hd, hl, State.hspiFrame_fine hf])
    refine ⟨_, hrun, fun j hj b hb => ?_, fun a hout => ?_, fun k hk => ?_⟩
    · rw [settle_rd8]
      exact State.rd8_wrWords _ _ _ hj hb
    · rw [settle_rd8]
      exact State.rd8_wrBytes_ne _ _ _ _ (by rw [length_flatMap_wordBytes]; exact hout)
    · simp only [List.mem_cons, List.not_mem_nil, or_false, not_or] at hk
      obtain ⟨hstat, harm, hpba⟩ := hk
      rw [settle_r _ harm hpba, State.r_frameRes, State.wrWords_r, State.frame, State.inc, State.r_wf_ne _ _ _ _ hstat]
  · have hrun : Runs (.bar2SramAccess ofs true data be ue) s (s.bar2Write ofs.toNat data be) := by
      refine Runs.of rfl ?_
      simp only [ha, hcr, Bool.not_true, Bool.or_self, Bool.false_eq_true, if_false, if_true]
    rw [State.bar2Write_eq] at hrun
    refine ⟨_, hrun, fun j hj => ?_, fun a hout => ?_, fun k harm hpba => ?_⟩
    · have hmem : (j, data.getD j 0) ∈ (List.range data.length).zip data := by
        rw [List.mem_iff_getElem]
        exact ⟨j, by simpa using hj, by simp [List.getElem_zip, hj]⟩
      rw [settle_rd8, State.rd8_storeEnabled s (by rw [zip_range_fst]; exact List.nodup_range) hmem]
    · rw [settle_rd8, State.rd8_storeEnabled_ne]
      intro e he
      have : e.1 < data.length := List.mem_range.mp (List.of_mem_zip he).1
      omega
    · obtain ⟨m, e⟩ := s.storeEnabled_frame (sharedBase + ofs.toNat) be ((List.range data.length).zip data)
      rw [settle_r _ harm hpba, e]; rfl

/-! ## PCIe (05 R91, R92, R95) -/

/-- Settles O36: each event's meaning, its conditions met. -/
theorem pcieCommandsComplete : Obligations.PcieCommandsComplete := by
  unfold Obligations.PcieCommandsComplete
  refine ⟨fun s ha => ⟨Runs.of rfl (if_pos ha), Runs.of rfl (if_pos ha)⟩, fun s ha hl => ?_, fun n s ha h1 h3 => ?_, fun s => rfl,
    fun ofs data be ue s ha hc => ?_, fun ofs n s ha hc => ?_, fun s ha => ⟨Runs.of rfl (if_pos ha), Runs.of rfl (if_pos ha)⟩⟩
  · exact Runs.of rfl (if_pos (by rw [ha, hl]; rfl))
  · exact Runs.of rfl (if_pos (by simp [ha, h1, h3]))
  · have hok : (!s.answers || crosses4K ofs.toNat data.length) ≠ true := by simp [ha, hc]
    exact ⟨Runs.of rfl (if_neg hok), Runs.of rfl (if_neg hok)⟩
  · have hok : (!s.answers || crosses4K ofs.toNat n) ≠ true := by simp [ha, hc]
    exact ⟨Runs.of rfl (if_neg hok), Runs.of rfl (if_neg hok)⟩

end Sys2Proof.Machine
end

section
/-!
PROOFS. Frames of the events that touch few registers, whatever the state, with the statement O13.
-/
namespace Sys2Proof.Machine

/-- `t` has the memory, DT, queue and jobs of `s`, and its registers but those of `l`. -/
structure State.SameBut (l : List Nat) (s t : State) : Prop where
  mem : t.mem = s.mem
  dt : t.dt = s.dt
  pending : t.pending = s.pending
  jobs : t.jobs = s.jobs
  reg : ∀ k, k ∉ l → t.r k = s.r k

namespace State.SameBut

variable {s t u : State} {l : List Nat}

theorem refl (l : List Nat) (s : State) : s.SameBut l s := ⟨rfl, rfl, rfl, rfl, fun _ _ => rfl⟩

/-- A change outside memory, DT, queue, jobs and registers. -/
theorem plain (h : s.SameBut l t) (hm : u.mem = t.mem) (hd : u.dt = t.dt) (hp : u.pending = t.pending) (hj : u.jobs = t.jobs)
    (hr : u.regs = t.regs) (hv : u.variant = t.variant) : s.SameBut l u :=
  ⟨hm.trans h.mem, hd.trans h.dt, hp.trans h.pending, hj.trans h.jobs,
    fun k hk => by rw [← h.reg k hk, State.r, State.r, hr, hv]⟩

theorem host (h : s.SameBut l t) (x : HostIf) : s.SameBut l { t with host := x } := h.plain rfl rfl rfl rfl rfl rfl

theorem pkg (h : s.SameBut l t) (x : Pkg) : s.SameBut l { t with pkg := x } := h.plain rfl rfl rfl rfl rfl rfl

theorem sec (h : s.SameBut l t) (x : Sec) : s.SameBut l { t with sec := x } := h.plain rfl rfl rfl rfl rfl rfl

theorem pose (h : s.SameBut l t) (x : Pose) : s.SameBut l { t with pose := x } := h.plain rfl rfl rfl rfl rfl rfl

theorem drive (h : s.SameBut l t) (x : Drive) : s.SameBut l { t with drive := x } := h.plain rfl rfl rfl rfl rfl rfl

theorem pwm (h : s.SameBut l t) (x : Pwm) : s.SameBut l { t with pwm := x } := h.plain rfl rfl rfl rfl rfl rfl

theorem fio (h : s.SameBut l t) (x : Fio) : s.SameBut l { t with fio := x } := h.plain rfl rfl rfl rfl rfl rfl

theorem comm (h : s.SameBut l t) (x : Comm) : s.SameBut l { t with comm := x } := h.plain rfl rfl rfl rfl rfl rfl

/-- A write of a listed register. -/
theorem w (h : s.SameBut l t) {o : Nat} (v : Word) (ho : o ∈ l) : s.SameBut l (t.w o v) :=
  ⟨h.mem, h.dt, h.pending, h.jobs, fun k hk => (State.r_w_ne t v fun (e : k = o) => hk (e ▸ ho)).trans (h.reg k hk)⟩

theorem wb (h : s.SameBut l t) {o : Nat} (i : Nat) (v : Bool) (ho : o ∈ l) : s.SameBut l (t.wb o i v) := h.w _ ho

theorem wf (h : s.SameBut l t) {o : Nat} (hi lo v : Nat) (ho : o ∈ l) : s.SameBut l (t.wf o hi lo v) := h.w _ ho

theorem w64 (h : s.SameBut l t) {o : Nat} (v : Nat) (ho : o ∈ l) (ho4 : o + 4 ∈ l) : s.SameBut l (t.w64 o v) :=
  (h.w _ ho).w _ ho4

theorem inc (h : s.SameBut l t) {o : Nat} (hi lo n : Nat) (ho : o ∈ l) : s.SameBut l (t.inc o hi lo n) := h.w _ ho

theorem uirq (h : s.SameBut l t) {b : Nat} (i : Nat) (hb : b + 0x08 ∈ l) : s.SameBut l (t.uirq b i) := h.w _ hb

theorem setDioEpisode (h : s.SameBut l t) (n k : Nat) (b : Bool) : s.SameBut l (t.setDioEpisode n k b) := h.fio _

theorem flt (h : s.SameBut l t) {b : Nat} (i : Nat) (hb : b + 0x020 ∈ l) : s.SameBut l (t.flt b i) := h.w _ hb

theorem foldl {α : Type} (h : s.SameBut l t) {f : State → α → State} (xs : List α)
    (hf : ∀ v x, s.SameBut l v → s.SameBut l (f v x)) : s.SameBut l (xs.foldl f t) := by
  induction xs generalizing t with
  | nil => exact h
  | cons x xs ih => exact ih (hf _ _ h)

theorem ite {c : Prop} [Decidable c] (ht : s.SameBut l t) (hu : s.SameBut l u) : s.SameBut l (if c then t else u) := by
  split <;> assumption

theorem answers {i : Instr} (he : exec i s = done t) (h : s.SameBut l t) :
    ∃ u, exec i s = .next u ∧ u.mem = s.mem ∧ u.dt = s.dt ∧ u.pending = s.pending ∧ u.jobs = s.jobs ∧
      ∀ k, k ∉ l → k ≠ R.IRQROUTE_VEC_ARMED 0 → k ≠ R.PCIE_MSIX_PBA → u.r k = s.r k :=
  ⟨settle t, he, by rw [settle_mem, h.mem], by rw [settle_dt, h.dt], by rw [settle_pending, h.pending],
    by rw [settle_jobs, h.jobs], fun k hk h1 h2 => by rw [settle_r t h1 h2, h.reg k hk]⟩

end State.SameBut

/-- A blanking window opens in the state of the trips alone (14 R316). -/
theorem State.SameBut.openBlank {s t : State} {l : List Nat} (h : s.SameBut l t) (n : Nat) : s.SameBut l (t.openBlank n) := by
  unfold State.openBlank
  exact h.ite (h.pwm _)

theorem State.SameBut.blankEdge {s t : State} {l : List Nat} (h : s.SameBut l t) (u : Nat) (b : Bool) :
    s.SameBut l (t.blankEdge u b) :=
  h.foldl _ fun _ _ hv => (hv.openBlank _).ite hv

theorem State.SameBut.setPch {s t : State} {l : List Nat} (h : s.SameBut l t) (u : Nat) (c : PwmCh) :
    s.SameBut l (t.setPch u c) := by
  have h0 : s.SameBut l { t with pwm := { t.pwm with chans := t.pwm.chans.set u c } } := h.pwm _
  have h1 := (h0.blankEdge u false).ite (c := ((t.pch u).a.drive == 1) != (c.a.drive == 1)) h0
  exact (h1.blankEdge u true).ite h1

/-- Settles O13: in each case of an event's meaning, what is written is on its list. -/
theorem plainEventFrames : Obligations.PlainEventFrames := by
  unfold Obligations.PlainEventFrames
  intro s pin lv t d us b n q ch addr tr sl id
  have same (l : List Nat) : s.SameBut l s := .refl l s
  simp only [List.forall_mem_cons]
  refine ⟨State.SameBut.answers rfl ?dio, State.SameBut.answers rfl ?ptp, State.SameBut.answers rfl ?boost, State.SameBut.answers rfl ?ain, State.SameBut.answers rfl ?quad, State.SameBut.answers rfl ?dead,
    State.SameBut.answers rfl ?claim, State.SameBut.answers rfl ?field, State.SameBut.answers rfl ?logic, State.SameBut.answers rfl (same _), State.SameBut.answers rfl ?imu, State.SameBut.answers rfl ?chal,
    State.SameBut.answers rfl ?lock, State.SameBut.answers rfl ?delay, State.SameBut.answers rfl ?poison, State.SameBut.answers rfl (same _), State.SameBut.answers rfl ?status, State.SameBut.answers rfl ?bar2,
    State.SameBut.answers rfl ?trip, State.SameBut.answers rfl ?n2k, List.forall_mem_nil _⟩
  case dio =>
    have h := ((((same [R.DIOG_IO_STAT pin.val, R.DIOG_G_STAT (pin.val / 8), R.DIOG_IO_EDGE_LO pin.val,
      R.DIOG_IO_EDGE_LO pin.val + 4, R.DIOG_IO_CNT pin.val, R.DIOG_U pin.val 0 + 8]).wb (o := R.DIOG_IO_STAT pin.val) 31 lv
      (by simp)).wb (o := R.DIOG_G_STAT (pin.val / 8)) (16 + pin.val % 8) lv (by simp)).w64 (o := R.DIOG_IO_EDGE_LO pin.val)
      t.toNat (by simp) (by simp)).inc (o := R.DIOG_IO_CNT pin.val) 31 16 1 (by simp)
    exact .ite (same _) (.uirq (.ite h (h.setDioEpisode _ _ _)) _ (by simp))
  case ptp => exact .ite (.wb (.comm (same _) _) _ _ (.head _)) (same _)
  case boost => exact .ite (.drive (.w (same _) _ (.head _)) _) (same _)
  case ain =>
    split
    · exact .ite (.fio (same _) _) (same _)
    · exact same _
  case quad =>
    split
    · exact .ite (.fio (same _) _) (same _)
    · exact same _
  case dead => exact (same _).setPch _ _
  case claim => exact .ite (.wb (.wf (same _) _ _ _ (.head _)) _ _ (.head _)) (same _)
  case field => exact .ite (.wf (.pkg (same _) _) _ _ _ (.head _)) (same _)
  case logic => exact .ite (.foldl (same _) _ fun _ _ h => .ite (h.host _) h) (same _)
  case imu =>
    split
    · exact .ite (.wb (same _) _ _ (.head _)) (same _)
    · exact same _
  case chal => exact .sec (same _) _
  case lock =>
    split
    · exact .ite (.wb (.sec (same _) _) _ _ (.head _)) (same _)
    · exact same _
  case delay => exact .ite (same _) (.wb (.wf (.pwm (same _) _) _ _ _ (.head _)) _ _ (.head _))
  case poison => exact .ite (.flt (same _) _ (.head _)) (same _)
  case status => exact .ite (.host (.wf (same _) _ _ _ (.head _)) _) (same _)
  case bar2 =>
    have h := (same [R.PCIE 0x020]).flt (b := R.PCIE 0) 2 (.head _)
    exact .ite (.ite h (.host h _)) (same _)
  case trip => exact (same _).openBlank _
  case n2k =>
    split
    · exact .ite (.pose (same _) _) (same _)
    · exact same _

end Sys2Proof.Machine
end

section
/-!
PROOFS. The package reset (04 R73, R74): what it drops and what it keeps, with the statement O14.
-/
namespace Sys2Proof.Machine

/-! ## What runs before the reset keeps the variant -/

theorem foldl_variant {α : Type} {f : State → α → State} (hf : ∀ s x, (f s x).variant = s.variant) (l : List α) (s : State) :
    (l.foldl f s).variant = s.variant := by
  induction l generalizing s with
  | nil => rfl
  | cons x l ih => exact (ih _).trans (hf s x)

theorem ite_variant {s t u : State} {c : Prop} [Decidable c] (ht : t.variant = s.variant) (hu : u.variant = s.variant) :
    (if c then t else u).variant = s.variant := by split <;> assumption

theorem State.setSupp_variant (s : State) (src n : Nat) : (s.setSupp src n).variant = s.variant := rfl

theorem State.event_variant (s : State) (src typ sev code : Nat) (w5 w6 : Word) :
    (s.event src typ sev code w5 w6).variant = s.variant := by
  simp only [State.event, apply_ite State.variant, State.setSupp_variant, State.wf_variant, State.w_variant, State.irq_variant,
    State.flt_variant, ite_self]

theorem State.evGeneric_variant (s : State) (o : Nat) : (s.evGeneric o).variant = s.variant := s.event_variant _ _ _ _ _ _

theorem State.lost_variant (s : State) (c : LostCause) (area : Nat) : (s.lost c area).variant = s.variant := by
  simp only [State.lost, apply_ite State.variant, State.evGeneric_variant, State.w_variant, State.irq_variant,
    State.flt_variant, ite_self]

theorem State.closePeriod_variant (s : State) (t : SMap Word) (id : Nat) (d : DT) (est : Bool) :
    (s.closePeriod t id d est).variant = s.variant := by
  unfold State.closePeriod
  split
  · rfl
  · simp only [apply_ite State.variant, State.lost_variant, ite_self]

theorem State.closePeriods_variant (s : State) : s.closePeriods.variant = s.variant :=
  foldl_variant (fun s _ => ite_variant (s.closePeriod_variant _ _ _ _) rfl) _ s

theorem State.setAttic_variant (s : State) (a : Attic) : (s.setAttic a).variant = s.variant := rfl

theorem State.lifeKb_variant (s : State) (area kb : Nat) : (s.lifeKb area kb).variant = s.variant := rfl

theorem State.noteHeld_variant (s : State) (n : Nat) : (s.noteHeld n).variant = s.variant := by
  simp only [State.noteHeld, apply_ite State.variant, State.setAttic_variant, State.irq_variant, State.flt_variant, ite_self]

theorem State.logRec_variant (s : State) (w : List Word) : (s.logRec w).variant = s.variant := by
  simp only [State.logRec, apply_ite State.variant, State.noteHeld_variant, State.lifeKb_variant, State.setAttic_variant,
    State.satInc_variant, ite_self]

theorem State.noteTorn_variant (s : State) (n : Nat) : (s.noteTorn n).variant = s.variant := ite_variant rfl rfl

theorem State.writeHead_variant (s : State) (torn : Bool) : (s.writeHead torn).variant = s.variant := by
  unfold State.writeHead
  split
  · rfl
  · simp only [apply_ite State.variant, State.lifeKb_variant, State.setAttic_variant, State.logRec_variant,
      State.noteHeld_variant, State.noteTorn_variant, ite_self]

theorem State.drainFifo_variant (s : State) : s.drainFifo.variant = s.variant :=
  foldl_variant (fun s _ => s.writeHead_variant false) _ s

theorem State.audit_variant (s : State) (a : AudRec) : (s.audit a).variant = s.variant := by
  simp only [State.audit, apply_ite State.variant, State.lifeKb_variant, State.irq_variant, ite_self]

theorem State.fwAudit_variant (s : State) (st : Nat) : (s.fwAudit st).variant = s.variant :=
  ite_variant (State.audit_variant _ _) rfl

theorem State.endTrial_variant (s : State) : s.endTrial.variant = s.variant := by
  simp only [State.endTrial, apply_ite State.variant, State.irq_variant, State.fwAudit_variant, State.wb_variant, ite_self]

/-! ## The registers after a reset -/

theorem get_filter_false {α : Type} (d : Nat → α) (m : SMap α) {p : Nat × α → Bool} {k : Nat} (h : ∀ v, p (k, v) = false) :
    SMap.get d (m.filter p) k = d k := by
  induction m with
  | nil => rfl
  | cons e m ih =>
    obtain ⟨j, w⟩ := e
    by_cases hj : j = k
    · rw [List.filter_cons_of_neg (by rw [hj, h w]; simp), ih]
    · cases hp : p (j, w) with
      | false => rw [List.filter_cons_of_neg (by simp [hp]), ih]
      | true => rw [List.filter_cons_of_pos hp, SMap.get, if_neg hj, ih]

/-- Registers that no reset but a wake keeps, beside those of MRAM and fuses. -/
def resetKept : List Nat := [R.CELLAR_SCRUB, R.TIME_DT_STAT, R.OUTLETWIN_SW_STAT]

/-- A register that is not kept has its reset value. -/
theorem State.resetRegs_get (s : State) {x : ResetSrc} (hx : x ≠ .wake) {k : Nat} (hm : mramReg k = false)
    (hk : k ∉ resetKept) : SMap.get (regDefault s.variant) (s.resetRegs x) k = regDefault s.variant k := by
  simp only [resetKept, List.mem_cons, List.not_mem_nil, or_false, not_or] at hk
  obtain ⟨hscrub, hdt, hsw⟩ := hk
  have himg : k ≠ R.UPDATE_IMG_STAT := fun e => by rw [e] at hm; exact absurd hm (by decide)
  have hfilter := get_filter_false (regDefault s.variant) s.regs (k := k)
    (p := fun e => mramReg e.1 || (x != .por && e.1 == R.CELLAR_SCRUB) || (x == .wake && wakeReg (s.dramStays x) e.1))
    fun _ => by simp [hm, hscrub, hx]
  unfold State.resetRegs
  dsimp only
  split
  · rw [SMap.get_put_ne _ _ _ himg, hfilter]
  · rw [SMap.get_put_ne _ _ _ hdt, SMap.get_put_ne _ _ _ hsw, SMap.get_put_ne _ _ _ himg, hfilter]

/-- A reset is `resetTo` of a state of the same variant, at some DT, with source 401 raised where it ended a trial. -/
theorem State.resetPackage_eq (s : State) (x : ResetSrc) (n : Nat) : ∃ (u : State) (dt : DT), u.variant = s.variant ∧
    s.resetPackage x n = if s.onTrial then (u.resetTo x dt).irq (R.UPDATE 0) 1 else u.resetTo x dt := by
  refine ⟨_, _, ?_, rfl⟩
  refine (ite_variant rfl (State.closePeriods_variant _)).trans ?_
  refine (ite_variant (State.endTrial_variant _) rfl).trans ?_
  exact ite_variant rfl (State.drainFifo_variant _)

theorem State.resetTo_r (u : State) {x : ResetSrc} (hx : x ≠ .wake) (dt : DT) {k : Nat} (hm : mramReg k = false)
    (hk : k ∉ resetKept) : (u.resetTo x dt).r k = regDefault u.variant k := u.resetRegs_get hx hm hk

/-- PG_LOCK is kept nowhere. -/
theorem pgLock_not_kept {k : Nat} (h : k % 0x1000 = 0x028) :
    mramReg k = false ∧ k ∉ resetKept ∧ k ∉ [R.UPDATE 0x010, R.IRQROUTE_VEC_ARMED 0, R.PCIE_MSIX_PBA] := by
  have hlist : ∀ o ∈ [R.UPDATE_IMG_STAT, R.LIFE_SAVES, R.LIFE_LAST_SAVE, R.AUDIT_ARCHIVED_SEQ, R.EVR_ARCHIVED, R.TOTALS_CKPT] ++
      resetKept ++ [R.UPDATE 0x010, R.IRQROUTE_VEC_ARMED 0, R.PCIE_MSIX_PBA], o % 0x1000 ≠ 0x028 := by decide
  refine ⟨?_, fun hk => hlist k (by simp [hk]) h, fun hk => hlist k (List.mem_append_right _ hk) h⟩
  rw [mramReg, Bool.or_eq_false_iff]
  refine ⟨?_, ?_⟩
  · simp only [Bool.and_eq_false_iff, decide_eq_false_iff_not]; omega
  · rw [← Bool.not_eq_true, List.contains_iff_mem]
    exact fun hk => hlist k (List.mem_append_left _ (List.mem_append_left _ hk)) h

/-- What a reset other than a wake leaves. -/
theorem State.resetPackage_leaves (s : State) {x : ResetSrc} (hx : x ≠ .wake) (n : Nat) :
    let t := s.resetPackage x n
    t.pkg.bootStep = 0 ∧ t.jobs = List.replicate 16 Job.reset ∧ t.sec.chals = [] ∧
      ∀ k, mramReg k = false → k ∉ resetKept → k ≠ R.UPDATE 0x010 → t.r k = regDefault s.variant k := by
  obtain ⟨u, dt, hv, e⟩ := s.resetPackage_eq x n
  have hj : (u.resetTo x dt).jobs = List.replicate 16 Job.reset := if_neg hx
  dsimp only
  rw [e, ← hv]
  split
  · exact ⟨rfl, hj, rfl, fun k hm hk h => by
      rw [State.r_irq_ne _ _ (show k ≠ R.UPDATE 0 + 0x010 from h), u.resetTo_r hx dt hm hk]⟩
  · exact ⟨rfl, hj, rfl, fun k hm hk _ => u.resetTo_r hx dt hm hk⟩

/-- Settles O14: each source answers with a reset that is no wake. -/
theorem resetReturnsRegisters : Obligations.ResetReturnsRegisters := by
  unfold Obligations.ResetReturnsRegisters
  intro n pair s hc p hp hcond
  obtain ⟨x, m, hx, hexec⟩ : ∃ x m, x ≠ ResetSrc.wake ∧ exec p.1 s = done (s.resetPackage x m) := by
    simp only [List.mem_cons, List.not_mem_nil, or_false] at hp
    rcases hp with rfl | rfl | rfl | rfl
    · exact ⟨.por, 0, by decide, rfl⟩
    · exact ⟨.mainRail, n, by decide, congrArg done (if_neg (by simp [hc]))⟩
    · exact ⟨.pin, 0, by decide, congrArg done (if_neg (by simp [hc]))⟩
    · exact ⟨.wdog, 0, by decide, congrArg done (if_pos ⟨hcond, pair.isLt⟩)⟩
  obtain ⟨hboot, hjobs, hchals, hreg⟩ := s.resetPackage_leaves hx m
  have hmode : fld ((s.resetPackage x m).r R.SAFE_MODE_STAT) 3 0 = 0 := by
    rw [hreg _ (by decide) (by decide) (by decide)]
    cases s.variant <;> decide +kernel
  refine ⟨_, hexec, by rw [settle_pkg, hboot], ?_, by rw [settle_jobs, hjobs], by rw [settle_sec, hchals], fun k hk => ?_,
    fun k hm hk => ?_⟩
  · rw [State.mode, State.f, settle_r _ (by decide) (by decide), hmode]
  · obtain ⟨hm, hkept, hk⟩ := pgLock_not_kept hk
    simp only [List.mem_cons, List.not_mem_nil, or_false, not_or] at hk
    obtain ⟨hup, harm, hpba⟩ := hk
    rw [settle_r _ harm hpba, hreg k hm hkept hup]
  · simp only [List.mem_cons, List.not_mem_nil, or_false, not_or] at hk
    obtain ⟨h1, h2, h3, hup, harm, hpba⟩ := hk
    rw [settle_r _ harm hpba, hreg k hm (by simp [resetKept, h1, h2, h3]) hup]

end Sys2Proof.Machine
end

section
/-!
PROOFS. Completion records (05 R98, R101): the entry's bytes, the ring's tail and its source, with the statement O15.
-/
namespace Sys2Proof.Machine

/-! ## The bytes of a record -/

/-- Two bytes, a byte and a byte as a word. -/
theorem wordBytes_nw {a b d : Nat} (ha : a < 2 ^ 16) (hb : b < 2 ^ 8) (hd : d < 2 ^ 8) :
    wordBytes (nw (a + b * 2 ^ 16 + d * 2 ^ 24)) = natLE 2 a ++ [BitVec.ofNat 8 b, BitVec.ofNat 8 d] := by
  have hw : (nw (a + b * 2 ^ 16 + d * 2 ^ 24)).toNat = a + b * 2 ^ 16 + d * 2 ^ 24 := by
    rw [nw, BitVec.toNat_ofNat, Nat.mod_eq_of_lt]; omega
  have hbyte (k v : Nat) (h : (a + b * 2 ^ 16 + d * 2 ^ 24) / 2 ^ k % 2 ^ 8 = v % 2 ^ 8) :
      (nw (a + b * 2 ^ 16 + d * 2 ^ 24)).extractLsb' k 8 = BitVec.ofNat 8 v := by
    apply BitVec.eq_of_toNat_eq
    rw [BitVec.extractLsb'_toNat, hw, Nat.shiftRight_eq_div_pow, BitVec.toNat_ofNat, h]
  simp only [wordBytes, natLE, List.cons_append, List.nil_append]
  rw [hbyte 0 a (by omega), hbyte 8 (a / 256) (by omega), hbyte 16 b (by omega), hbyte 24 d (by omega)]

theorem State.rdBytes_wrBytes (s : State) (a : Nat) (l : List Byte) : (s.wrBytes a l).rdBytes a l.length = l := by
  refine List.ext_getElem (by simp [State.rdBytes, SMap.getAll]) fun i h1 h2 => ?_
  simp only [State.rdBytes, SMap.getAll, List.getElem_map, List.getElem_range]
  exact State.rd8_wrBytes _ _ _ _ h2

/-! ## The steps of writing a record -/

/-- CPL_TAIL takes its next value; PHASE turns over where it wraps. -/
def State.advanceTail (s : State) (r t : Nat) (ph : Bool) : State :=
  let u := s.wf (R.PORCH_CPL_TAIL r) 9 0 t
  if t = 0 then u.wb (R.PORCH_CPL_TAIL r) 16 (!ph) else u

/-- On rings 2 and 3 the service firmware sends the record on and frees its entry. -/
def State.sendRecord (s : State) (r t : Nat) (ws : List Word) : State :=
  if 2 ≤ r then
    let u := s.wf (R.PORCH_CPL_HEAD r) 9 0 t
    { u with host := { u.host with out := u.host.out ++ [⟨6 + r, 2, ws⟩] } }
  else s

/-- The ring's source is raised where the record asks for it. -/
def State.raiseRing (s : State) (r : Nat) (irq : Bool) : State := if irq then s.irq (R.PORCH 0) r else s

/-- The words of a record. -/
def CplRec.words (c : CplRec) (ph : Bool) : List Word :=
  [nw (c.tag + c.status * 2 ^ 16 + c.handle * 2 ^ 24),
    nw (c.idx + ((if ph then 1 else 0) + (if c.final then 2 else 0) + (if c.job then 4 else 0)) * 2 ^ 16 + c.detail * 2 ^ 24),
    c.r0, c.r1]

/-- Where a ring's next record goes. -/
def State.cplEntry (s : State) (r : Nat) : Nat :=
  sharedBase + s.f (R.PORCH_CPL_BASE r) 19 4 * 16 + 16 * s.f (R.PORCH_CPL_TAIL r) 9 0

/-- The tail after the next record. -/
def State.nextTail (s : State) (r : Nat) : Nat := (s.f (R.PORCH_CPL_TAIL r) 9 0 + 1) % s.cplSize r

theorem State.putRec_eq {s : State} {c : CplRec} (hen : s.ringEn c.ring = true) (hfree : 0 < s.cplFree c.ring) :
    let ph := s.b (R.PORCH_CPL_TAIL c.ring) 16
    let t := s.nextTail c.ring
    s.putRec c = (((s.wrWords (s.cplEntry c.ring) (c.words ph)).advanceTail c.ring t ph).sendRecord c.ring t
      (c.words ph)).raiseRing c.ring c.irq := by
  unfold State.putRec
  rw [if_pos (by simp [hen, hfree])]
  rfl

theorem fld_setFld_tail (w : Word) {v : Nat} (h : v < 1024) : fld (setFld w 9 0 v) 9 0 = v := by
  have := w.isLt
  simp only [fld, setFld, Nat.shiftRight_zero, BitVec.toNat_ofNat]
  omega

theorem bit_sixteen (w : Word) : bit w 16 = decide (w.toNat / 2 ^ 16 % 2 = 1) := by
  rw [bit, BitVec.getLsbD, Nat.testBit_eq_decide_div_mod_eq]

theorem bit_setFld_tail (w : Word) (v : Nat) : bit (setFld w 9 0 v) 16 = bit w 16 := by
  have hw := w.isLt
  have h : (setFld w 9 0 v).toNat / 2 ^ 16 = w.toNat / 2 ^ 16 := by
    simp only [fld, setFld, Nat.shiftRight_zero, BitVec.toNat_ofNat]
    omega
  rw [bit_sixteen, bit_sixteen, h]

theorem fld_putBit_phase (w : Word) (b : Bool) : fld (putBit w 16 b) 9 0 = fld w 9 0 := by
  have h (x : Word) : fld x 9 0 = (x.extractLsb' 0 10).toNat := by simp [fld, BitVec.extractLsb'_toNat]
  rw [h, h]
  congr 1
  refine BitVec.eq_of_getLsbD_eq fun i hi => ?_
  have hbit : (putBit w 16 b).getLsbD (0 + i) = w.getLsbD (0 + i) := bit_putBit_ne w b (by omega)
  rw [BitVec.getLsbD_extractLsb', BitVec.getLsbD_extractLsb', hbit]

theorem State.advanceTail_spec (s : State) {r t : Nat} (ht : t < 1024) :
    let u := s.advanceTail r t (s.b (R.PORCH_CPL_TAIL r) 16)
    u.mem = s.mem ∧ u.f (R.PORCH_CPL_TAIL r) 9 0 = t ∧
      u.b (R.PORCH_CPL_TAIL r) 16 = (if t = 0 then !s.b (R.PORCH_CPL_TAIL r) 16 else s.b (R.PORCH_CPL_TAIL r) 16) ∧
      ∀ k, k ≠ R.PORCH_CPL_TAIL r → u.r k = s.r k := by
  unfold State.advanceTail
  dsimp only
  split
  · refine ⟨rfl, ?_, State.b_wb_self _ _ _ _ (by decide), fun k hk => ?_⟩
    · rw [State.f, State.r_wb_self, fld_putBit_phase, State.r_wf_self, fld_setFld_tail _ ht]
    · rw [State.r_wb_ne _ _ _ hk, State.r_wf_ne _ _ _ _ hk]
  · refine ⟨rfl, ?_, ?_, fun k hk => State.r_wf_ne _ _ _ _ hk⟩
    · rw [State.f, State.r_wf_self, fld_setFld_tail _ ht]
    · rw [State.b, State.r_wf_self, bit_setFld_tail]; rfl

theorem State.sendRecord_spec (s : State) (r t : Nat) (ws : List Word) :
    let u := s.sendRecord r t ws
    u.mem = s.mem ∧ (r < 2 → u = s) ∧ ∀ k, k ≠ R.PORCH_CPL_HEAD r → u.r k = s.r k := by
  unfold State.sendRecord
  dsimp only
  split
  · next h => exact ⟨rfl, fun hr => absurd h (Nat.not_le.mpr hr), fun k hk => State.r_wf_ne s _ _ _ hk⟩
  · exact ⟨rfl, fun _ => rfl, fun _ _ => rfl⟩

theorem State.raiseRing_spec (s : State) {r : Nat} (hr : r < 32) (irq : Bool) :
    let u := s.raiseRing r irq
    u.mem = s.mem ∧ (irq = true → u.b (R.PORCH 0x010) r = true) ∧ ∀ k, k ≠ R.PORCH 0x010 → u.r k = s.r k := by
  have hofs : R.PORCH 0x010 = R.PORCH 0 + 0x010 := rfl
  unfold State.raiseRing
  dsimp only
  split
  · exact ⟨rfl, fun _ => State.b_wb_self _ _ _ _ hr, fun k hk => State.r_irq_ne _ _ hk⟩
  · next h => exact ⟨rfl, fun hi => absurd hi h, fun _ _ => rfl⟩

/-- The registers a record changes are three. -/
theorem porch_offsets_ne (r : Nat) : R.PORCH_CPL_TAIL r ≠ R.PORCH_CPL_HEAD r ∧ R.PORCH_CPL_TAIL r ≠ R.PORCH 0x010 ∧
    R.PORCH_CPL_HEAD r ≠ R.PORCH 0x010 := by
  simp only [R.PORCH_CPL_TAIL, R.PORCH_CPL_HEAD, R.PORCH]; omega

/-- What a record that finds its ring enabled and a free entry writes. -/
theorem State.putRec_spec {s : State} {c : CplRec} (hr : c.ring < 4) (hen : s.ringEn c.ring = true)
    (hfree : 0 < s.cplFree c.ring) (hsize : s.f (R.PORCH_RING_CTRL c.ring) 11 8 ≤ 10) :
    let r := c.ring
    let ph := s.b (R.PORCH_CPL_TAIL r) 16
    let t := s.nextTail r
    let u := s.putRec c
    u.mem = (s.wrWords (s.cplEntry r) (c.words ph)).mem ∧ u.f (R.PORCH_CPL_TAIL r) 9 0 = t ∧
      u.b (R.PORCH_CPL_TAIL r) 16 = (if t = 0 then !ph else ph) ∧ (c.irq = true → u.b (R.PORCH 0x010) r = true) ∧
      (r < 2 → u.r (R.PORCH_CPL_HEAD r) = s.r (R.PORCH_CPL_HEAD r)) ∧
      ∀ k, k ∉ [R.PORCH_CPL_TAIL r, R.PORCH_CPL_HEAD r, R.PORCH 0x010] → u.r k = s.r k := by
  dsimp only
  rw [State.putRec_eq hen hfree]
  obtain ⟨hth, htp, hhp⟩ := porch_offsets_ne c.ring
  have hpos : 0 < s.cplSize c.ring := Nat.two_pow_pos _
  have hle : s.cplSize c.ring ≤ 1024 := Nat.pow_le_pow_right (show 0 < 2 by decide) hsize
  have ht : s.nextTail c.ring < 1024 := Nat.lt_of_lt_of_le (Nat.mod_lt _ hpos) hle
  generalize s.nextTail c.ring = t at ht ⊢
  generalize hw : s.wrWords (s.cplEntry c.ring) (c.words (s.b (R.PORCH_CPL_TAIL c.ring) 16)) = w
  have hreg (k : Nat) : w.r k = s.r k := by rw [← hw, State.wrWords_r]
  have hph : w.b (R.PORCH_CPL_TAIL c.ring) 16 = s.b (R.PORCH_CPL_TAIL c.ring) 16 := by rw [State.b, hreg]; rfl
  generalize s.b (R.PORCH_CPL_TAIL c.ring) 16 = ph at hph ⊢
  subst hph
  obtain ⟨amem, atail, aph, areg⟩ := w.advanceTail_spec (r := c.ring) ht
  generalize w.advanceTail c.ring t (w.b (R.PORCH_CPL_TAIL c.ring) 16) = v at amem atail aph areg ⊢
  obtain ⟨smem, ssame, sreg⟩ := v.sendRecord_spec c.ring t (c.words (w.b (R.PORCH_CPL_TAIL c.ring) 16))
  generalize v.sendRecord c.ring t (c.words (w.b (R.PORCH_CPL_TAIL c.ring) 16)) = x at smem ssame sreg ⊢
  obtain ⟨rmem, rirq, rreg⟩ := x.raiseRing_spec (show c.ring < 32 by omega) c.irq
  refine ⟨rmem.trans (smem.trans amem), ?_, ?_, rirq, fun h2 => ?_, fun k hk => ?_⟩
  · rw [State.f, rreg _ htp, sreg _ hth]; exact atail
  · rw [State.b, rreg _ htp, sreg _ hth]; exact aph
  · rw [rreg _ hhp, ssame h2, areg _ hth.symm, hreg]
  · simp only [List.mem_cons, List.not_mem_nil, or_false, not_or] at hk
    obtain ⟨ht, hh, hp⟩ := hk
    rw [rreg k hp, sreg k hh, areg k ht, hreg]

/-- The record of an accepted NOP. -/
def nopRecord (c : Cmd) : CplRec :=
  { ring := c.ring.val, tag := c.tag.toNat, status := 0, handle := 0, idx := c.idx.toNat, final := true, job := false,
    detail := 0, r0 := 0, r1 := 0, irq := c.flags.getLsbD 0 }

theorem nopRecord_bytes (c : Cmd) (ph : Bool) : ((nopRecord c).words ph).flatMap wordBytes =
    natLE 2 c.tag.toNat ++ [0x00#8, 0x00#8] ++ natLE 2 c.idx.toNat ++ [(if ph then 3#8 else 2#8), 0x00#8] ++
      List.replicate 8 0#8 := by
  have htag := wordBytes_nw c.tag.isLt (b := 0) (d := 0) (by decide) (by decide)
  have hidx : wordBytes (nw (c.idx.toNat + ((if ph then 1 else 0) + 2 + 0) * 2 ^ 16 + 0 * 2 ^ 24)) =
      natLE 2 c.idx.toNat ++ [(if ph then 3#8 else 2#8), 0x00#8] := by
    have hlt : c.idx.toNat < 2 ^ 16 := Nat.lt_trans c.idx.isLt (by decide)
    cases ph
    · exact wordBytes_nw hlt (b := 2) (d := 0) (by decide) (by decide)
    · exact wordBytes_nw hlt (b := 3) (d := 0) (by decide) (by decide)
  have hzero : wordBytes 0 = [0, 0, 0, 0] := by decide
  simp only [CplRec.words, nopRecord, List.flatMap_cons, List.flatMap_nil, List.append_nil, htag, hzero, if_true,
    Bool.false_eq_true, if_false, hidx]
  simp only [List.append_assoc]
  rfl

/-- A NOP that passes its checks only completes. -/
theorem exec_nop {c : Cmd} {s : State} (h : Accepts s c { CmdSpec.mk' 0x0100 0 0 (c.badArg [] []) false with inBoot := true }) :
    exec (.nop c) s = done (((s.touchCmd c).putRec (nopRecord c)).leave c) := congrArg done (State.runCmd_accepts h _)

/-- Settles O15: the record of an accepted command that only completes. -/
theorem completionRecord : Obligations.CompletionRecord := by
  unfold Obligations.CompletionRecord
  intro c s r tail ph base next ha hen hfree hsize _
  obtain ⟨x, hx⟩ := s.touchCmd_frame c
  have hreg (k : Nat) : (s.touchCmd c).r k = s.r k := s.touchCmd_r c k
  obtain ⟨hmem, htail, hph, hirq, hhead, hrest⟩ := State.putRec_spec (s := s.touchCmd c) (c := nopRecord c) c.ring.isLt
    (by rw [hx]; exact hen) (by rw [hx]; exact hfree) (by rw [hx]; exact hsize)
  have hbase : (s.touchCmd c).cplEntry c.ring = base := by simp only [State.cplEntry, State.f, hreg]; rfl
  have hphase : (s.touchCmd c).b (R.PORCH_CPL_TAIL c.ring) 16 = ph := by simp only [State.b, hreg]; rfl
  have hnext : (s.touchCmd c).nextTail c.ring = next := by simp only [State.nextTail, State.cplSize, State.f, hreg]; rfl
  have hlen : (((nopRecord c).words ph).flatMap wordBytes).length = 16 := rfl
  simp only [show (nopRecord c).ring = c.ring.val from rfl, hbase, hphase, hnext, hreg] at hmem htail hph hirq hhead hrest
  have hrun := exec_nop ha
  generalize (s.touchCmd c).putRec (nopRecord c) = u at hmem htail hph hirq hhead hrest hrun
  have hm : (settle (u.leave c)).mem =
      (s.wrBytes base (((nopRecord c).words ph).flatMap wordBytes)).mem := by
    rw [settle_mem, show (u.leave c).mem = u.mem from rfl, hmem, hx]; rfl
  have hr (k : Nat) (h1 : k ≠ R.IRQROUTE_VEC_ARMED 0) (h2 : k ≠ R.PCIE_MSIX_PBA) : (settle (u.leave c)).r k = u.r k := by
    rw [settle_r _ h1 h2]; rfl
  have hporch : R.PORCH_CPL_TAIL r ≠ R.IRQROUTE_VEC_ARMED 0 ∧ R.PORCH_CPL_TAIL r ≠ R.PCIE_MSIX_PBA ∧
      R.PORCH_CPL_HEAD r ≠ R.IRQROUTE_VEC_ARMED 0 ∧ R.PORCH_CPL_HEAD r ≠ R.PCIE_MSIX_PBA := by
    simp only [R.PORCH_CPL_TAIL, R.PORCH_CPL_HEAD, R.IRQROUTE_VEC_ARMED, R.PCIE_MSIX_PBA]; omega
  obtain ⟨ta, tp, ha, hp⟩ := hporch
  refine ⟨_, hrun, ?_, fun a hout => ?_, ?_, ?_, fun h => ?_, fun h => ?_, fun k hk => ?_⟩
  · rw [State.rdBytes, hm, ← nopRecord_bytes]
    exact State.rdBytes_wrBytes s base _
  · rw [State.rd8, hm]
    exact State.rd8_wrBytes_ne s _ _ _ (by rw [hlen]; exact hout)
  · rw [State.f, hr _ ta tp]; exact htail
  · rw [State.b, hr _ ta tp]; exact hph
  · rw [State.b, hr _ (by decide) (by decide)]; exact hirq h
  · rw [hr _ ha hp]; exact hhead h
  · simp only [List.mem_cons, List.not_mem_nil, or_false, not_or] at hk
    obtain ⟨k1, k2, k3, karm, kpba⟩ := hk
    rw [hr k karm kpba]
    exact hrest k (by simp only [List.mem_cons, List.not_mem_nil, or_false, not_or]; exact ⟨k1, k2, k3⟩)

end Sys2Proof.Machine
end

section
/-!
PROOFS. Where the commands and events of modes, supplies, resets and start-up complete (01, 02, 04), with the statements O28
to O33.
-/
namespace Sys2Proof.Machine

/-- A command whose descriptor passes every check does its work on the state of `acceptedBy`. -/
theorem Runs.accepted {i : Instr} {s t : State} {c : Cmd} {k : CmdSpec} {act : State → State} (h : Accepts s c k)
    (he : exec i s = done (s.runCmd c k act)) (e : act (s.acceptedBy c k) = t) : Runs i s t :=
  Runs.of he ((State.runCmd_accepts h act).trans e)

/-- Settles O28. -/
theorem modeCommandsComplete : Obligations.ModeCommandsComplete := by
  unfold Obligations.ModeCommandsComplete
  exact ⟨fun c s h => Runs.accepted h rfl rfl, fun c s h => Runs.accepted h rfl rfl, fun c s h => Runs.accepted h rfl rfl,
    fun c s h => Runs.accepted h rfl rfl, fun c s h => Runs.accepted h rfl rfl, fun c s h => Runs.accepted h rfl rfl⟩

/-- Settles O29: each event's condition holds. -/
theorem drainEventsComplete : Obligations.DrainEventsComplete := by
  unfold Obligations.DrainEventsComplete
  refine ⟨fun err rate s hsrc hcell hmode => ?wall, fun s g rest hseq hat hmode => ?close, fun s d hd hoff hedges => ?edges,
    fun s d hd hoff hq hw hch hdue => ?done, fun s d hd hmax => ?max, fun s t ht hend => ?windows⟩
  case wall =>
    have hno : ¬(s.f R.TIME_WALL_SRC 2 0 = 0 ∨ s.pkg.cellar = true ∨ s.mode = 0) := by simp [hsrc, hcell, hmode]
    refine ⟨fun hstep => Runs.of rfl ((if_neg hno).trans (if_pos hstep)), fun hset herr => ?_⟩
    have hslew : ¬(s.b R.TIME_DT_STAT 2 = false ∨ 1000000 < err.natAbs) := by simp [hset, herr]
    exact Runs.of rfl ((if_neg hno).trans (if_neg hslew))
  case close => exact Runs.of rfl (by rw [hseq]; exact if_pos ⟨hat, hmode⟩)
  case edges =>
    have hall : (s.look.queues.all fun e => e.2.edges.all fun x => decide (x.exec ≤ s.dt)) = true := by
      simpa only [List.all_eq_true, decide_eq_true_eq] using hedges
    exact Runs.of rfl (by rw [hd]; exact if_pos ⟨hoff, hall⟩)
  case done => exact Runs.of rfl (by rw [hd]; exact if_pos (by simp [hoff, hq, hw, hch, hdue]))
  case max => exact Runs.of rfl (by rw [hd]; exact if_pos hmax)
  case windows => exact Runs.of rfl (by rw [ht]; exact if_pos (by simpa using hend))

/-- Settles O30: each event's condition holds. -/
theorem supervisionEventsComplete : Obligations.SupervisionEventsComplete := by
  unfold Obligations.SupervisionEventsComplete
  refine ⟨fun pair s h => Runs.of rfl (if_pos h), fun s h => Runs.of rfl (if_pos h),
    fun b t s h hb ht => Runs.of rfl (if_pos ⟨h, hb, ht⟩), fun b s h => Runs.of rfl (if_pos h),
    fun b s h => ⟨Runs.of rfl (if_pos h), Runs.of rfl (if_pos h)⟩, fun s h => Runs.of rfl (if_pos h),
    fun s h => Runs.of rfl (if_pos h), fun ppm s h => Runs.of rfl (if_pos h), fun s => rfl, ?_⟩
  intro i s h lo new old hne t
  have hno : ¬(new = old ∨ s.up 2 = false) := by simp [hne, h]
  exact Runs.of rfl (if_neg hno)

/-- Settles O31: each event's condition holds. -/
theorem supplyEventsComplete : Obligations.SupplyEventsComplete := by
  unfold Obligations.SupplyEventsComplete
  refine ⟨fun s hc hrail => ?fail, fun s t ht hgrace => ?grace, fun s hc => ?release, fun rail above s hc => ?out,
    fun rail s h => Runs.of rfl (if_pos h), fun die x s h hrf => ?temp, fun die s h hrf hhot => ?hot, fun s => rfl,
    fun n s hc => ?loss, fun pair s h => Runs.of rfl (if_pos ⟨h, pair.isLt⟩)⟩
  case fail =>
    have hno : ¬(s.pkg.cellar = true ∨ s.b R.SUPPLY_RAIL_STAT 8 = true) := by simp [hc, hrail]
    exact ⟨fun hm => Runs.of rfl ((if_neg hno).trans (if_pos hm)), fun hm => Runs.of rfl ((if_neg hno).trans (if_neg hm))⟩
  case grace =>
    exact Runs.of rfl (by rw [ht]; exact if_pos hgrace)
  case release => exact Runs.of rfl (if_neg (by simp [hc]))
  case out => exact ⟨Runs.of rfl (if_neg (by simp [hc])), fun n => Runs.of rfl (if_neg (by simp [hc]))⟩
  case temp => exact Runs.of rfl (if_neg (by simp only [h, hrf, Bool.true_eq_false, or_self, not_false_eq_true]))
  case hot =>
    exact Runs.of rfl (if_neg (by simp only [h, hrf, hhot, Bool.true_eq_false, Bool.false_eq_true, or_self, not_false_eq_true]))
  case loss => exact ⟨Runs.of rfl (if_neg (by simp [hc])), Runs.of rfl (if_neg (by simp [hc]))⟩

/-- Settles O32: each event's condition holds. -/
theorem cellarAndAtticComplete : Obligations.CellarAndAtticComplete := by
  unfold Obligations.CellarAndAtticComplete
  refine ⟨fun s => ?low, fun corr bad s h => Runs.of rfl (if_pos h), fun s hc hd => Runs.of rfl (if_pos ⟨hc, hd⟩),
    fun stay s => ⟨fun h => Runs.of rfl (if_pos h), fun h => Runs.of rfl (if_neg (by simp [h]))⟩,
    fun stay s hc => ⟨fun h => Runs.of rfl (if_pos ⟨hc, h⟩), fun h0 hstay => Runs.of rfl (if_pos ⟨hc, h0, hstay⟩),
      Runs.of rfl (if_pos hc)⟩, fun b s h => ⟨Runs.of rfl (if_pos h), Runs.of rfl (if_pos h), Runs.of rfl (if_pos h)⟩,
    fun c s h => Runs.accepted h rfl rfl, fun s j hj => ?archive, fun s hc => ?life⟩
  case low =>
    intro t
    cases hc : s.pkg.cellar
    · exact Runs.of rfl ((if_neg (by simp [hc])).trans (by simp only [true_and]; rfl))
    · exact Runs.of rfl ((if_pos hc).trans (by simp only [Bool.true_eq_false, false_and, if_false]; rfl))
  case archive => exact Runs.of rfl (by rw [hj])
  case life => exact Runs.of rfl (if_neg (by simp [hc]))

/-- Settles O33: each step follows the one before it. -/
theorem bootStepsComplete : Obligations.BootStepsComplete := by
  unfold Obligations.BootStepsComplete
  refine ⟨fun s h => Runs.of rfl (if_pos h), fun s h => Runs.of rfl (if_pos h), fun s h => Runs.of rfl (if_pos h),
    fun a b mb s h himg hok => ?image, fun n s h => Runs.of rfl (if_pos h), fun s h hf => Runs.of rfl (if_pos ⟨h, hf⟩),
    fun vdd fb0 fb1 s h => Runs.of rfl (if_pos h), fun bad newest s h => Runs.of rfl (if_pos h),
    fun torn s h => ?attic, fun ms s h => Runs.of rfl (if_pos h)⟩
  case image => exact Runs.of rfl ((if_pos ⟨h, himg⟩).trans (if_pos hok))
  case attic => exact Runs.of rfl (if_pos h)

end Sys2Proof.Machine
end

section
/-!
PROOFS. Where jobs, memory events, the Ethernet service and the Porch complete (05, 06, 19), with the statements O34, O35,
O38 and O39.
-/
namespace Sys2Proof.Machine

/-! ## Commands on jobs (05 R105) -/

/-- A command that is not audited acts on the state with its session kept alive. -/
theorem State.acceptedBy_unaudited (s : State) (c : Cmd) {k : CmdSpec} (h : k.aud = 0) : s.acceptedBy c k = s.touchCmd c :=
  if_pos h

theorem State.findJob_touchCmd (s : State) (c : Cmd) (h : Nat) : (s.touchCmd c).findJob h = s.findJob h := by
  simp only [State.findJob, State.jobSt, State.f, State.touchCmd_r]
  rfl

theorem State.jobSt_touchCmd (s : State) (c : Cmd) (j : Nat) : (s.touchCmd c).jobSt j = s.jobSt j := by
  simp only [State.jobSt, State.f, State.touchCmd_r]

theorem State.freeJob_touchCmd (s : State) (c : Cmd) : (s.touchCmd c).freeJob = s.freeJob := by
  simp only [State.freeJob, State.jobSt_touchCmd]

/-- The job of an accepted command's handle is the one its checks found. -/
theorem State.onJob_acceptedBy {s : State} {c : Cmd} {k : CmdSpec} {j : Nat} (hj : s.findJob c.handle.toNat = some j)
    (hk : k.aud = 0) (f : State → Nat → State) : (s.acceptedBy c k).onJob c f = f (s.acceptedBy c k) j := by
  have h : (s.acceptedBy c k).findJob c.handle.toNat = some j := by
    rw [State.acceptedBy_unaudited s c hk, State.findJob_touchCmd, hj]
  rw [State.onJob, h]

/-- JOB_START that passes its checks takes the lowest free slot. -/
theorem runs_jobStart {c : Cmd} {s : State} {j : Nat} (h : Accepts s c ((s.touchCmd c).startSpec c)) (hj : s.freeJob = some j) :
    let t := s.touchCmd c
    let k := t.startSpec c
    let h := ((t.job j).gen % 15 + 1) * 16 + j
    let r0 : Word := if c.byte 8 = 1 then nw (t.freeCtx.getD 0) else 0
    let u := (if k.aud = 0 then t else t.audit (t.cmdAudit c 0x0110 1 h r0 0)).createJob c j
    Runs (.jobStart c) s
      ((u.putRec { ring := c.ring.val, tag := c.tag.toNat, status := 0x01, handle := h, idx := c.idx.toNat, final := false,
                   job := true, detail := 0, r0 := r0, r1 := 0, irq := c.flags.getLsbD 0 }).leave c) := by
  obtain ⟨hcell, hpass⟩ := h
  refine Runs.of rfl ((if_neg (by simp [hcell])).trans ?_)
  dsimp only
  rw [hpass, State.freeJob_touchCmd, hj]

/-- Settles O34. -/
theorem jobsComplete : Obligations.JobsComplete := by
  unfold Obligations.JobsComplete
  refine ⟨fun c s j h hj => runs_jobStart h hj, fun c s j hj h => ⟨fun h1 => ?queued, fun h2 => ?running⟩, fun c s j hj h => ?resume,
    fun c s j hj h => ?cancel, fun c s j hj h => ?query, fun s j hj hrun => ?dispatch, fun slot s hlast => ⟨fun h3 => ?susp, fun h5 => ?canc⟩,
    fun slot s hst hstep => Runs.of rfl (if_pos ⟨hst, hstep⟩),
    fun slot d s h => ⟨Runs.of rfl (if_pos h), Runs.of rfl (if_pos h)⟩⟩
  case queued =>
    refine Runs.accepted h rfl ((State.onJob_acceptedBy hj rfl _).trans (if_pos ?_))
    rw [State.acceptedBy_unaudited s c rfl, State.jobSt_touchCmd, h1]
  case running =>
    refine Runs.accepted h rfl ((State.onJob_acceptedBy hj rfl _).trans (if_neg ?_))
    rw [State.acceptedBy_unaudited s c rfl, State.jobSt_touchCmd, h2]
    decide
  case resume => exact Runs.accepted h rfl (State.onJob_acceptedBy hj rfl _)
  case cancel => exact Runs.accepted h rfl (State.onJob_acceptedBy hj rfl _)
  case query =>
    refine Runs.accepted h rfl ((State.onJob_acceptedBy hj rfl _).trans ?_)
    simp only [Bool.not_eq_true']
  case dispatch => exact Runs.of rfl (by rw [hj]; exact if_pos hrun)
  case susp => exact Runs.of rfl ((if_neg (by simp [hlast])).trans (if_pos h3))
  case canc => exact Runs.of rfl ((if_neg (by simp [hlast])).trans ((if_neg (by rw [h5]; decide)).trans (if_pos h5)))

/-- Settles O35: each event's condition holds. -/
theorem memoryEventsComplete : Obligations.MemoryEventsComplete := by
  unfold Obligations.MemoryEventsComplete
  refine ⟨fun n ue s hc => ⟨Runs.of rfl (if_neg (by simp [hc])), fun hen hsize => Runs.of rfl (if_neg (by simp [hc, hen, hsize]))⟩,
    fun s => rfl, fun bad s i hi hdis hst => ?fill, fun slot s hst hage => Runs.of rfl (if_pos ⟨hst, hage⟩), fun ue s i q hq => ?wb,
    fun ch ue s => rfl⟩
  case fill => 
    refine Runs.of rfl ?_
    rw [hi]
    have h1 : ¬(({ s with mu := { s.mu with fillNow := none } } : State).slot i).discard = true := by
      show ¬(s.slot i).discard = true
      simp [hdis]
    exact congrArg State.pump ((if_neg h1).trans (if_pos hst))
  case wb => exact Runs.of rfl (by rw [hq])

/-! ## The Ethernet service (05 R96) -/

theorem State.ethInner_open {s : State} {k : Fin 4} (hup : (s.conn k.val).up = true) (hopen : s.connOpen k.val = true)
    (act : State → State) : s.ethInner k false act = act s := by
  simp only [State.ethInner, hup, hopen, Bool.true_eq_false, if_false, Bool.not_true, Bool.or_self, Bool.false_eq_true]

/-- What the inner message of a protected message does. -/
def State.innerAct (s : State) (k : Fin 4) : EthInner → State
  | .command desc => s.ethCommand k.val desc
  | .regFrame hdr data => s.ethRegFrame k hdr data
  | .other => s

/-- A protected message of an open connection whose counter rose acts. -/
theorem runs_protected {k : Fin 4} {ctr : Nat} {s : State} (hup : (s.conn k.val).up = true) (hopen : s.connOpen k.val = true)
    (hctr : ∀ c, (s.conn k.val).rxCtr = some c → c < ctr) (m : EthInner) :
    Runs (.ethProtectedMessage k ctr true m) s
      ((s.setConn k.val { s.conn k.val with rxCtr := some ctr }).innerAct k m) := by
  refine Runs.of rfl ((if_neg (by simp [hup])).trans ((if_neg ?_).trans ?_))
  · rw [hopen]
    cases hr : (s.conn k.val).rxCtr with
    | none => simp
    | some c => simpa using hctr c hr
  · cases m <;> rfl

/-- Settles O38. -/
theorem ethernetServiceCompletes : Obligations.EthernetServiceCompletes := by
  unfold Obligations.EthernetServiceCompletes
  refine ⟨fun port s k hl hk => ?connect, fun k desc s hup hopen hlen hen hroom => ?command, fun k hdr data s hup hopen hn => ?frame,
    fun k role s hup hest h1 h4 hlock hos => ?exchange, fun k key s x hup hest hx hok => ?role,
    fun k ctr s hup hopen hctr => ?msg, fun k s hup => Runs.of rfl (if_pos hup)⟩
  case connect => exact Runs.of rfl ((if_pos hl).trans (by rw [hk]))
  case command =>
    refine Runs.of rfl ((State.ethInner_open hup hopen _).trans (if_neg ?_))
    simp only [hlen, hen, hroom, ne_eq, not_true_eq_false, Bool.true_eq_false, or_self, not_false_eq_true]
  case frame =>
    refine ⟨fun hop hlen => ?_, fun hop => ?_⟩
    · exact Runs.of rfl ((State.ethInner_open hup hopen _).trans (if_pos ⟨hop, hn, hlen⟩))
    · exact Runs.of rfl ((State.ethInner_open hup hopen _).trans
        ((if_neg (by rw [hop]; exact fun h => absurd h.1 (by decide))).trans (if_pos ⟨hop, hn⟩)))
  case exchange =>
    have hrefuse : ¬(role.toNat < 1 ∨ 4 < role.toNat ∨ s.ifLocked (2 + k.val) = true ∨
        (role.toNat = 4 ∧ s.osardOk = false)) := by
      simp only [hlock, not_or, Nat.not_lt, h1, h4, Bool.false_eq_true, not_false_eq_true, true_and, not_and, Bool.not_eq_false]
      exact hos
    exact Runs.of rfl ((if_neg (by simp [hup])).trans ((if_neg (by simp [hest])).trans (if_neg hrefuse)))
  case role =>
    refine Runs.of rfl ((if_neg (by simp [hup])).trans ((if_neg (by simp [hest])).trans ?_))
    rw [hx]
    exact if_pos hok
  case msg =>
    exact ⟨fun desc => runs_protected hup hopen hctr (.command desc), fun hdr data => runs_protected hup hopen hctr (.regFrame hdr data),
      runs_protected hup hopen hctr .other⟩

/-! ## The Porch (05 R98, R100) -/

/-- Settles O39. -/
theorem porchCompletes : Obligations.PorchCompletes := by
  unfold Obligations.PorchCompletes
  refine ⟨fun ring ecc key s ha hen => ?_, fun c s h => Runs.accepted h rfl rfl⟩
  intro r h hne hheld hbusy d c t
  have hgo : ¬(!s.answers || !s.ringEn r || h == s.f (R.PORCH_CMD_TAIL r) 9 0 || s.heldBack r || decide (8 ≤ s.busyCmds r)) = true := by
    simp only [r] at *
    simp [ha, hen, hne, hheld, hbusy]
  refine ⟨fun hecc => (if_neg hgo).trans (if_pos hecc), fun hecc hfence => ?_⟩
  have hwait : ¬(c.flags.getLsbD 1 && s.busyCmds r != 0) = true := by
    simpa [Classical.or_iff_not_imp_left] using hfence
  have hrun : exec (.porchDescriptorFetch ring ecc key) s = t.runDesc (leNat (d.take 2)) c key :=
    (if_neg hgo).trans ((if_neg (by simp [hecc])).trans (if_neg hwait))
  obtain ⟨u, hu⟩ := t.runDesc_answers (leNat (d.take 2)) c key
  exact ⟨hrun, u, hrun.trans hu⟩

end Sys2Proof.Machine
end

section
/-!
PROOFS. Where the events of CAN, Ethernet and the Hexyon ring, of outlet channels, regions and boost channels and the drive's
commands complete (11, 18), with the statements O40 to O45.
-/
namespace Sys2Proof.Machine

/-! ## Buses and the Hexyon ring (18) -/

theorem State.canErr_comm (s : State) (b : Nat) (tec rec_ : Byte) : (s.canErr b tec rec_).comm = s.comm := by
  unfold State.canErr
  exact ((State.wf_comm _ _ _ _ _).trans (State.wf_comm _ _ _ _ _)).trans (State.wf_comm _ _ _ _ _)

/-- Settles O40: each event's condition holds. -/
theorem busEventsComplete : Obligations.BusEventsComplete := by
  unfold Obligations.BusEventsComplete
  refine ⟨fun bus id dlc data sof tec rec_ s hup hc => Runs.of rfl (if_pos ⟨hup, hc⟩), fun c s h hok => ?tx,
    fun bus tec rec_ s e hup hmon he => ?sent, fun bus tec rec_ s hup => Runs.of rfl (if_pos hup),
    fun bus s hen hoff => Runs.of rfl (if_pos ⟨hen, hoff⟩),
    fun bus addr s hup hmon hlo hhi => Runs.of rfl (if_pos ⟨hup, hmon, hlo, hhi⟩), fun bus s h => Runs.of rfl (if_pos h),
    fun port s hen hlink hc => ?frame, fun port speed s => rfl,
    fun port ns us s hen hlink hptp => Runs.of rfl (if_pos ⟨hen, hlink, hptp⟩), fun port s t ns i hp hb hdt => ?loss⟩
  case tx => exact Runs.accepted h rfl (if_neg hok)
  case sent =>
    rw [← State.canErr_comm s bus.val tec rec_] at he
    refine Runs.of rfl ((if_pos ⟨hup, hmon⟩).trans ?_)
    generalize s.canErr bus.val tec rec_ = t at he
    dsimp only
    rw [he]
  case frame =>
    refine ⟨fun sender => ?_, fun ip sender hip => ?_, fun src data => ?_, ?_, ?_, ?_⟩
    · exact Runs.of rfl ((if_pos ⟨hen, hlink, hc⟩).trans (if_pos rfl))
    · exact Runs.of rfl ((if_pos ⟨hen, hlink, hc⟩).trans (if_neg hip))
    all_goals exact Runs.of rfl (if_pos ⟨hen, hlink, hc⟩)
  case loss => exact Runs.of rfl (by rw [hp]; exact if_pos ⟨hb, hdt⟩)

/-- Settles O41: each event's condition holds. -/
theorem hexyonEventsComplete : Obligations.HexyonEventsComplete := by
  unfold Obligations.HexyonEventsComplete
  refine ⟨fun s hb hc => Runs.of rfl (if_pos ⟨hb, hc⟩), fun port hdr pay crc t s hen hc => ⟨fun hcrc hlen => ?good, fun hcrc => ?bad⟩,
    fun node s hne hpres hseen => ?absent, fun s t hel hen hb hc hm ht hquiet => ?claim, fun s hm hs ht => Runs.of rfl (if_pos ⟨hm, hs, ht⟩)⟩
  case good => exact Runs.of rfl ((if_pos ⟨hen, hc⟩).trans (if_pos ⟨hcrc, hlen⟩))
  case bad => exact Runs.of rfl ((if_pos ⟨hen, hc⟩).trans (if_neg fun h => hcrc h.1))
  case absent =>
    have hdue : (match (s.node node.val).seen with | some t => decide (t + s.hbDT ≤ s.dt) | none => true) = true := by
      cases h : (s.node node.val).seen with
      | none => rfl
      | some t => exact decide_eq_true (hseen t h)
    exact Runs.of rfl (if_pos ⟨hne, hpres, hdue⟩)
  case claim =>
    have hq : (match s.comm.masterAt with
        | some t => decide (t + s.hbDT + msDT (2 * s.nodeId) ≤ s.dt)
        | none => false) = true := by
      rw [ht]; exact decide_eq_true hquiet
    exact Runs.of rfl (if_pos ⟨hel, hen, hb, hc, hm, hq⟩)

/-! ## The outlet drive (11) -/

/-- Settles O42: each event's condition holds. -/
theorem channelEventsComplete : Obligations.ChannelEventsComplete := by
  unfold Obligations.ChannelEventsComplete
  refine ⟨fun ch s h => ?peak, fun ch s h hend => ?pullin, fun ch s h hp hw => Runs.of rfl (if_pos ⟨h, hp, hw⟩),
    fun ch s r hr hsrc hw => ?stagger, fun ch s h => ⟨fun hk => ?off, fun k hk hmd => ?sense, fun k hk hmd => ?miss⟩,
    fun ch s h => Runs.of rfl (if_pos h), fun ch s h hl hw => Runs.of rfl (if_pos ⟨h, hl, hw⟩),
    fun ch s h hw => Runs.of rfl (if_pos ⟨h, hw⟩), fun ch s t o ht ho hn => ?start, fun ch s t ht hst ht1 ht2 => ?decay⟩
  case peak => exact Runs.of rfl ((if_pos h).trans (by simp only [decide_eq_true_eq]))
  case pullin => exact Runs.of rfl (if_pos ⟨h, by simpa using hend⟩)
  case stagger => exact Runs.of rfl (by rw [hr]; exact if_pos ⟨hsrc, hw⟩)
  case off => exact Runs.of rfl ((if_pos h).trans (by rw [hk]))
  case sense => exact Runs.of rfl ((if_pos h).trans (by rw [hk]; exact if_pos hmd))
  case miss => exact Runs.of rfl ((if_pos h).trans (by rw [hk]; exact if_neg (by simp [hmd])))
  case start => exact Runs.of rfl (by rw [ht, ho]; exact if_pos hn)
  case decay => exact Runs.of rfl (by rw [ht]; exact if_pos ⟨hst, ht1, ht2⟩)

/-- Settles O43: each event's condition holds. -/
theorem regionEventsComplete : Obligations.RegionEventsComplete := by
  unfold Obligations.RegionEventsComplete
  refine ⟨fun reg v s => ⟨fun h hv => Runs.of rfl (if_pos ⟨h, hv⟩), fun h hen hv hw => Runs.of rfl (if_pos ⟨h, hen, hv, hw⟩),
    fun h hv => Runs.of rfl (if_pos ⟨h, hv⟩), fun h hv => Runs.of rfl (if_pos ⟨h, hv⟩), fun h => Runs.of rfl (if_pos h)⟩,
    fun reg s h hw => Runs.of rfl (if_pos ⟨h, hw⟩), fun reg v cur s => rfl⟩

/-- Settles O44: each event's condition holds. -/
theorem protectionAndBoostComplete : Obligations.ProtectionAndBoostComplete := by
  unfold Obligations.ProtectionAndBoostComplete
  refine ⟨fun ch cur s t h ht hw => ?coil, fun ch up down s h => ⟨fun hu hd => ?batt, fun hu hd => ?gnd, fun hb hg => ?pass⟩,
    fun ch s m h hm => ?cross, fun cl t s => ⟨fun ht hh => Runs.of rfl (if_pos ⟨ht, hh⟩), fun ht hh => Runs.of rfl (if_pos ⟨ht, hh⟩)⟩,
    fun b s h => ⟨Runs.of rfl (if_pos h), fun hw => Runs.of rfl (if_pos ⟨h, hw⟩)⟩, fun b s t ht hle h => ?shot,
    fun b s h => Runs.of rfl (if_pos h), fun b v s hw hp => Runs.of rfl (if_pos ⟨hw, hp⟩), fun b s t ht h hw => ?defer,
    fun b s h => Runs.of rfl (if_pos h), fun v s => ⟨fun hv ho => Runs.of rfl (if_pos ⟨hv, ho⟩), fun hv hw => ?low,
      fun hv => Runs.of rfl (if_pos hv)⟩⟩
  case coil =>
    exact Runs.of rfl (if_pos ⟨h, by rw [ht]; exact decide_eq_true hw⟩)
  case batt => exact Runs.of rfl ((if_pos h).trans (if_pos ⟨hu, hd⟩))
  case gnd => exact Runs.of rfl ((if_pos h).trans ((if_neg (by omega)).trans (if_pos ⟨hu, hd⟩)))
  case pass => exact Runs.of rfl ((if_pos h).trans ((if_neg hb).trans (if_neg hg)))
  case cross =>
    refine Runs.of rfl ((if_pos h).trans ?_)
    dsimp only
    generalize hx : List.find? _ (chansOf (regionOf ch.val)) = x
    obtain rfl := hx.symm.trans hm
    rfl
  case shot => exact Runs.of rfl (by rw [ht]; exact if_pos ⟨hle, h⟩)
  case defer => exact Runs.of rfl (by rw [ht]; exact if_pos ⟨h, hw⟩)
  case low =>
    obtain ⟨b, hb, hst⟩ := hw
    exact Runs.of rfl (if_pos ⟨hv, List.any_eq_true.mpr ⟨b, List.mem_range.mpr hb, by simpa using hst⟩⟩)

/-- Settles O45. -/
theorem driveCommandsComplete : Obligations.DriveCommandsComplete := by
  unfold Obligations.DriveCommandsComplete
  refine ⟨fun c s h => Runs.accepted h rfl rfl, fun u s t ht => ⟨fun hu he => ?out, fun hu he => ?bst⟩,
    fun c s h => Runs.accepted h rfl rfl, fun c s h => Runs.accepted h rfl rfl⟩
  case out =>
    refine Runs.of rfl ?_
    rw [if_pos hu, he]
    exact (if_pos ht).trans (if_pos hu)
  case bst =>
    have hnu : ¬u.val < 192 := Nat.not_lt.mpr hu
    refine Runs.of rfl ?_
    rw [if_neg hnu, he]
    exact (if_pos ht).trans (if_neg hnu)

end Sys2Proof.Machine
end

section
/-!
PROOFS. Where the events of motion detection, of the PWM generator and of the field inputs and outputs complete (12, 14, 15),
with the statements O46 to O49.
-/
namespace Sys2Proof.Machine

/-- Storing the measured VBST leaves the look-ahead. -/
theorem State.setVbst_q (s : State) (v : BitVec 16) (id : Nat) : (s.setVbst v).q id = s.q id := by
  unfold State.q State.setVbst
  rw [State.wf_look]

/-- Settles O46: each event's condition holds. -/
theorem motionEventsComplete : Obligations.MotionEventsComplete := by
  unfold Obligations.MotionEventsComplete
  refine ⟨fun ch t chop fall s t0 band d ho h1 h2 hst => ?opening, fun ch s t0 band d ho hw => ?timeout,
    fun ch s k ts hk hts hspan hst hw => ?span, fun ch t peak s k a hk ha hst h1 h2 => ?kink,
    fun ch s k a hk ha hst hw => ?spanEnd, fun b s m q hq => ?landing, fun c s h => Runs.accepted h rfl rfl,
    fun id s e he => ⟨fun hlate => ?land, fun hlate => ?late⟩, fun id s e q hq hl hx => ⟨fun hk => ?run, fun hk v => ?boost, fun hk => ?dio⟩,
    fun id s e q hq hx => ⟨fun hk => ?motor, fun hk => ?remote⟩⟩
  case opening => exact Runs.of rfl (by rw [ho]; exact if_pos ⟨h1, h2, hst⟩)
  case timeout => exact Runs.of rfl (by rw [ho]; exact if_pos hw)
  case span => exact Runs.of rfl (by rw [hk]; dsimp only; rw [hts, hspan]; exact if_pos ⟨hst, hw⟩)
  case kink => exact Runs.of rfl (by rw [hk]; dsimp only; rw [ha]; exact if_pos ⟨hst, h1, h2⟩)
  case spanEnd => exact Runs.of rfl (by rw [hk]; dsimp only; rw [ha]; exact if_pos ⟨hst, hw⟩)
  case landing => exact Runs.of rfl (by rw [hq])
  case land => exact Runs.of rfl (by rw [he]; exact if_neg (Nat.not_lt.mpr hlate))
  case late =>
    refine Runs.of rfl ?_
    rw [he]
    refine (if_pos hlate).trans ?_
    simp only [Bool.and_eq_true, beq_iff_eq, decide_eq_true_eq]
  case run => exact Runs.of rfl (by rw [hq]; exact if_pos ⟨hk, hl, hx⟩)
  case boost =>
    refine Runs.of rfl ?_
    rw [State.setVbst_q, hq]
    exact if_pos ⟨hk, hl, hx⟩
  case dio => exact Runs.of rfl (by rw [hq]; exact if_pos ⟨hk, hl, hx⟩)
  case motor => exact Runs.of rfl (by rw [hq]; exact if_pos ⟨hk, hx⟩)
  case remote => exact Runs.of rfl (by rw [hq]; exact if_pos ⟨hk, hx⟩)

/-- Settles O47: each event's condition holds, while the generator is not held. -/
theorem pwmEventsComplete : Obligations.PwmEventsComplete := by
  unfold Obligations.PwmEventsComplete
  have free {s : State} (h : s.pwm.held = none) : s.pwm.held.isNone = true := by rw [h]; rfl
  refine ⟨fun cl s hh => ⟨fun hz => ?zero, fun hp hw => ?period, ?pulse, ?loss⟩, fun ch s e q hq hh hw => ?compare, fun ch s => rfl,
    fun s hh => ⟨fun n => ?cal, ?calFail⟩, fun t s hen hh ht => ?synci, fun t dt s x hx => ⟨fun hc => ?capture, fun ho hb => ?rearm, fun e hbl he => ?blank⟩,
    fun t s => ⟨rfl, rfl, ?inactive⟩⟩
  case zero => exact Runs.of rfl (if_pos ⟨free hh, hz⟩)
  case period => exact Runs.of rfl (if_pos ⟨free hh, hp, hw⟩)
  case pulse => exact fun hs hn hz => Runs.of rfl (if_pos ⟨free hh, hs, hn, hz⟩)
  case loss => exact fun hen hw => Runs.of rfl (if_pos ⟨free hh, hen, hw⟩)
  case compare => exact Runs.of rfl (by rw [hq]; exact if_pos ⟨free hh, hw⟩)
  case cal => exact Runs.of rfl (if_neg (by simp [hh]))
  case calFail => exact Runs.of rfl (if_neg (by simp [hh]))
  case synci => exact Runs.of rfl (if_pos ⟨hen, free hh, ht⟩)
  case capture =>
    subst hx
    exact Runs.of rfl (if_pos (by simpa using hc))
  case rearm => exact Runs.of rfl ((if_neg (by simp)).trans (if_pos (by simp [ho, hb])))
  case blank =>
    subst hx
    exact Runs.of rfl (by rw [hbl]; exact if_pos he)
  case inactive => exact Runs.of rfl (by simp only [Bool.and_eq_true])

/-- A pin's state and configuration are registers other than its measured current. -/
theorem dioOpen_offsets (n : Nat) : R.DIOG_U n 0x04 ≠ R.DIOG_IO_STAT n ∧ R.DIOG_IO_CFG n ≠ R.DIOG_IO_STAT n := by
  simp only [R.DIOG_IO_STAT, R.DIOG_IO_CFG, R.DIOG_U, frm, pg]
  omega

/-- Settles O48: each event's condition holds. -/
theorem dioEventsComplete : Obligations.DioEventsComplete := by
  unfold Obligations.DioEventsComplete
  refine ⟨fun pin level t s hne => Runs.of rfl (if_neg hne), fun pin s => rfl,
    fun pin s h => ⟨Runs.of rfl (if_pos h), fun hw => Runs.of rfl (if_pos ⟨h, hw⟩), fun ma hen hma hw => ?coil⟩,
    fun pin s h hl hw => Runs.of rfl (if_pos ⟨h, hl, hw⟩), fun c s h => Runs.accepted h rfl rfl,
    fun pin s h hb hw => Runs.of rfl (if_pos ⟨h, hb, hw⟩),
    fun g v s => ⟨fun hb hv => Runs.of rfl (if_pos ⟨hb, hv⟩), fun hb hv => Runs.of rfl (if_pos ⟨hb, hv⟩)⟩, fun g s => rfl⟩
  case coil =>
    obtain ⟨hst, hcfg⟩ := dioOpen_offsets pin.val
    have h' : (s.wf (R.DIOG_IO_STAT pin.val) 11 0 ma.toNat).dioSt pin.val = 2 := by
      rw [State.dioSt, State.f, State.r_wf_ne _ _ _ _ hst]; exact h
    have hen' : (s.wf (R.DIOG_IO_STAT pin.val) 11 0 ma.toNat).b (R.DIOG_IO_CFG pin.val) 30 = true := by
      rw [State.b, State.r_wf_ne _ _ _ _ hcfg]; exact hen
    exact Runs.of rfl (if_pos ⟨h', hen', hma, hw⟩)

/-- Settles O49: each event's condition holds. -/
theorem inputEventsComplete : Obligations.InputEventsComplete := by
  unfold Obligations.InputEventsComplete
  refine ⟨fun n code s => rfl, fun n s hr hc => Runs.of rfl (if_pos ⟨hr, by rw [hc]; rfl⟩), fun n s t ht hw => ?burden,
    fun n t s => rfl, fun n s hw => Runs.of rfl (if_pos hw), fun n s t ht hw hb => ?timeout,
    fun p s h => ⟨fun up => Runs.of rfl (if_pos h), Runs.of rfl (if_pos h)⟩, fun p s t ht hw => ?quad, fun id s a ha hw => ?confirm⟩
  case burden => exact Runs.of rfl (by rw [ht]; exact if_pos hw)
  case timeout => exact Runs.of rfl (by rw [ht]; exact if_pos ⟨hw, hb⟩)
  case quad => exact Runs.of rfl (by rw [ht]; exact if_pos hw)
  case confirm => exact Runs.of rfl (by rw [ha]; exact if_pos hw)

end Sys2Proof.Machine
end

section
/-!
PROOFS. Where the commands and events of pose, planning frames, look-ahead, field store and metering complete (07 to 12), with
the statements O50 to O55.
-/
namespace Sys2Proof.Machine

/-! ## Pose (07) -/

/-- Settles O50: each event's condition holds. -/
theorem poseEventsComplete : Obligations.PoseEventsComplete := by
  unfold Obligations.PoseEventsComplete
  refine ⟨fun s l q hq ht => ?host, fun src l s => rfl, fun s => rfl, fun s h hw => Runs.of rfl (if_pos ⟨h, hw⟩),
    fun bus sof s hbus => ⟨fun e n => ?_, fun v c => ?_, fun m h u => ?_, fun h => ?_⟩, fun s d m h u hn hw => ?timeout,
    fun edge data s h => Runs.of rfl (if_pos h), fun s h hq => ?lost, fun s t ht hw => ?still⟩
  case host => exact Runs.of rfl (by rw [hq]; exact if_pos ht)
  case timeout => exact Runs.of rfl (by rw [hn]; exact if_pos hw)
  case lost =>
    have hquiet : (match s.pose.imuLast with | some t => decide (t + msDT 20 ≤ s.dt) | none => true) = true := by
      cases hl : s.pose.imuLast with
      | none => rfl
      | some t => exact decide_eq_true (hq t hl)
    exact Runs.of rfl (if_pos (by rw [Bool.and_eq_true]; exact ⟨h, hquiet⟩))
  case still => exact Runs.of rfl (by rw [ht]; exact if_pos hw)
  all_goals exact Runs.of rfl (if_pos hbus)

/-- Settles O51: each event's condition holds. -/
theorem hitchAndHistoryComplete : Obligations.HitchAndHistoryComplete := by
  unfold Obligations.HitchAndHistoryComplete
  refine ⟨fun s => rfl, fun s a b h0 h1 ha hb => ?restart, fun h s t ht hw => ?disagree, fun s a b hc hm hp hab => ?entry,
    fun s hc hm hw => ?invalid, fun s hax => ?index⟩
  case restart => exact Runs.of rfl (by rw [h0, h1, ha, hb])
  case disagree => exact Runs.of rfl (by rw [ht]; exact if_pos hw)
  case entry =>
    refine Runs.of rfl ((if_neg (by simp [hc, hm, hp])).trans ?_)
    rw [hab]
  case invalid =>
    have hno : ¬(s.histCap = 0 ∨ s.mode = 0 ∨ s.dt < s.pose.histNext ∨
        ((s.pose.fusedLog.any fun l => decide (recDT l ≤ s.pose.histNext)) = true ∧ s.dt < s.pose.histNext + s.staleDT)) := by
      have h1 : ¬s.dt < s.pose.histNext := Nat.not_lt.mpr (Nat.le_trans (Nat.le_add_right _ _) hw)
      have h2 : ¬s.dt < s.pose.histNext + s.staleDT := Nat.not_lt.mpr hw
      simp only [hc, hm, h1, h2, and_false, or_self, not_false_eq_true]
    refine Runs.of rfl ((if_neg hno).trans ?_)
    simp only [Bool.and_eq_true, decide_eq_true_eq]
  case index =>
    refine Runs.of rfl ((if_pos hax).trans ?_)
    dsimp only
    generalize (!s.pose.idxSeen || decide (((s.pose.idxCount.natAbs : Int) - s.f R.GEOM_COUNTS_PER_TURN 23 0).natAbs ≤ 2)) = good
    cases good
    · simp only [Bool.false_and, Bool.false_eq_true, if_false]
    · simp only [Bool.true_and, if_true, Bool.and_eq_true, Bool.not_eq_true']

/-! ## Frames and look-ahead (09) -/

/-- Settles O52: each stage runs where the one before it ended. -/
theorem frameStagesComplete : Obligations.FrameStagesComplete := by
  unfold Obligations.FrameStagesComplete
  refine ⟨fun s => rfl, fun s hrun => ⟨fun h => Runs.of rfl (if_pos ⟨h, hrun⟩), fun h => Runs.of rfl (if_pos ⟨h, hrun⟩),
    fun h => Runs.of rfl (if_pos ⟨h, hrun⟩), fun h hf => Runs.of rfl (if_pos ⟨hrun, h, hf⟩),
    fun h1 h4 => Runs.of rfl (if_pos ⟨hrun, h1, h4⟩)⟩⟩

/-- OUTLET_SWITCH runs its checks where the staged set has no fault. -/
theorem exec_outletSwitch {c : Cmd} {s : State} (hf : s.tableFault s.look.staged = none) :
    exec (.outletSwitch c) s = done (s.runCmd c
      { CmdSpec.mk' 0x0501 2 2 (c.badArg [] []) (!(decide (1 ≤ s.mode) && decide (s.mode ≤ 4))) with
        busy := s.b R.OUTLETWIN_SW_STAT 1 || s.look.captured.isSome }
      (fun s => { s with look := { s.look with captured := some (s.look.staged, c) } }.chg (R.OUTLETWIN 0))) := by
  show execOutletSwitch c s = _
  unfold execOutletSwitch
  dsimp only
  rw [hf]

/-- Settles O53: each event's condition holds. -/
theorem lookCommandsComplete : Obligations.LookCommandsComplete := by
  unfold Obligations.LookCommandsComplete
  refine ⟨fun c s hf h => Runs.accepted h (exec_outletSwitch hf) rfl, fun c s h => Runs.accepted h rfl rfl,
    fun path addr sof data s a hd hp ha => ?report, fun id s a ha hw => ?timeout,
    fun id s ho hon hw hp => Runs.of rfl (if_pos ⟨ho, hon, hw, hp⟩), fun bus sof cmds s hb => Runs.of rfl (if_pos hb), fun s => rfl,
    fun id s o ho => ?form, fun s g hg => ?write⟩
  case report => exact Runs.of rfl ((if_pos ⟨hd, hp⟩).trans (by rw [ha]))
  case timeout => exact Runs.of rfl (by rw [ha]; exact if_pos hw)
  case form => exact Runs.of rfl (by rw [ho])
  case write => exact Runs.of rfl (by rw [hg])

/-! ## The field store and metering (08, 10, 12) -/

/-- Settles O54: each step's condition holds. -/
theorem fieldCommandsComplete : Obligations.FieldCommandsComplete := by
  unfold Obligations.FieldCommandsComplete
  refine ⟨fun sig s j hj hl => ⟨fun h0 hst => ?begin, fun h0 => ?tile⟩, fun s j h hj hh => ⟨fun hst hb => ?drain, fun hst h1 h2 => ?swap⟩,
    fun c s h => Runs.accepted h rfl rfl, fun s j hj hst => ?row, fun slot s hen hk ha hst => ?exportTile⟩
  case begin => exact Runs.of rfl (by rw [hj]; exact (if_neg (by simp [hl])).trans ((if_pos h0).trans (if_pos hst)))
  case tile => exact Runs.of rfl (by rw [hj]; exact (if_neg (by simp [hl])).trans (if_neg h0))
  case drain => exact Runs.of rfl (by rw [hj]; dsimp only; rw [hh]; exact if_pos ⟨hst, .inl hb⟩)
  case swap => exact Runs.of rfl (by rw [hj]; dsimp only; rw [hh]; exact if_pos ⟨hst, h1, h2⟩)
  case row => exact Runs.of rfl (by rw [hj]; exact if_neg hst)
  case exportTile =>
    have hact : s.jobSt slot.val = 2 ∨ s.jobSt slot.val = 3 ∨ s.jobSt slot.val = 5 := by
      simpa only [State.jobActive, Bool.or_eq_true, beq_iff_eq, or_assoc] using ha
    exact Runs.of rfl (if_pos ⟨hen, hk, hact, hst⟩)

/-- CAL_MEASURE of a job in WAIT passes as a command with no conflict. -/
theorem runs_calMeasure {c : Cmd} {s : State} {j : Nat} (hj : s.findJob c.handle.toNat = some j) (hw : s.calWaits j = true)
    (h : Accepts s c (CmdSpec.mk' 0x0512 3 2 (c.badArg [(8, 11)] []) false))
    (ht : (s.acceptedBy c (CmdSpec.mk' 0x0512 3 2 (c.badArg [(8, 11)] []) false)).findJob c.handle.toNat = some j) :
    let t := s.acceptedBy c (CmdSpec.mk' 0x0512 3 2 (c.badArg [(8, 11)] []) false)
    Runs (.calMeasure c) s
      (((t.setJob j { t.job j with step := 4, vals := (t.job j).vals ++ [(c.num 8 4 : Int)] }).chg (R.METER 0)).ok c 0 0) := by
  have hspec : { CmdSpec.mk' 0x0512 3 2 (c.badArg [(8, 11)] [])
      (match s.findJob c.handle.toNat with | some j => !s.calWaits j | none => false) with
      noJob := (s.findJob c.handle.toNat).isNone } = CmdSpec.mk' 0x0512 3 2 (c.badArg [(8, 11)] []) false := by
    rw [hj]
    simp only [hw, Bool.not_true, Option.isNone_some, CmdSpec.mk']
  refine Runs.accepted h (congrArg (fun k => done (s.runCmd c k _)) hspec) ?_
  rw [ht]

/-- Settles O55: each step's condition holds. -/
theorem meterCommandsComplete : Obligations.MeterCommandsComplete := by
  unfold Obligations.MeterCommandsComplete
  refine ⟨fun c s h => Runs.accepted h rfl rfl, fun c s h => Runs.accepted h rfl rfl, fun s hc => Runs.of rfl (if_neg (by simp [hc])),
    fun p s t hen ht hw hold => ?lost, fun m un s j hj => ⟨fun h => ?run, fun h hw => ?zero, fun h hw => ?wait, fun h hst => ?apply⟩,
    fun c s j hj hw h ht => runs_calMeasure hj hw h ht, fun closes v flt res ind s j n rest hj hst => ⟨fun he hs => ?testEnd, fun he hroom hl hr => ?test⟩,
    fun closes v fault on off s j hj hst => ⟨fun he hs => ?sweepEnd, fun hn hroom hl => ⟨fun hoff => ?sweepSkip, fun hon hr hcode haud => ?sweep⟩⟩⟩
  case lost =>
    have hquiet : (match s.meter.flowLast.getD p.val none with | some x => decide (x + sDT 2 ≤ s.dt) | none => true) = true := by
      cases hl : s.meter.flowLast.getD p.val none with
      | none => rfl
      | some u => exact decide_eq_true (hold u hl)
    exact Runs.of rfl (if_pos ⟨hen, by rw [ht]; exact decide_eq_true hw, hquiet⟩)
  case run => exact Runs.of rfl (by rw [hj]; exact if_pos h)
  case zero => exact Runs.of rfl (by rw [hj]; exact (if_neg (by rw [h]; decide)).trans (if_pos ⟨h, hw⟩))
  case wait => exact Runs.of rfl (by rw [hj]; exact if_pos ⟨h, hw⟩)
  case apply => exact Runs.of rfl (by rw [hj]; exact if_pos ⟨h, hst⟩)
  case testEnd =>
    refine Runs.of rfl ?_
    rw [hj]
    refine (if_neg hst).trans ?_
    rw [he]
    exact if_pos hs
  case test =>
    refine Runs.of rfl ?_
    rw [hj]
    refine (if_neg hst).trans ?_
    rw [he]
    refine (if_neg (Nat.not_lt.mpr hroom)).trans ((if_neg (by simp only [hl, Bool.not_true, Bool.false_eq_true, not_false_eq_true])).trans
      ((if_pos hr).trans ?_))
    simp only [decide_eq_true_eq]
  case sweepEnd =>
    refine Runs.of rfl ?_
    rw [hj]
    exact (if_neg hst).trans ((if_pos he).trans (if_pos hs))
  case sweepSkip =>
    refine Runs.of rfl ?_
    rw [hj]
    exact (if_neg hst).trans ((if_neg (Nat.not_le.mpr hn)).trans ((if_neg (Nat.not_lt.mpr hroom)).trans
      ((if_neg (by simp only [hl, Bool.not_true, Bool.false_eq_true, not_false_eq_true])).trans
        (if_pos (by simp only [hoff, Bool.not_false])))))
  case sweep =>
    refine Runs.of rfl ?_
    rw [hj]
    refine (if_neg hst).trans ((if_neg (Nat.not_le.mpr hn)).trans ((if_neg (Nat.not_lt.mpr hroom)).trans
      ((if_neg (by simp only [hl, Bool.not_true, Bool.false_eq_true, not_false_eq_true])).trans
        ((if_neg (by simp only [hon, Bool.not_true, Bool.false_eq_true, not_false_eq_true])).trans ((if_pos hr).trans ?_)))))
    dsimp only
    rw [hcode]
    exact if_neg (by simp only [haud, Bool.not_true, Bool.false_eq_true, and_false, not_false_eq_true])

end Sys2Proof.Machine
end

section
/-!
PROOFS. Where the commands and events of the control engine, the GNSS baseband and the positioning service complete (13, 16,
17), with the statements O56 to O58.
-/
namespace Sys2Proof.Machine

/-! ## The control engine (13) -/

/-- Settles O56: each event's condition holds. -/
theorem controlCommandsComplete : Obligations.ControlCommandsComplete := by
  unfold Obligations.ControlCommandsComplete
  refine ⟨fun loop s t ht hrun hst hlast => ?sample, fun ue s t l q hq hrun => ?evaluation,
    fun loop s t hc hst hres hw => Runs.of rfl (by rw [hc]; exact if_pos ⟨hst, hres, hw⟩),
    fun c s h hf => ?mode, fun c s h hfind hoff => ?coefLoad⟩
  case sample => exact Runs.of rfl (by rw [ht]; exact if_pos ⟨hrun, hst, hlast⟩)
  case evaluation => exact Runs.of rfl (by rw [hq]; exact if_pos hrun)
  case mode =>
    refine Runs.accepted h rfl ?_
    dsimp only
    rw [ite_eq_right_iff.mpr fun hoff => Option.not_isSome_iff_eq_none.mp fun hs => hf ⟨hoff.1, hoff.2, hs⟩]
  case coefLoad =>
    refine Runs.accepted h rfl ?_
    dsimp only
    rw [hfind]
    dsimp only
    rw [if_neg (not_and_of_not_left _ (not_not_intro hoff))]

/-! ## The GNSS baseband (16) -/

/-- Settles O57: each event's condition holds. -/
theorem gnssEventsComplete : Obligations.GnssEventsComplete := by
  unfold Obligations.GnssEventsComplete
  refine ⟨fun s h => Runs.of rfl (if_pos h), fun gap s hl hg => ?linkReturn,
    fun a cur s => ⟨fun h hc => Runs.of rfl (if_pos ⟨h, hc⟩), fun h h1 h2 => Runs.of rfl (if_pos ⟨h, h1, h2⟩),
      fun h hc => Runs.of rfl (if_pos ⟨h, hc⟩)⟩,
    fun a s t hc hst hen hw hn => ?retry,
    fun ch s => ⟨fun h hw hs => Runs.of rfl (if_pos ⟨h, hw, hs⟩), fun h hw acc => ?interval⟩,
    fun x s j hj hst => ⟨fun hp hroom hch hm => ?start, fun hp found => ?cell, fun t hg hp hw => ?fail⟩,
    fun x s hp hw => Runs.of rfl (if_pos ⟨hp, hw⟩)⟩
  case linkReturn =>
    have hno : ¬(s.gnss.link || decide (gap = 0 ∧ s.gnss.seen = true)) = true := by
      rw [hl, Bool.false_or, decide_eq_true_eq]
      rintro ⟨h0, hseen⟩
      exact hg.elim (fun h => h h0) (fun h => Bool.false_ne_true (h.symm.trans hseen))
    exact Runs.of rfl (if_neg hno)
  case retry => exact Runs.of rfl (by rw [hc]; exact if_pos ⟨hst, hen, hw, hn⟩)
  case interval =>
    exact Runs.of rfl ((if_neg fun hue => Bool.false_ne_true hue.1).trans (if_pos ⟨h, hw⟩))
  case start =>
    refine Runs.of rfl ?_
    dsimp only
    rw [hj]
    dsimp only
    rw [if_pos ⟨hst, hp, hroom, hch, .inl hm⟩]
  case cell => exact Runs.of rfl (by rw [hj]; exact (if_pos ⟨hp, hst⟩).trans (if_neg Bool.false_ne_true))
  case fail => exact Runs.of rfl (by rw [hj, hg]; exact if_pos ⟨hst, hp, hw⟩)

/-! ## The positioning service (17) -/

/-- Settles O58: each event's condition holds. -/
theorem positioningCompletes : Obligations.PositioningCompletes := by
  unfold Obligations.PositioningCompletes
  refine ⟨fun q s hon hisl hdt => ?epoch, fun c s hv h => ?feed, fun src data s hon hsrc => Runs.of rfl (if_pos ⟨hon, hsrc⟩),
    fun s hon hc hok hl => ?age, fun adt ans rate s hon hdt => ?map, fun pin s => ⟨rfl, rfl, rfl⟩,
    fun s hon hl hst => ?loss, fun s hon hst hw => ?holdover, fun s hon => Runs.of rfl (if_pos hon)⟩
  case epoch => exact Runs.of rfl (if_pos (by simp only [hon, hisl, hdt, beq_self_eq_true, decide_true, Bool.and_self]))
  case feed => exact Runs.accepted h (congrArg done (if_neg (by rw [hv]; decide))) rfl
  case age => exact Runs.of rfl (if_pos (by simp only [hon, hc, hok, hl, Bool.not_false, Bool.and_self]))
  case map => exact Runs.of rfl (if_pos (by simp only [hon, hdt, decide_true, Bool.and_self]))
  case loss =>
    exact Runs.of rfl (if_pos (by simpa only [hon, hl, Bool.true_and, Bool.or_eq_true, beq_iff_eq, or_assoc] using hst))
  case holdover => exact Runs.of rfl (if_pos (by simp only [hon, hst, hw, beq_self_eq_true, decide_true, Bool.and_self]))

end Sys2Proof.Machine
end

section
/-!
PROOFS. Where the commands and events of sessions and of security complete (19), with the statements O59 and O60.
-/
namespace Sys2Proof.Machine

/-! ## Sessions (19 R410, R412) -/

/-- SESSION_CHALLENGE over an interface with a place for a session issues a challenge. -/
theorem runs_sessionChallenge {c : Cmd} {s : State} {j : Fin 6} {wrong : List Nat} {k : CmdSpec}
    (hwrong : wrong = need 8 (decide (1 ≤ c.byte 8) && decide (c.byte 8 ≤ 4)) ++ need 12 (decide (c.num 12 4 + 64 ≤ 0x100000)))
    (hk : k = { CmdSpec.mk' 0x0C01 0 0 (c.badArg [(8, 8), (12, 15)] wrong) false with
      locked := s.ifLocked j.val || (c.byte 8 == 4 && !s.osardOk) })
    (hs : s.openSlot c = some j.val) (ht : (s.acceptedBy c k).openSlot c = some j.val) (h : Accepts s c k) :
    Runs (.sessionChallenge c) s
      ((((s.acceptedBy c k).issue j (c.byte 8)).2.2.wrWords (sharedBase + c.num 12 4) ((s.acceptedBy c k).issue j (c.byte 8)).2.1).ok c
        ((s.acceptedBy c k).issue j (c.byte 8)).1 0) := by
  have hspec : { CmdSpec.mk' 0x0C01 0 0 (c.badArg [(8, 8), (12, 15)] wrong) false with
      locked := match s.openSlot c with | some k => s.ifLocked k || (c.byte 8 == 4 && !s.osardOk) | none => true } = k := by
    rw [hs, hk]
  subst hwrong
  refine Runs.accepted h (congrArg (fun k => done (s.runCmd c k _)) hspec) ?_
  rw [ht]
  exact dif_pos j.isLt

/-- Settles O59: each event's condition holds. -/
theorem sessionCommandsComplete : Obligations.SessionCommandsComplete := by
  unfold Obligations.SessionCommandsComplete
  refine ⟨fun c s j hs ht h => runs_sessionChallenge rfl rfl hs ht h, fun c key s x hx h hst => ?openSession,
    fun c s j h hj => ?close, fun slot s hr hw => Runs.of rfl (if_pos ⟨hr, hw⟩), fun id s => rfl, fun slot s t ht hw => ?lockout⟩
  case openSession =>
    refine Runs.accepted h rfl ?_
    rw [hx]
    exact if_pos hst
  case close =>
    refine Runs.accepted h rfl ?_
    rw [hj]
  case lockout => exact Runs.of rfl (by rw [ht]; exact if_pos hw)

/-! ## Keys, locks, updates, audit and debug (19 R401 to R419) -/

/-- FW_STAGE_BLOCK of a job that runs goes on to its block's outcome where the image is not refused. -/
theorem exec_fwStageBlock {i : ImageInfo} {r : FlashStep} {v : Bool} {s : State} {j : Nat} (hj : s.worker 8 = some j)
    (hl : s.b (R.JOBS_JOB_STAT j) 7 = false)
    (hi : (s.job j).step ≠ 0 ∨ (s.jobSt j = 2 ∧ s.stageRefused ((s.job j).num 20 4) i = none)) :
    exec (.fwStageBlock i r v) s = done (match r with
      | .flashError => (s.wb R.UPDATE_IMG_STAT (3 + s.otherSlot) false).failJob j 0x83
      | .written => s.stageBlock j i v) := by
  have hgo : ¬(s.b (R.JOBS_JOB_STAT j) 7 = true ∨ ((s.job j).step = 0 ∧ s.jobSt j ≠ 2)) := by
    rintro (h | ⟨h0, hst⟩)
    · exact Bool.false_ne_true (hl.symm.trans h)
    · exact hi.elim (fun h => h h0) (fun h => hst h.1)
  have hnone : (if (s.job j).step = 0 then s.stageRefused ((s.job j).num 20 4) i else none) = none := by
    split
    case isTrue h0 => exact hi.elim (fun h => absurd h0 h) (fun h => h.2)
    case isFalse => rfl
  show execFwStageBlock i r v s = _
  unfold execFwStageBlock
  rw [hj]
  dsimp only
  rw [if_neg hgo, hnone]
  cases r <;> rfl

/-- Settles O60: each event's condition holds. -/
theorem securityCommandsComplete : Obligations.SecurityCommandsComplete := by
  unfold Obligations.SecurityCommandsComplete
  refine ⟨fun c s h => Runs.accepted h rfl rfl, fun c s h => Runs.accepted h rfl rfl, fun c s h => Runs.accepted h rfl rfl,
    fun c s h => Runs.accepted h rfl rfl, fun c s h => Runs.accepted h rfl rfl,
    fun i v s j hj hl hi => ⟨Runs.of (exec_fwStageBlock hj hl hi) rfl, Runs.of (exec_fwStageBlock hj hl hi) rfl⟩,
    fun c s h => Runs.accepted h rfl rfl, fun c s h => Runs.accepted h rfl rfl, fun s t hon ht hw => ?trial,
    fun c s h ha => Runs.accepted h rfl (if_pos ha), fun c s h => Runs.accepted h rfl rfl, fun c s h => Runs.accepted h rfl rfl,
    fun c s h => Runs.accepted h rfl rfl⟩
  case trial =>
    have hdue : (match s.sec.trialSince with | some t => decide (t + sDT (s.f R.UPDATE_CFG 15 0) ≤ s.dt) | none => false) = true := by
      rw [ht]
      exact decide_eq_true hw
    exact Runs.of rfl (if_pos ⟨hon, hdue⟩)

end Sys2Proof.Machine
end
